-- ==== Sys2Proof/Word.lean ====
section
/-! DEFINITION. The words of the FD-412: bytes, halfwords, 32-bit words and pixels. -/

namespace Sys2Proof

/-- One byte of exchange memory. -/
abbrev Byte := BitVec 8

/-- A 16-bit quantity that software reads and writes whole (a delivery number, a set of groups). -/
abbrev Half := BitVec 16

/-- A 32-bit word: the data of a port access, a register word, a reference. -/
abbrev Word := BitVec 32

/-- A colour in 5-6-5 form: red in bits 15-11, green in bits 10-5, blue in bits 4-0 (section G of Envelopes and Formats). -/
abbrev Pixel := BitVec 16

end Sys2Proof
end

