-- ==== Sys2Proof/Syntax.lean ====
section
/-! DEFINITION. The commands of the FD-412: one constructor for each row of spec/opcode_table.json, with the operands that
the event brings from outside the part. A hub request's command carries no operand: its parameters stand in the payload
of the request at the head of the HUB FIFO, which the hub service takes (R95). -/

namespace Sys2Proof

/-- A domain with a processor and a port: APP, PAY or RAD (section D of the overview). -/
inductive Domain where
  | app
  | pay
  | rad
  deriving DecidableEq, Repr

/-- A lane with slot boards: A0 to A7, PAY or RAD (section D of the overview). -/
inductive Lane where
  | app (x : Fin 8)
  | pay
  | rad
  deriving DecidableEq, Repr

/-- What a processor asks of its port: a read, or a write of the low bytes of a word (R1). -/
inductive PortOp where
  | read
  | write (value : Word)
  deriving DecidableEq, Repr

/-- The phase that a touch report gives for a contact; `other` is any code that is none of the three (R139). -/
inductive RawPhase where
  | down
  | move
  | up
  | other
  deriving DecidableEq, Repr

/-- One contact of a touch report: contact id, phase, raw x and raw y (R138). -/
structure RawContact where
  id : Nat
  phase : RawPhase
  x : Nat
  y : Nat
  deriving DecidableEq, Repr

/-- The commands of the part, in the order of spec/opcode_table.json. -/
inductive Instr where
  /-- POWER_ON_RESET (R4): the part goes into power-on reset. -/
  | powerOnReset
  /-- PIN_RESET (R3): the pin reset input is asserted. -/
  | pinReset
  /-- RESET_END (R106): the reset ends, with the touch report-ready line low or not. -/
  | resetEnd (reportReadyLow : Bool)
  /-- PORT_ACCESS (R1): a processor accesses `size` bytes at `offset` of its port's address space. -/
  | portAccess (port : Domain) (offset size : Nat) (op : PortOp)
  /-- ATTENTION_LANES (R5): a write of a value to ATTENTION. -/
  | attentionLanes (port : Domain) (value : Word)
  /-- SELF_ANNOUNCED_RESTART (R20): a write of the restart word to ATTENTION. -/
  | selfAnnouncedRestart (port : Domain)
  /-- BOARD_INITIALISATION_COMPLETE (R19). -/
  | boardInitialisationComplete (domain : Domain)
  /-- ACKNOWLEDGE (R162): a write of a value to ACKNOWLEDGE. -/
  | acknowledge (port : Domain) (value : Word)
  /-- IDENTITY_WRITE (R9): a write of a value to IDENTITY. -/
  | identityWrite (port : Domain) (value : Word)
  /-- STATUS_WRITE (R8): a write of a value to STATUS. -/
  | statusWrite (port : Domain) (value : Word)
  /-- TAKE (R14): the next take of the take engine, with the grant that begins a visit (R13). -/
  | take
  /-- REFILL (R46): a budgeted route's refill timer reaches its interval. -/
  | refill (route : Nat)
  /-- DELIVERY (R67): an attempt to deliver the head of a lane's FIFO (R66). -/
  | delivery (lane : Lane)
  /-- HOLD_LIMIT_DROP (R71): the entry at a place of a lane's FIFO has stood 1,000 ms. -/
  | holdLimitDrop (lane : Lane) (place : Nat)
  /-- EVENT_CELL_DROP (R72): the event cell at a place of a lane's FIFO has stood 250 ms. -/
  | eventCellDrop (lane : Lane) (place : Nat)
  /-- EXPIRY (R81): an exchange entry reaches its deadline time. -/
  | expiry (entry : Fin 48)
  /-- UNKNOWN_REQUEST_CODE (R96): the hub service takes a request with no code of TABLE N. -/
  | unknownRequestCode
  /-- LOAD_ROUTES (R52): the hub service takes a LOAD ROUTES. -/
  | loadRoutes
  /-- LOAD_ROUTES_COMPLETION (R54): the image judgement completes. -/
  | loadRoutesCompletion
  /-- SET_PANES (R123): the hub service takes a SET PANES. -/
  | setPanes
  /-- SCROLL_PANE (R127): the hub service takes a SCROLL PANE. -/
  | scrollPane
  /-- SET_CALIBRATION (R140): the hub service takes a SET CALIBRATION. -/
  | setCalibration
  /-- SET_FOCUS (R147): the hub service takes a SET FOCUS. -/
  | setFocus
  /-- SET_LINE_MAP (R150): the hub service takes a SET LINE MAP. -/
  | setLineMap
  /-- SET_COMBINER (R160): the hub service takes a SET COMBINER. -/
  | setCombiner
  /-- DRIVE_LINE (R155): the hub service takes a DRIVE LINE whose action is not PULSE. -/
  | driveLine
  /-- DRIVE_LINE_PULSE (R155): the hub service takes a DRIVE LINE whose action is PULSE. -/
  | driveLinePulse
  /-- PULSE_END (R156): a PULSING line reaches its end time. -/
  | pulseEnd (line : Fin 12)
  /-- SET_NOTICES (R164): the hub service takes a SET NOTICES. -/
  | setNotices
  /-- DOMAIN_RESET_HOLD (R111): the hub service takes a DOMAIN RESET whose action is neither RELEASE nor PULSE. -/
  | domainResetHold
  /-- DOMAIN_RESET_RELEASE (R112): the hub service takes a DOMAIN RESET whose action is RELEASE. -/
  | domainResetRelease
  /-- DOMAIN_RESET_PULSE (R113): the hub service takes a DOMAIN RESET whose action is PULSE. -/
  | domainResetPulse
  /-- PULSE_RELEASE (R113): the release that a PULSE scheduled falls. -/
  | pulseRelease (domain : Domain)
  /-- FENCE_LANE (R118): the hub service takes a FENCE LANE. -/
  | fenceLane
  /-- RESTORE_LANE (R119): the hub service takes a RESTORE LANE. -/
  | restoreLane
  /-- SET_VIOLATION_LIMIT (R120): the hub service takes a SET VIOLATION LIMIT. -/
  | setViolationLimit
  /-- READ_COUNTERS (R102): the hub service takes a READ COUNTERS. -/
  | readCounters
  /-- STATUS (R103): the hub service takes a STATUS request. -/
  | status
  /-- RESUME (R101): the hub service takes a RESUME. -/
  | resume
  /-- RESTART_HUB (R104): the hub service takes a RESTART HUB. -/
  | restartHub
  /-- APP_FRAME_START (R130): a frame start arrives at the APP video input. -/
  | appFrameStart
  /-- APP_INPUT_ROW (R130): the next row arrives at the APP video input. -/
  | appInputRow (pixels : List Pixel)
  /-- VIDEO_LOSS (R131): the video timer reaches 100 ms. -/
  | videoLoss
  /-- FREE_RUN_ROW_SLOT (R132): the frame timer reaches the time of the next row slot. -/
  | freeRunRowSlot
  /-- FREE_RUN_FRAME_END (R132): the frame timer reaches 16,667 µs. -/
  | freeRunFrameEnd
  /-- REPORT_READY_FALL (R138): the touch report-ready line falls. -/
  | reportReadyFall
  /-- TOUCH_READ_COMPLETION (R138): a read ends with a report, or unacknowledged, with the report-ready line low or not. -/
  | touchReadCompletion (report : Option (List RawContact)) (reportReadyLow : Bool)
  /-- KEY_SENSE (R148): all sixteen keys are sensed; bit k is set while key k is down. -/
  | keySense (down : BitVec 16)
  /-- KEY_CHANGE_ACCEPTED (R149): the sensing that brings one key's change timer to 20 ms. -/
  | keyChangeAccepted (key : Fin 16)
  /-- LINE_SAMPLE (R151): every IN line is sampled; bit n is the level at line n. -/
  | lineSample (levels : BitVec 12)
  /-- FILTERED_CHANGE (R153): the third consecutive differing sample of one line. -/
  | filteredChange (line : Fin 12)
  /-- SETTLING_END (R152): the third equal sample in a row of one settling line. -/
  | settlingEnd (line : Fin 12)
  deriving DecidableEq, Repr

end Sys2Proof
end

