-- ==== Sys2Proof/Decode.lean ====
section
/-! DEFINITION. The reading of a command from a word by the table's bits. -/

namespace Sys2Proof

/-- The command that a word spells by the bits of spec/opcode_table.json. No row of the table gives bits or fields (the part
takes commands at its ports and pins, not instruction words), so no word spells a command. -/
def decodeTableWord (_nbits _w : Nat) : Option Instr := none

end Sys2Proof
end

