-- ==== Sys2Proof/Config.lean ====
section
/-! DEFINITION. The constants that the FD-412's reference fixes in the part: counts, limits, times and code values.
Times are in microseconds of the part's timebase. The reference leaves no instruction's result open, so there is no free
value here; what it leaves open (power-on contents of XM, instants inside a bound) is said in notes/assumptions. -/

namespace Sys2Proof.Config

/-- Message buffers that serve messages of domains, buffers 0 to 29 (R57). -/
abbrev domainBuffers : Nat := 30
/-- Message buffers reserved for hub replies, buffers 30 and 31 (R57). -/
abbrev replyBuffers : Nat := 2
/-- Event cells (section B of The Holding Queue and Delivery). -/
abbrev eventCells : Nat := 24
/-- Exchange entries (section A of Open Exchanges). -/
abbrev exchangeEntries : Nat := 48
/-- Route entries at most (section A of Routes and Admission). -/
abbrev maxRoutes : Nat := 64
/-- Bytes of payload of a slot at most (section C of Exchange Memory and Slot Boards). -/
abbrev maxPayload : Nat := 496
/-- Bytes of a slot. -/
abbrev slotBytes : Nat := 512
/-- A tag field that carries no tag (section E of Envelopes and Formats). -/
abbrev noTag : Nat := 0xFFFF
/-- The detail of a PARAMETER result that names no item (R33). -/
abbrev noItem : Nat := 0xFFFF
/-- The restart word (TABLE G of Envelopes and Formats). -/
abbrev restartWord : Word := 0x52535452#32

/-- One millisecond of the timebase. -/
abbrev ms : Nat := 1000
/-- Board initialisation completes at most 20 µs after its start (R19). -/
abbrev initLimit : Nat := 20
/-- LOAD ROUTES completes at most 100 µs after its read (R52). -/
abbrev loadLimit : Nat := 100
/-- A hub request's deadline, 500 ms (R44). -/
abbrev hubDeadline : Nat := 500
/-- The hold limit of a NOTICE, a real ANSWER or a hub reply, 1,000 ms (R71). -/
abbrev messageHold : Nat := 1000 * ms
/-- The hold limit of an event cell, 250 ms (R72). -/
abbrev cellHold : Nat := 250 * ms
/-- The release of a DOMAIN RESET PULSE, 20 ms after its take (R113). -/
abbrev pulseLength : Nat := 20 * ms
/-- The video timer at which the APP video is deemed lost, 100 ms (R131). -/
abbrev videoLimit : Nat := 100 * ms
/-- The time between two row slots in FREE-RUN mode, 52 µs (R132). -/
abbrev slotTime : Nat := 52
/-- The length of a free-run frame, 16,667 µs (R132). -/
abbrev frameTime : Nat := 16667
/-- Sensings that accept a key change: 20 (R148). -/
abbrev keySenses : Nat := 20

/-- Panel rows. -/
abbrev rows : Nat := 320
/-- Pixels of a panel row. -/
abbrev columns : Nat := 240
/-- Lines of the secure frame store (R135). -/
abbrev storeLines : Nat := 256

end Sys2Proof.Config
end

