-- ==== Sys2Proof/Machine/State.lean ====
section
/-! DEFINITION. The state of the FD-412 as plain data: every register, queue, table, timer and setting that the reference
gives the part, and `State.reset`, the part at the end of a power-on reset. -/

namespace Sys2Proof.Machine

/-! ## Exchange memory -/

/-- The bytes of one window of exchange memory, as pairs of an offset and a byte: offsets strictly rising, and no byte 0.
A byte that is not listed reads as 0 (DESIGN CHOICE, unsafe: notes/assumptions/1). -/
abbrev Memory := List Host.Cell

/-! ## Names -/

/-- The state of a domain (R106). PAY is never `held`. -/
inductive DomainState where
  | held
  | waiting
  | up
  deriving DecidableEq, Repr

/-- The hub mode (section B of The Hub Service and Hub Modes). -/
inductive HubMode where
  | boot
  | openMode
  | lockdown
  deriving DecidableEq, Repr

/-- The kinds of message that a domain sends (TABLE B of Envelopes and Formats). -/
inductive Kind where
  | request
  | notice
  | answer
  deriving DecidableEq, Repr

/-- An address: a domain and a service that exists in it (R24). -/
inductive Address where
  | app (lane : Fin 8)
  | pay (service : Fin 16)
  | rad (service : Fin 16)
  | hub
  deriving DecidableEq, Repr

/-- The recipient lane that an address names: a lane with slot boards, or the hub service (R24). -/
inductive Recipient where
  | board (lane : Lane)
  | hub
  deriving DecidableEq, Repr

/-- The conclusions that the exchange table keeps for a CLOSING entry (TABLE A of Open Exchanges). -/
inductive Conclusion where
  | expired
  | undelivered
  | targetDown
  | lockdown
  deriving DecidableEq, Repr

/-- The fifteen outcomes of a take (R31). -/
inductive TakeOutcome where
  | accepted
  | malformed
  | badKind
  | noRoute
  | tooLong
  | budget
  | limit
  | noExchange
  | notReady
  | targetDown
  | fenced
  | lockdown
  | stale
  | late
  | forged
  deriving DecidableEq, Repr

/-- The results of a hub request (TABLE M of Envelopes and Formats). -/
inductive HubResult where
  | done
  | authority
  | mode
  | parameter
  | busy
  | superseded
  | cancelled
  deriving DecidableEq, Repr

/-- The notice flags of a domain (TABLE A of Notices and Event Lines); INBOUND and OUTCOME are one flag a lane. -/
inductive Flag where
  | inbound (lane : Lane)
  | outcome (lane : Lane)
  | line
  | inputLost
  | capture
  | video
  | fence
  | mode
  | panes
  | domain
  | alarm
  deriving DecidableEq, Repr

/-! ## Messages and the recipient FIFOs -/

/-- What a message buffer keeps of an accepted message (R22, R84): kind, sender lane, address, tag, reference and the
payload, whose length is the length field. For an ANSWER the address and the reference are those of the request answered. -/
structure Message where
  kind : Kind
  sender : Lane
  address : Address
  tag : Nat
  reference : Word
  payload : List Byte
  deriving DecidableEq, Repr

/-- A domain's message in its buffer, one of buffers 0 to 29, with the time at which it joined its FIFO (R57, R71). -/
structure Held where
  buffer : Fin 30
  message : Message
  joined : Nat
  deriving DecidableEq, Repr

/-- A hub reply in its reserved buffer, 30 + `buffer`, with the time at which it joined its FIFO (R57, R97). -/
structure Reply where
  buffer : Fin 2
  tag : Nat
  reference : Word
  payload : List Byte
  joined : Nat
  deriving DecidableEq, Repr

/-- The phases of a TOUCH event (TABLE L of Envelopes and Formats). -/
inductive TouchPhase where
  | down
  | move
  | up
  | cancel
  deriving DecidableEq, Repr

/-- The actions of a KEY event (TABLE L of Envelopes and Formats). -/
inductive KeyAction where
  | down
  | up
  | cancel
  deriving DecidableEq, Repr

/-- A calibrated contact placed on the panel (R142). `stored` is the store-line-present flag. -/
structure Placement where
  x : Nat
  y : Nat
  pane : Nat
  row : Nat
  storeLine : Nat
  stored : Bool
  deriving DecidableEq, Repr

/-- An input event (section B of The Holding Queue and Delivery). -/
inductive InputEvent where
  | touch (id : Fin 2) (phase : TouchPhase) (place : Placement)
  | key (key : Fin 16) (action : KeyAction)
  | line (tag : Byte) (number : Fin 12) (level mismatch : Bool)
  deriving DecidableEq, Repr

/-- An entry of a board lane's FIFO (section C of The Holding Queue and Delivery). A buffer or an event cell in use stands
in exactly one FIFO, once (R58, R63), so the storage is held by the entry itself: a buffer is free while no entry of any
FIFO bears its number, and the cells in use are the cell entries. A conclusion reference names its exchange entry. -/
inductive Entry where
  | message (held : Held)
  | reply (reply : Reply)
  | cell (event : InputEvent) (joined : Nat)
  | conclusion (entry : Fin 48)
  deriving DecidableEq, Repr

/-! ## Lanes -/

/-- What the part's units keep for each of the ten lanes with slot boards. -/
structure LaneState where
  /-- The slot of the outbound board at which the next search for a FILLED slot begins (R18). -/
  takeCursor : Nat
  /-- The lane asks the board scanner for a visit (R15). -/
  scanWanted : Bool
  /-- The lane's last take was held back and no buffer has been released since (R16, R17). -/
  bufferWait : Bool
  /-- The slot of the inbound board at which the next search for a FREE slot begins (R68). -/
  putCursor : Nat
  /-- The number that the next delivery is stamped with, wrapping (R68). -/
  deliveryNumber : Half
  /-- The inbound board was found with no FREE slot and no word of room has come (R66). -/
  roomWait : Bool
  /-- A TOUCH or KEY event for the lane was lost since the last one delivered (R62). -/
  gapPending : Bool
  /-- The lane's recipient FIFO, head first (R63). -/
  fifo : List Entry
  /-- The lane is fenced (R117). -/
  fenced : Bool
  /-- The lane is marked auto-fenced (R49). -/
  autoFenced : Bool
  /-- The violation tally, 0-255 (R48). -/
  tally : Nat
  /-- The violation limit, 0-255 (R50). -/
  limit : Nat
  /-- The five counters, 0-65535 (R51). -/
  admitted : Nat
  refused : Nat
  violations : Nat
  dropped : Nat
  inputLost : Nat
  deriving DecidableEq, Repr

/-! ## Ports, domains and notices -/

/-- What the part's units keep for each domain with a processor. -/
structure DomainRecord where
  /-- The port's window of exchange memory, by window offset (TABLE A of Exchange Memory and Slot Boards). -/
  window : Memory
  /-- The state that domain control holds (R106). -/
  status : DomainState
  /-- While board initialisation runs, the time at which it began (R19). -/
  initialising : Option Nat
  /-- The remembered lane set: bit x for Ax, bit 0 for PAY and RAD (R5, R19). -/
  remembered : Byte
  /-- The stray access count, 0-255 (R3). -/
  stray : Nat
  /-- The time of the release that a DOMAIN RESET PULSE has scheduled (R113); APP and RAD only. -/
  release : Option Nat
  /-- The notice flags, in the bit positions of STATUS (TABLE G of Envelopes and Formats). -/
  flags : Word
  /-- The enabled groups, by the bits of SET NOTICES (R163, TABLE N). -/
  enables : Half
  /-- The groups of priority URGENT; the others are ROUTINE (R163). -/
  urgent : Half
  /-- The split setting (R163). -/
  split : Bool
  /-- The data that the port's latest read returned (the model's own record of a read's result). -/
  readData : Word
  deriving DecidableEq, Repr

/-! ## Exchange table -/

/-- What an exchange entry records of its exchange (TABLE A of Open Exchanges). The deadline is a time of the timebase in
microseconds. The responder lane is the one the address names (R24). -/
structure Exchange where
  requester : Lane
  reference : Word
  responder : Address
  deadline : Nat
  answerLimit : Nat
  deriving DecidableEq, Repr

/-- The states of an exchange entry (R77); a CLOSING entry keeps its conclusion and the late-seen mark (R76). -/
inductive ExchangeState where
  | free
  | posted (exchange : Exchange)
  | awaited (exchange : Exchange)
  | closing (exchange : Exchange) (conclusion : Conclusion) (lateSeen : Bool)
  | lapsed (exchange : Exchange)
  deriving DecidableEq, Repr

/-- An exchange entry; its index is its place in the table. The generation wraps from 1023 to 0 (R29). -/
structure ExchangeEntry where
  generation : BitVec 10
  state : ExchangeState
  deriving DecidableEq, Repr

/-! ## Routes -/

/-- The source of a route: one lane, or A*, any application lane (R34). -/
inductive RouteSource where
  | lane (lane : Lane)
  | anyApp
  deriving DecidableEq, Repr

/-- A budget with its runtime state (R46). The refill timer is the time since `timerZero`. -/
structure Budget where
  burst : Nat
  interval : Nat
  level : Nat
  timerZero : Nat
  deriving DecidableEq, Repr

/-- A route entry (TABLE A of Routes and Admission). The target is an address of APP, PAY or RAD; times are in ms. -/
structure Route where
  source : RouteSource
  target : Address
  requestAllowed : Bool
  noticeAllowed : Bool
  requestLimit : Nat
  answerLimit : Nat
  deadline : Nat
  budget : Option Budget
  deriving DecidableEq, Repr

/-- The image that LOAD ROUTES has read: the count word, and the bytes of each entry when the count is 64 or less (R52). -/
structure RouteImage where
  count : Nat
  entries : List (List Byte)
  deriving DecidableEq, Repr

/-! ## Hub service -/

/-- What an outstanding hub request waits for (R94). -/
inductive Job where
  /-- The completion of a LOAD ROUTES. -/
  | loadRoutes
  /-- The frame start that applies the staged pane table. -/
  | setPanes
  /-- The frame start that applies a pending scroll. -/
  | scrollPane
  /-- The release of a DOMAIN RESET PULSE of the domain. -/
  | pulse (domain : Domain)
  deriving DecidableEq, Repr

/-- An item of the list of outstanding requests (R94); the request code is that of its job. -/
structure Outstanding where
  job : Job
  requester : Lane
  tag : Nat
  deriving DecidableEq, Repr

/-- A LOAD ROUTES between its read and its completion: the image read and the time of the read (R52). -/
structure Loading where
  image : RouteImage
  began : Nat
  deriving DecidableEq, Repr

/-- The hub service (R94). The loading mark is set while `loading` holds an image. -/
structure Hub where
  mode : HubMode
  routesLoaded : Bool
  loading : Option Loading
  outstanding : List Outstanding
  /-- The HUB FIFO, head first (R70). -/
  fifo : List Held
  deriving DecidableEq, Repr

/-! ## Panel path -/

/-- The source of a pane's rows (TABLE A of Panes and the Panel Path). -/
inductive PaneSource where
  | appVideo
  | secure
  | fill
  deriving DecidableEq, Repr

/-- A pane record (TABLE A of Panes and the Panel Path); the owner is APP or PAY. -/
structure Pane where
  height : Nat
  ownerPay : Bool
  source : PaneSource
  capture : Bool
  shade : Bool
  base : Nat
  offset : Nat
  deriving DecidableEq, Repr

/-- A pane table: the fill colour and one to four panes from the top (R121). -/
structure PaneTable where
  fill : Pixel
  panes : List Pane
  deriving DecidableEq, Repr

/-- The default table (R121). -/
def defaultTable : PaneTable :=
  ⟨0x0000#16, [⟨320, false, .appVideo, false, false, 0, 0⟩]⟩

/-- The lockdown table (R121). -/
def lockdownTable : PaneTable :=
  ⟨0x0000#16, [⟨320, true, .fill, false, false, 0, 0⟩]⟩

/-- The frame mode (section C of Panes and the Panel Path). -/
inductive FrameMode where
  | following
  | freeRun
  deriving DecidableEq, Repr

/-- What the part sends to the panel: a frame start, or the pixels of a row slot. -/
inductive PanelSignal where
  | frameStart
  | row (slot : Nat) (pixels : List Pixel)
  deriving DecidableEq, Repr

/-- A pending scroll: pane index and new offset (R127). -/
structure Scroll where
  pane : Nat
  offset : Nat
  deriving DecidableEq, Repr

/-- The panel path (R121, R129). The video timer is the time since `videoZero`, the frame timer the time since
`frameZero`. `sent` is what the latest event of the panel path sent to the panel, in order (the model's own record). -/
structure Panel where
  active : PaneTable
  staged : Option PaneTable
  scrolls : List Scroll
  mode : FrameMode
  nextSlot : Nat
  videoZero : Nat
  frameZero : Nat
  sent : List PanelSignal
  deriving DecidableEq, Repr

/-! ## Touch router and key scanner -/

/-- The state of the touch link (R138). -/
inductive LinkState where
  | idle
  | reading
  | retrying
  deriving DecidableEq, Repr

/-- The calibration record (R140). -/
structure Calibration where
  xmin : Nat
  xmax : Nat
  ymin : Nat
  ymax : Nat
  swap : Bool
  flipX : Bool
  flipY : Bool
  deriving DecidableEq, Repr

/-- An ACTIVE contact: its owner (`none`: unrouted) and the placement of the latest report taken for it. -/
structure Contact where
  owner : Option Lane
  place : Placement
  deriving DecidableEq, Repr

/-- The touch router (R138, R140, R143, R147). A contact record is ABSENT while it is `none`. -/
structure Touch where
  link : LinkState
  readPending : Bool
  calibration : Calibration
  focus : Fin 8
  contacts : Vector (Option Contact) 2
  deriving DecidableEq, Repr

/-- A key record: accepted state, change timer in ms and owner (section E of Touch and Key Routing). -/
structure Key where
  pressed : Bool
  timer : Nat
  owner : Option Lane
  deriving DecidableEq, Repr

/-! ## Lines and the alarm combiner -/

/-- The edges that a line tells its owner of (R153). -/
inductive Edge where
  | rise
  | fall
  | both
  deriving DecidableEq, Repr

/-- A line map entry (TABLE A of Lines and the Alarm Combiner); levels are `true` for high. -/
structure LineEntry where
  out : Bool
  owner : Option Domain
  edge : Edge
  expected : Bool
  rest : Bool
  tag : Byte
  deliver : Bool
  deriving DecidableEq, Repr

/-- The filter of a line. An OUT line has none; a settling line has its candidate level and run once it has been sampled;
a settled line has its filtered level and filter count (R151, R152). -/
inductive Filter where
  | off
  | settling (run : Option (Bool × Nat))
  | settled (level : Bool) (count : Nat)
  deriving DecidableEq, Repr

/-- The output state of a line (R155); a pulse has its end time. -/
inductive OutputState where
  | resting
  | driven (level : Bool)
  | pulsing (ends : Nat)
  deriving DecidableEq, Repr

/-- What the line unit keeps for each line. -/
structure Line where
  entry : LineEntry
  filter : Filter
  mismatch : Bool
  output : OutputState
  deriving DecidableEq, Repr

/-- The alarm combiner (section D of Lines and the Alarm Combiner). The sets have bits 0-11 for L0 to L11, bit 12 for VIOL
and bit 13 for VIDEO. -/
structure Combiner where
  includes : BitVec 14
  inverts : BitVec 14
  outputInvert : Bool
  alertEnable : Bool
  arm : Bool
  output : Bool
  deriving DecidableEq, Repr

/-! ## The board scanner and the whole part -/

/-- The board scanner (section D of Exchange Memory and Slot Boards): the next-lane position, and the lane whose visit has
made its first take and is to make its second. -/
structure Scanner where
  nextLane : Lane
  visit : Option Lane
  deriving DecidableEq, Repr

/-- The state of the part. -/
structure State where
  /-- The part's timebase, in microseconds. -/
  now : Nat
  /-- The part is in power-on reset, or its pin reset input is asserted (R106). -/
  inReset : Bool
  app : DomainRecord
  pay : DomainRecord
  rad : DomainRecord
  /-- The lanes A0 to A7, PAY and RAD, by lane code (R25). -/
  lanes : Vector LaneState 10
  scanner : Scanner
  exchanges : Vector ExchangeEntry 48
  /-- The route table, by index (R34). -/
  routes : List Route
  hub : Hub
  panel : Panel
  touch : Touch
  keys : Vector Key 16
  lines : Vector Line 12
  combiner : Combiner
  /-- The commands that are waiting, first in, first out. -/
  pending : List Instr
  deriving DecidableEq, Repr

/-! ## Why a step can stop -/

/-- The faults of the part: none. The reference gives every command an effect in every state (a stray access reads zero,
an event whose conditions do not hold does not take place), so no meaning stops with a fault. -/
inductive Fault where
  deriving DecidableEq, Repr

/-- The refusals. -/
inductive Refusal where
  /-- Raised by an arm of `exec` whose command has no meaning yet; safe, since nothing is claimed of that command. -/
  | notModelled (mnemonic : String)
  deriving DecidableEq, Repr

/-! ## The state after reset -/

/-- A lane after power-on reset and pin reset (R15, R17, R18, R50, R51, R62, R66, R68, R117). -/
def LaneState.reset : LaneState where
  takeCursor := 0
  scanWanted := false
  bufferWait := false
  putCursor := 0
  deliveryNumber := 0#16
  roomWait := false
  gapPending := false
  fifo := []
  fenced := false
  autoFenced := false
  tally := 0
  limit := 0
  admitted := 0
  refused := 0
  violations := 0
  dropped := 0
  inputLost := 0

/-- A domain after reset, WAITING, with its window and whether its board initialisation runs (R3, R19, R106, R165). The
default enables are INBOUND, OUTCOME and MODE, groups 0, 1 and 7. -/
def DomainRecord.reset (window : Memory) (initialising : Option Nat) : DomainRecord where
  window := window
  status := .waiting
  initialising := initialising
  remembered := 0#8
  stray := 0
  release := none
  flags := 0#32
  enables := 0x0083#16
  urgent := 0#16
  split := true
  readData := 0#32

/-- The hub service after power-on reset and pin reset (R94). -/
def Hub.reset : Hub where
  mode := .boot
  routesLoaded := false
  loading := none
  outstanding := []
  fifo := []

/-- The default calibration record (R140). -/
def Calibration.default : Calibration where
  xmin := 0
  xmax := 4095
  ymin := 0
  ymax := 4095
  swap := false
  flipX := false
  flipY := false

/-- The touch router after reset (R138, R140, R146, R147); a read is begun where the report-ready line is low. -/
def Touch.reset (link : LinkState) : Touch where
  link := link
  readPending := false
  calibration := Calibration.default
  focus := 0
  contacts := Vector.replicate 2 none

/-- A key after reset (R148). -/
def Key.reset : Key := ⟨false, 0, none⟩

/-- The default line map entry (TABLE A of Lines and the Alarm Combiner). -/
def LineEntry.default : LineEntry where
  out := false
  owner := none
  edge := .both
  expected := false
  rest := false
  tag := 0#8
  deliver := false

/-- A line after reset, with the filter given: settling from the end of the reset on (R150, R152, R154, R155). -/
def Line.reset (filter : Filter) : Line := ⟨LineEntry.default, filter, false, .resting⟩

/-- The combiner after reset (TABLE B of Lines and the Alarm Combiner). -/
def Combiner.reset : Combiner := ⟨0#14, 0#14, false, false, false, false⟩

/-- The panel path after reset (R129): FREE-RUN, the default table, nothing staged; `sent` is what the event sent. The frame timer
starts from 0 (R129). That the video timer does too is a DESIGN CHOICE, since the reference gives it no value after reset
(notes/assumptions/34). -/
def Panel.reset (now : Nat) (sent : List PanelSignal) : Panel where
  active := defaultTable
  staged := none
  scrolls := []
  mode := .freeRun
  nextSlot := 0
  videoZero := now
  frameZero := now
  sent := sent

/-- The part at the end of a power-on reset with the touch report-ready line high (R106): the reset outputs are released,
the three domains are WAITING with their board initialisation begun, every line settles, and a panel frame start has just
taken place. -/
def State.reset : State where
  now := 0
  inReset := false
  app := DomainRecord.reset [] (some 0)
  pay := DomainRecord.reset [] (some 0)
  rad := DomainRecord.reset [] (some 0)
  lanes := Vector.replicate 10 LaneState.reset
  scanner := ⟨.app 0, none⟩
  exchanges := Vector.replicate 48 ⟨0#10, .free⟩
  routes := []
  hub := Hub.reset
  panel := Panel.reset 0 [.frameStart]
  touch := Touch.reset .idle
  keys := Vector.replicate 16 Key.reset
  lines := Vector.replicate 12 (Line.reset (.settling none))
  combiner := Combiner.reset
  pending := []

end Sys2Proof.Machine
end

