-- ==== Sys2Proof/Machine/Ops.lean ====
section
/-! DEFINITION. The named operations over exchange memory and over the records of State: reading and writing bytes, and
reading and replacing the record of a domain, a lane, an exchange entry, a contact, a key or a line. -/

namespace Sys2Proof.Machine

/-! ## Bytes -/

/-- The low `n` bytes of a number, least significant byte first (section G of Envelopes and Formats). -/
def bytesOf : Nat → Nat → List Byte
  | 0, _ => []
  | n + 1, v => BitVec.ofNat 8 v :: bytesOf n (v / 256)

/-- The number that bytes spell, least significant byte first. -/
def natOf : List Byte → Nat
  | [] => 0
  | b :: bs => b.toNat + 256 * natOf bs

/-! ## Exchange memory -/

/-- The byte at an offset; an unlisted byte is 0 (notes/assumptions/1). -/
def Memory.read : Memory → Nat → Byte
  | [], _ => 0#8
  | (b, v) :: rest, a => if b = a then v else Memory.read rest a

/-- `n` bytes from an offset up. -/
def Memory.readBytes (m : Memory) (a : Nat) : Nat → List Byte
  | 0 => []
  | n + 1 => Memory.read m a :: Memory.readBytes m (a + 1) n

/-- The cells that hold bytes from an offset up, with none for a byte 0. -/
def Memory.cellsOf (a : Nat) : List Byte → Memory
  | [] => []
  | b :: bs => if b = 0#8 then Memory.cellsOf (a + 1) bs else (a, b) :: Memory.cellsOf (a + 1) bs

/-- Memory with bytes written from an offset up, in canonical form. -/
def Memory.write (m : Memory) (a : Nat) (bs : List Byte) : Memory :=
  m.filter (fun c => decide (c.1 < a)) ++ Memory.cellsOf a bs ++ m.filter (fun c => decide (a + bs.length ≤ c.1))

/-- Memory with the bytes that `p` picks set to 0, which is the code of FREE. -/
def Memory.clear (m : Memory) (p : Nat → Bool) : Memory :=
  m.filter (fun c => !p c.1)

/-- The canonical form: offsets strictly rising, and no byte that an unlisted offset would read as. -/
abbrev Memory.wf (m : Memory) : Prop :=
  m.Pairwise (fun c d => c.1 < d.1) ∧ ∀ c ∈ m, c.2 ≠ 0#8

/-- Every listed offset lies in a window of the given size. -/
abbrev Memory.below (size : Nat) (m : Memory) : Prop :=
  ∀ c ∈ m, c.1 < size

end Sys2Proof.Machine

namespace Sys2Proof

/-! ## Lanes and domains -/

/-- The lane code (R25). -/
def Lane.code : Lane → Fin 10
  | .app x => ⟨x.val, by omega⟩
  | .pay => 8
  | .rad => 9

/-- The lane of a lane code. -/
def Lane.ofCode (c : Nat) : Option Lane :=
  if h : c < 8 then some (.app ⟨c, h⟩) else if c = 8 then some .pay else if c = 9 then some .rad else none

/-- The domain whose window holds the lane's boards. -/
def Lane.domain : Lane → Domain
  | .app _ => .app
  | .pay => .pay
  | .rad => .rad

/-- The lane is one of the application lanes A0 to A7. -/
def Lane.isApp : Lane → Bool
  | .app _ => true
  | .pay | .rad => false

/-- The lanes of a domain. -/
def Domain.lanes : Domain → List Lane
  | .app => [.app 0, .app 1, .app 2, .app 3, .app 4, .app 5, .app 6, .app 7]
  | .pay => [.pay]
  | .rad => [.rad]

/-- The first lane of a domain: A0, PAY or RAD (R153). -/
def Domain.firstLane : Domain → Lane
  | .app => .app 0
  | .pay => .pay
  | .rad => .rad

/-- The domain code, which is also the port code (R25, TABLE G of Envelopes and Formats). -/
def Domain.code : Domain → Nat
  | .app => 1
  | .pay => 2
  | .rad => 3

end Sys2Proof

namespace Sys2Proof.Machine

/-- The ten lanes in the fixed cyclic order of the board scanner (section D of Exchange Memory and Slot Boards). -/
def allLanes : List Lane :=
  [.app 0, .app 1, .app 2, .app 3, .app 4, .app 5, .app 6, .app 7, .pay, .rad]

/-! ## The record of a domain -/

/-- The record of a domain. -/
def State.dom (s : State) : Domain → DomainRecord
  | .app => s.app
  | .pay => s.pay
  | .rad => s.rad

/-- The state with a domain's record replaced. -/
def State.setDom (s : State) (d : Domain) (r : DomainRecord) : State :=
  match d with
  | .app => { s with app := r }
  | .pay => { s with pay := r }
  | .rad => { s with rad := r }

/-- The state with a domain's record changed. -/
def State.updDom (s : State) (d : Domain) (f : DomainRecord → DomainRecord) : State :=
  s.setDom d (f (s.dom d))

/-- The window of a domain's port. -/
def State.window (s : State) (d : Domain) : Memory := (s.dom d).window

/-- The state with bytes written into a domain's window. -/
def State.writeWindow (s : State) (d : Domain) (a : Nat) (bs : List Byte) : State :=
  s.updDom d fun r => { r with window := Memory.write r.window a bs }

/-- The domain is UP (R106). -/
def State.isUp (s : State) (d : Domain) : Bool := decide ((s.dom d).status = .up)

/-! ## The record of a lane -/

/-- The record of a lane. -/
def State.lane (s : State) (l : Lane) : LaneState := s.lanes[l.code]

/-- The state with a lane's record replaced. -/
def State.setLane (s : State) (l : Lane) (r : LaneState) : State :=
  { s with lanes := s.lanes.set l.code r }

/-- The state with a lane's record changed. -/
def State.updLane (s : State) (l : Lane) (f : LaneState → LaneState) : State :=
  s.setLane l (f (s.lane l))

/-- The lane of a place in the vector of lanes. -/
def laneAt (i : Fin 10) : Lane :=
  if h : i.val < 8 then .app ⟨i.val, h⟩ else if i.val = 8 then .pay else .rad

/-- The state with every lane's record changed. -/
def State.updLanes (s : State) (f : Lane → LaneState → LaneState) : State :=
  { s with lanes := Vector.ofFn fun i => f (laneAt i) s.lanes[i] }

/-! ## Exchange entries, contacts, keys and lines -/

/-- An exchange entry. -/
def State.entry (s : State) (i : Fin 48) : ExchangeEntry := s.exchanges[i]

/-- The state with an exchange entry replaced. -/
def State.setEntry (s : State) (i : Fin 48) (e : ExchangeEntry) : State :=
  { s with exchanges := s.exchanges.set i e }

/-- The state with an exchange entry's state replaced, its generation kept. -/
def State.setExchange (s : State) (i : Fin 48) (x : ExchangeState) : State :=
  s.setEntry i { s.entry i with state := x }

/-- A contact record; `none` is ABSENT. -/
def State.contact (s : State) (i : Fin 2) : Option Contact := s.touch.contacts[i]

/-- The state with a contact record replaced. -/
def State.setContact (s : State) (i : Fin 2) (c : Option Contact) : State :=
  { s with touch := { s.touch with contacts := s.touch.contacts.set i c } }

/-- A key record. -/
def State.key (s : State) (k : Fin 16) : Key := s.keys[k]

/-- The state with a key record replaced. -/
def State.setKey (s : State) (k : Fin 16) (r : Key) : State :=
  { s with keys := s.keys.set k r }

/-- A line's record. -/
def State.line (s : State) (n : Fin 12) : Line := s.lines[n]

/-- The state with a line's record replaced. -/
def State.setLine (s : State) (n : Fin 12) (r : Line) : State :=
  { s with lines := s.lines.set n r }

/-- The state with every line's record changed. -/
def State.updLines (s : State) (f : Line → Line) : State :=
  { s with lines := Vector.ofFn fun i => f s.lines[i] }

/-! ## Counters -/

/-- One more, stopping at 65,535 (R51). -/
def bump (n : Nat) : Nat := min (n + 1) 65535

/-- `k` more, stopping at 65,535 (R51). -/
def bumpBy (n k : Nat) : Nat := min (n + k) 65535

/-- One more, stopping at 255 (R3, R48). -/
def bumpByte (n : Nat) : Nat := min (n + 1) 255

/-- The DROPPED counter of a lane raised by `k` (R51, R73). -/
def State.countDropped (s : State) (l : Lane) (k : Nat) : State :=
  s.updLane l fun r => { r with dropped := bumpBy r.dropped k }

end Sys2Proof.Machine
end

