-- ==== Sys2Proof/Machine/Flags.lean ====
section
/-! DEFINITION. The notice unit: the notice flags, how an event raises one, and the event lines and the STATUS word that are
formed from them (the chapter Notices and Event Lines; TABLE G of Envelopes and Formats). -/

namespace Sys2Proof

/-- The place of a lane within its domain: x for Ax, 0 for PAY and RAD. -/
def Lane.place : Lane → Nat
  | .app x => x.val
  | .pay | .rad => 0

end Sys2Proof

namespace Sys2Proof.Machine

/-- The bit position of a flag in STATUS (TABLE G of Envelopes and Formats). -/
def Flag.bit : Flag → Nat
  | .inbound l => l.place
  | .outcome l => 8 + l.place
  | .line => 16
  | .inputLost => 17
  | .capture => 18
  | .video => 19
  | .fence => 20
  | .mode => 21
  | .panes => 22
  | .domain => 23
  | .alarm => 24

/-- The word with the flag's bit set alone. -/
def Flag.mask (f : Flag) : Word := 1#32 <<< f.bit

/-- An event raises a flag of a domain (R161). -/
def State.raise (s : State) (d : Domain) (f : Flag) : State :=
  s.updDom d fun r => { r with flags := r.flags ||| f.mask }

/-- An event raises a flag in APP, PAY and RAD. -/
def State.raiseAll (s : State) (f : Flag) : State :=
  ((s.raise .app f).raise .pay f).raise .rad f

/-- The flags of a group, by the group's bit in SET NOTICES: INBOUND and OUTCOME are eight flags each, and the groups from
LINE on are one flag each (TABLE G and TABLE N of Envelopes and Formats). -/
def groupMask (g : Nat) : Word :=
  if g = 0 then 0x000000FF#32 else if g = 1 then 0x0000FF00#32 else 1#32 <<< (14 + g)

end Sys2Proof.Machine

namespace Sys2Proof

/-- The groups whose flags a domain has: PANES, DOMAIN and ALARM are PAY's alone. -/
def Domain.groups : Domain → Half
  | .pay => 0x07FF#16
  | .app | .rad => 0x00FF#16

end Sys2Proof

namespace Sys2Proof.Machine

/-- At least one set flag belongs to the enabled group. -/
def DomainRecord.drives (r : DomainRecord) (g : Nat) : Bool :=
  r.enables.getLsbD g && decide (r.flags &&& groupMask g ≠ 0#32)

/-- The domain's lines are held inactive: the part is in reset, or the domain is HELD (R163). -/
def State.linesHeld (s : State) (d : Domain) : Bool :=
  s.inReset || decide ((s.dom d).status = .held)

/-- The URGENT line of a domain is active (R163). -/
def State.urgentLine (s : State) (d : Domain) : Bool :=
  let r := s.dom d
  !s.linesHeld d && (List.range 11).any fun g => r.drives g && (!r.split || r.urgent.getLsbD g)

/-- The ROUTINE line of a domain is active (R163). -/
def State.routineLine (s : State) (d : Domain) : Bool :=
  let r := s.dom d
  !s.linesHeld d && r.split && (List.range 11).any fun g => r.drives g && !r.urgent.getLsbD g

/-- The reset output of a domain is asserted (R106); the part has none for PAY. -/
def State.resetOutput (s : State) (d : Domain) : Bool :=
  match d with
  | .pay => false
  | .app | .rad => s.inReset || decide ((s.dom d).status = .held)

/-- What a read of STATUS returns (R8): the flags, the initialising mark in bit 28 and the domain state in bit 29. -/
def State.statusWord (s : State) (d : Domain) : Word :=
  let r := s.dom d
  r.flags ||| (if r.initialising.isSome then 1#32 <<< 28 else 0#32)
    ||| (if r.status = .up then 1#32 <<< 29 else 0#32)

/-- A write of a value to ACKNOWLEDGE clears the flags that its set bits name (R7, R162). -/
def State.clearFlags (s : State) (d : Domain) (value : Word) : State :=
  s.updDom d fun r => { r with flags := r.flags &&& ~~~value }

end Sys2Proof.Machine
end

