-- ==== Sys2Proof/Machine/Operands.lean ====
section
/-! DEFINITION. The layouts that the part reads and writes: the windows and their slots, the slot header, the codes of
kinds, domains, outcomes, conclusions and results, and the fields of a payload (TABLE A of Exchange Memory and Slot Boards;
section G of Envelopes and Formats). -/

namespace Sys2Proof

/-! ## Windows and slots -/

/-- The size of a port's window (section A of Exchange Memory and Slot Boards). -/
def Domain.windowSize : Domain → Nat
  | .app => 0x10000
  | .pay => 0x23000
  | .rad => 0x4000

/-- The size of the slot boards, which stand from offset 0 of the window. -/
def Domain.slotArea : Domain → Nat
  | .app => 0x10000
  | .pay => 0x4000
  | .rad => 0x4000

/-- The offset is that of a slot's state field. -/
def Domain.isStateByte (d : Domain) (a : Nat) : Bool :=
  decide (a % 512 = 0) && decide (a < d.slotArea)

/-- The number of slots of each of the lane's boards (section C of Exchange Memory and Slot Boards). -/
def Lane.slots : Lane → Nat
  | .app _ => 8
  | .pay | .rad => 16

/-- The offset of an outbound slot in its domain's window. -/
def Lane.outSlot (l : Lane) (i : Nat) : Nat :=
  match l with
  | .app x => x.val * 0x2000 + i * 0x200
  | .pay | .rad => i * 0x200

/-- The offset of an inbound slot in its domain's window. -/
def Lane.inSlot (l : Lane) (i : Nat) : Nat :=
  match l with
  | .app x => x.val * 0x2000 + 0x1000 + i * 0x200
  | .pay | .rad => 0x2000 + i * 0x200

end Sys2Proof

namespace Sys2Proof.Machine

/-- The code of FREE in a state field. -/
def slotFree : Byte := 0x00#8
/-- The code of FILLED in a state field. -/
def slotFilled : Byte := 0x01#8
/-- The code of DONE in a state field. -/
def slotDone : Byte := 0x02#8

/-- The circular search of a board of `n` slots from a cursor (R14, R66): the first slot that `p` finds. -/
def searchBoard (n cursor : Nat) (p : Nat → Bool) : Option Nat :=
  ((List.range n).map fun k => (cursor + k) % n).find? p

/-! ## Codes -/

/-- The kind of a kind code that a domain may send (TABLE F of Envelopes and Formats). -/
def Kind.ofCode (c : Nat) : Option Kind :=
  if c = 1 then some .request else if c = 2 then some .notice else if c = 3 then some .answer else none

/-- The kind code. -/
def Kind.code : Kind → Nat
  | .request => 0x01
  | .notice => 0x02
  | .answer => 0x03

/-- The address of a domain code and a service number, where the service exists in the domain (R21, R24). -/
def Address.decode (domain service : Nat) : Option Address :=
  if domain = 1 then if h : service < 8 then some (.app ⟨service, h⟩) else none
  else if domain = 2 then if h : service < 16 then some (.pay ⟨service, h⟩) else none
  else if domain = 3 then if h : service < 16 then some (.rad ⟨service, h⟩) else none
  else if domain = 4 then if service = 0 then some .hub else none
  else none

/-- The domain code of an address (R25). -/
def Address.domainCode : Address → Nat
  | .app _ => 1
  | .pay _ => 2
  | .rad _ => 3
  | .hub => 4

/-- The service number of an address. -/
def Address.service : Address → Nat
  | .app x => x.val
  | .pay v => v.val
  | .rad v => v.val
  | .hub => 0

/-- The recipient lane of an address (R24). -/
def Address.recipient : Address → Recipient
  | .app x => .board (.app x)
  | .pay _ => .board .pay
  | .rad _ => .board .rad
  | .hub => .hub

/-- The code of a recipient lane: HUB is 10 (R25). -/
def Recipient.code : Recipient → Nat
  | .board l => l.code.val
  | .hub => 10

/-- The code of an outcome (R31). -/
def TakeOutcome.code : TakeOutcome → Nat
  | .accepted => 0x01
  | .malformed => 0x10
  | .badKind => 0x11
  | .noRoute => 0x12
  | .tooLong => 0x13
  | .budget => 0x14
  | .limit => 0x20
  | .noExchange => 0x21
  | .notReady => 0x22
  | .targetDown => 0x23
  | .fenced => 0x24
  | .lockdown => 0x25
  | .stale => 0x30
  | .late => 0x31
  | .forged => 0x32

/-- The refusals that are violations (R31, R48). -/
def TakeOutcome.isViolation : TakeOutcome → Bool
  | .malformed | .badKind | .noRoute | .tooLong | .budget | .forged => true
  | .accepted | .limit | .noExchange | .notReady | .targetDown | .fenced | .lockdown | .stale | .late => false

/-- The code of the conclusion ANSWERED (R32). -/
def answeredCode : Nat := 0x01

/-- The code of a conclusion (R32). -/
def Conclusion.code : Conclusion → Nat
  | .expired => 0x02
  | .undelivered => 0x03
  | .targetDown => 0x04
  | .lockdown => 0x05

/-- The code of a hub request's result (TABLE M of Envelopes and Formats). -/
def HubResult.code : HubResult → Nat
  | .done => 1
  | .authority => 2
  | .mode => 3
  | .parameter => 4
  | .busy => 5
  | .superseded => 6
  | .cancelled => 7

/-- The code of a TOUCH phase (TABLE L of Envelopes and Formats). -/
def TouchPhase.code : TouchPhase → Nat
  | .down => 1
  | .move => 2
  | .up => 3
  | .cancel => 4

/-- The code of a KEY action (TABLE L of Envelopes and Formats). -/
def KeyAction.code : KeyAction → Nat
  | .down => 1
  | .up => 2
  | .cancel => 3

/-- The hub mode as STATUS returns it (TABLE O of Envelopes and Formats). -/
def HubMode.code : HubMode → Nat
  | .boot => 1
  | .openMode => 2
  | .lockdown => 3

/-- A domain state as STATUS returns it (TABLE O of Envelopes and Formats). -/
def DomainState.code : DomainState → Nat
  | .held => 1
  | .waiting => 2
  | .up => 3

/-- The frame mode as STATUS returns it (TABLE O of Envelopes and Formats). -/
def FrameMode.code : FrameMode → Nat
  | .following => 1
  | .freeRun => 2

/-! ## The slot header -/

/-- What the take reads of a FILLED slot (R21, R22): the envelope fields that admission examines, and the payload bytes of
its length. -/
structure Slot where
  kind : Nat
  domain : Nat
  service : Nat
  length : Nat
  tag : Nat
  reference : Word
  payload : List Byte
  deriving DecidableEq, Repr

/-- The slot that stands at an offset of a window (TABLE F of Envelopes and Formats). -/
def readSlot (m : Memory) (a : Nat) : Slot :=
  let length := natOf (Memory.readBytes m (a + 4) 2)
  { kind := (Memory.read m (a + 1)).toNat
    domain := (Memory.read m (a + 2)).toNat
    service := (Memory.read m (a + 3)).toNat
    length := length
    tag := natOf (Memory.readBytes m (a + 8) 2)
    reference := BitVec.ofNat 32 (natOf (Memory.readBytes m (a + 10) 4))
    payload := Memory.readBytes m (a + 16) (min length Config.maxPayload) }

/-- The fields of an inbound envelope but its state and number (TABLE A of Envelopes and Formats). -/
structure Envelope where
  kind : Nat
  domain : Nat
  service : Nat
  outcome : Nat
  mark : Nat
  tag : Nat
  reference : Word
  payload : List Byte
  deriving DecidableEq, Repr

/-- The 512 bytes of a FILLED inbound slot: the header, the payload, and zero beyond the length (R22, TABLE F). -/
def Envelope.bytes (e : Envelope) (number : Half) : List Byte :=
  slotFilled :: bytesOf 1 e.kind ++ bytesOf 1 e.domain ++ bytesOf 1 e.service ++ bytesOf 2 e.payload.length
    ++ bytesOf 1 e.outcome ++ bytesOf 1 e.mark ++ bytesOf 2 e.tag ++ bytesOf 4 e.reference.toNat
    ++ bytesOf 2 number.toNat ++ e.payload ++ List.replicate (Config.maxPayload - e.payload.length) 0#8

/-! ## The fields of a payload -/

/-- The byte of a payload at an offset. -/
def byteAt (p : List Byte) (i : Nat) : Nat := (p.getD i 0#8).toNat

/-- The two-byte field of a payload at an offset. -/
def halfAt (p : List Byte) (i : Nat) : Nat := byteAt p i + 256 * byteAt p (i + 1)

/-- A bit of a byte of a payload. -/
def bitAt (p : List Byte) (i bit : Nat) : Bool := (byteAt p i).testBit bit

/-- A level or a mark as a byte. -/
def bit (b : Bool) : Nat := if b then 1 else 0

/-- The head of a hub reply (TABLE M of Envelopes and Formats) and its returned data. -/
def replyBytes (r : HubResult) (code detail : Nat) (data : List Byte) : List Byte :=
  bytesOf 1 r.code ++ bytesOf 1 code ++ bytesOf 2 detail ++ data

/-- The payload of an input event, with the gap mark where the kind carries one (R28, R62, TABLE L). -/
def InputEvent.payload (e : InputEvent) (gap : Bool) : List Byte :=
  match e with
  | .touch id phase p =>
    bytesOf 1 id.val ++ bytesOf 1 phase.code ++ bytesOf 2 p.x ++ bytesOf 2 p.y ++ bytesOf 1 p.pane
      ++ bytesOf 1 (bit gap + 2 * bit p.stored) ++ bytesOf 2 p.row ++ bytesOf 2 p.storeLine
  | .key k action => bytesOf 1 k.val ++ bytesOf 1 action.code ++ bytesOf 1 (bit gap) ++ [0#8]
  | .line tag n level mismatch => [tag] ++ bytesOf 1 n.val ++ bytesOf 1 (bit level) ++ bytesOf 1 (bit mismatch)

/-- The kind code of an input event (TABLE F of Envelopes and Formats). -/
def InputEvent.kindCode : InputEvent → Nat
  | .touch _ _ _ => 0x11
  | .key _ _ => 0x12
  | .line _ _ _ _ => 0x13

/-- The event is a TOUCH or a KEY, which carries the gap mark (R62). -/
def InputEvent.hasGap : InputEvent → Bool
  | .touch _ _ _ => true
  | .key _ _ => true
  | .line _ _ _ _ => false

end Sys2Proof.Machine
end

