-- ==== Sys2Proof/Machine/Queue.lean ====
section
/-! DEFINITION. The holding queue: the buffer pool, the event cells and the recipient FIFOs, and how entries join a FIFO and
are removed from it (the chapter The Holding Queue and Delivery). -/

namespace Sys2Proof

/-- The holding quota of a lane (R57, TABLE C of the overview). -/
def Lane.quota : Lane → Nat
  | .app _ => 3
  | .pay => 8
  | .rad => 6

end Sys2Proof

namespace Sys2Proof.Machine

/-! ## Storage in use -/

/-- The domain's message that an entry holds in a buffer. -/
def Entry.held? : Entry → Option Held
  | .message h => some h
  | .reply _ | .cell _ _ | .conclusion _ => none

/-- The hub reply that an entry holds in a reserved buffer. -/
def Entry.reply? : Entry → Option Reply
  | .reply r => some r
  | .message _ | .cell _ _ | .conclusion _ => none

/-- The entry holds a message buffer. -/
def Entry.holdsBuffer : Entry → Bool
  | .message _ | .reply _ => true
  | .cell _ _ | .conclusion _ => false

/-- The entry is an event cell. -/
def Entry.isCell : Entry → Bool
  | .cell _ _ => true
  | .message _ | .reply _ | .conclusion _ => false

/-- The entry is a hub reply. -/
def Entry.isReply : Entry → Bool
  | .reply _ => true
  | .message _ | .cell _ _ | .conclusion _ => false

/-- The entry is a REQUEST that `p` picks. -/
def Entry.isRequest (p : Message → Bool) : Entry → Bool
  | .message h => decide (h.message.kind = .request) && p h.message
  | .reply _ | .cell _ _ | .conclusion _ => false

/-- The entry holds a message that an application lane sent. -/
def Entry.fromApp : Entry → Bool
  | .message h => h.message.sender.isApp
  | .reply _ | .cell _ _ | .conclusion _ => false

/-- The entry is a conclusion reference to an exchange entry that `p` picks. -/
def Entry.refersTo (p : Fin 48 → Bool) : Entry → Bool
  | .conclusion i => p i
  | .message _ | .reply _ | .cell _ _ => false

/-- The entries of the ten board lanes' FIFOs. -/
def State.boardEntries (s : State) : List Entry :=
  allLanes.flatMap fun l => (s.lane l).fifo

/-- The domains' messages in buffers, those in the HUB FIFO included. -/
def State.heldMessages (s : State) : List Held :=
  s.boardEntries.filterMap Entry.held? ++ s.hub.fifo

/-- The hub replies in reserved buffers. -/
def State.heldReplies (s : State) : List Reply :=
  s.boardEntries.filterMap Entry.reply?

/-- The number of buffers charged to a lane (R57). -/
def State.charged (s : State) (l : Lane) : Nat :=
  s.heldMessages.countP fun h => decide (h.message.sender = l)

/-- A buffer of 0 to 29 is free. -/
def State.bufferFree (s : State) (b : Fin 30) : Bool :=
  s.heldMessages.all fun h => decide (h.buffer ≠ b)

/-- A reserved buffer, 30 + `b`, is free. -/
def State.replyFree (s : State) (b : Fin 2) : Bool :=
  s.heldReplies.all fun r => decide (r.buffer ≠ b)

/-- The number of free reserved buffers (R95). -/
def State.freeReplies (s : State) : Nat :=
  (List.finRange 2).countP s.replyFree

/-- The number of free message buffers, 0-32 (R59). -/
def State.freeBuffers (s : State) : Nat :=
  (List.finRange 30).countP s.bufferFree + s.freeReplies

/-- The number of event cells in use. -/
def State.cellsUsed (s : State) : Nat :=
  s.boardEntries.countP Entry.isCell

/-- The buffer that the holding queue grants a lane, if it grants one: the lane is below its quota, and one of buffers 0 to
29 is free, the lowest-numbered being granted (R57). -/
def State.grantBuffer (s : State) (l : Lane) : Option (Fin 30) :=
  if s.charged l < l.quota then (List.finRange 30).find? s.bufferFree else none

/-- The reserved buffer for a hub reply: the lower-numbered free one (R57, R97). A completion finds one free (R95); where
none is, which no run reaches, the model names the higher (notes/assumptions/12). -/
def State.grantReply (s : State) : Fin 2 :=
  if s.replyFree 0 then 0 else 1

/-! ## Releases -/

/-- Every lane's buffer-wait mark is cleared, as each buffer release does (R17, R58). -/
def State.clearBufferWait (s : State) : State :=
  s.updLanes fun _ r => { r with bufferWait := false }

/-- The removal from every FIFO of the entries that are not kept, wherever they stand, the order of the others unchanged
(R64). Their storage is released with them, and a released buffer clears every buffer-wait mark (R17, R58). -/
def State.filterFifos (s : State) (keep : Lane → Entry → Bool) (keepHub : Held → Bool) : State :=
  let s' := { s.updLanes (fun l r => { r with fifo := r.fifo.filter (keep l) }) with
    hub := { s.hub with fifo := s.hub.fifo.filter keepHub } }
  if allLanes.any (fun l => (s.lane l).fifo.any fun e => !keep l e && e.holdsBuffer) || s.hub.fifo.any (fun h => !keepHub h)
  then s'.clearBufferWait
  else s'

/-- The removal of the entry at a place of a lane's FIFO, with the release of its storage (R64, R67). -/
def State.removeAt (s : State) (l : Lane) (place : Nat) : State :=
  let released := ((s.lane l).fifo[place]?).any Entry.holdsBuffer
  let s' := s.updLane l fun r => { r with fifo := r.fifo.eraseIdx place }
  if released then s'.clearBufferWait else s'

/-! ## Entries joining a FIFO -/

/-- An entry joins the tail of a lane's FIFO (R63). -/
def State.join (s : State) (l : Lane) (e : Entry) : State :=
  s.updLane l fun r => { r with fifo := r.fifo ++ [e] }

/-- The entries that `p` picks and a conclusion reference in a FIFO names, in ascending order of entry index. -/
def pickedReferences (p : Fin 48 → Bool) (fifo : List Entry) : List (Fin 48) :=
  (List.finRange 48).filter fun i => p i && decide (.conclusion i ∈ fifo)

/-- A FIFO with its conclusion references to the entries that `p` picks in ascending order of entry index, from the place of the
first of them on (R86); the order of the other entries is unchanged. -/
def orderReferences (p : Fin 48 → Bool) (fifo : List Entry) : List Entry :=
  fifo.takeWhile (fun e => !e.refersTo p) ++ (pickedReferences p fifo).map .conclusion
    ++ (fifo.dropWhile fun e => !e.refersTo p).filter fun e => !e.refersTo p

/-- The lane is an application lane and the hub is in LOCKDOWN (R74). -/
def State.shutOut (s : State) (l : Lane) : Bool :=
  l.isApp && decide (s.hub.mode = .lockdown)

/-- The FIFO holds a TOUCH cell of a contact. -/
def hasTouch (id : Fin 2) (fifo : List Entry) : Bool :=
  fifo.any fun
    | .cell (.touch id' _ _) _ => decide (id' = id)
    | _ => false

/-- The coalescing of a TOUCH MOVE (R65): where the last TOUCH cell of the contact in the FIFO is a MOVE, its placement is
overwritten, and the cell keeps its place and its joining time. -/
def coalesce (id : Fin 2) (place : Placement) : List Entry → Option (List Entry)
  | [] => none
  | .cell (.touch id' phase old) joined :: rest =>
    if hasTouch id rest then (coalesce id place rest).map (.cell (.touch id' phase old) joined :: ·)
    else if id' = id ∧ phase = .move then some (.cell (.touch id' phase place) joined :: rest)
    else none
  | .message h :: rest => (coalesce id place rest).map (.message h :: ·)
  | .reply r :: rest => (coalesce id place rest).map (.reply r :: ·)
  | .cell (.key k a) j :: rest => (coalesce id place rest).map (.cell (.key k a) j :: ·)
  | .cell (.line t n v m) j :: rest => (coalesce id place rest).map (.cell (.line t n v m) j :: ·)
  | .conclusion i :: rest => (coalesce id place rest).map (.conclusion i :: ·)

/-- The FIFO with the event coalesced into it, where the event is a TOUCH MOVE that coalesces (R65). -/
def InputEvent.coalesced (e : InputEvent) (fifo : List Entry) : Option (List Entry) :=
  match e with
  | .touch id .move place => coalesce id place fifo
  | .touch _ .down _ | .touch _ .up _ | .touch _ .cancel _ | .key _ _ | .line _ _ _ _ => none

/-- An input event of a lane is lost: INPUT_LOST is counted and flagged, and a TOUCH or KEY sets gap-pending (R61, R72). -/
def State.loseEvent (s : State) (l : Lane) (e : InputEvent) : State :=
  (s.updLane l fun r =>
    { r with inputLost := bump r.inputLost, gapPending := r.gapPending || e.hasGap }).raise l.domain .inputLost

/-- A producer has an input event for a lane (R60): it is discarded on arrival for a fenced lane, counted (R73), and for an
application lane in LOCKDOWN, uncounted (R74); else it coalesces (R65), or joins the lane's FIFO in a free cell, or is
lost for want of one (R61). -/
def State.placeEvent (s : State) (l : Lane) (e : InputEvent) : State :=
  if (s.lane l).fenced then s.countDropped l 1
  else if s.shutOut l then s
  else match e.coalesced (s.lane l).fifo with
    | some fifo => s.updLane l fun r => { r with fifo := fifo }
    | none => if s.cellsUsed < Config.eventCells then s.join l (.cell e s.now) else s.loseEvent l e

end Sys2Proof.Machine
end

