-- ==== Sys2Proof/Machine/Exchanges.lean ====
section
/-! DEFINITION. The exchange table: claim, conclusion, expiry and removal of exchanges, answer matching, and the judgement
of a hub request's completion (the chapter Open Exchanges). -/

namespace Sys2Proof

/-- The open-request limit of a lane (R42, TABLE C of the overview). -/
def Lane.requestLimit : Lane → Nat
  | .app _ => 4
  | .pay => 16
  | .rad => 12

end Sys2Proof

namespace Sys2Proof.Machine

/-! ## Entries and tags -/

/-- The exchange that an entry holds, if it is not FREE. -/
def ExchangeState.exchange? : ExchangeState → Option Exchange
  | .free => none
  | .posted x => some x
  | .awaited x => some x
  | .closing x _ _ => some x
  | .lapsed x => some x

/-- The exchange of an entry that counts against its requester's open-request limit (R42, R77). -/
def ExchangeState.open? : ExchangeState → Option Exchange
  | .posted x => some x
  | .awaited x => some x
  | .closing x _ _ => some x
  | .free => none
  | .lapsed _ => none

/-- The tag of an entry: generation × 64 + index (section E of Envelopes and Formats). -/
def State.tagOf (s : State) (i : Fin 48) : Nat :=
  (s.entry i).generation.toNat * 64 + i.val

/-- The entry that a tag names: its index is below 48 and the rest of the tag is its generation (R29, R83). -/
def State.findTag (s : State) (tag : Nat) : Option (Fin 48) :=
  if h : tag % 64 < 48 then
    if (s.entry ⟨tag % 64, h⟩).generation.toNat = tag / 64 then some ⟨tag % 64, h⟩ else none
  else none

/-- The number of a lane's open requests (R42). -/
def State.openRequests (s : State) (l : Lane) : Nat :=
  (List.finRange 48).countP fun i => ((s.entry i).state.open?).any fun x => decide (x.requester = l)

/-- An entry goes FREE and its generation rises by 1, 1023 being followed by 0 (R29). -/
def State.freeEntry (s : State) (i : Fin 48) : State :=
  s.setEntry i ⟨(s.entry i).generation + 1, .free⟩

/-- The number of FREE entries (R77, TABLE O). -/
def State.freeEntries (s : State) : Nat :=
  (List.finRange 48).countP fun i => decide ((s.entry i).state = .free)

/-! ## Opening an exchange -/

/-- The lowest-numbered FREE entry (R78). -/
def State.firstFree (s : State) : Option (Fin 48) :=
  (List.finRange 48).find? fun i => decide ((s.entry i).state = .free)

/-- The deadline time of a LAPSED entry. -/
def ExchangeState.lapsedDeadline? : ExchangeState → Option Nat
  | .lapsed x => some x.deadline
  | .free => none
  | .posted _ => none
  | .awaited _ => none
  | .closing _ _ _ => none

/-- The LAPSED entry with the earliest deadline time, the lowest-numbered among equals, of a list of entries in ascending
order (R79). -/
def State.earliestLapsed (s : State) : List (Fin 48) → Option (Fin 48)
  | [] => none
  | i :: rest =>
    match (s.entry i).state.lapsedDeadline?, s.earliestLapsed rest with
    | none, best => best
    | some _, none => some i
    | some d, some j => if d ≤ ((s.entry j).state.lapsedDeadline?).getD 0 then some i else some j

/-- The entry that admission claims: the lowest-numbered FREE one, or else the LAPSED one that R79 selects (R78). -/
def State.claimable (s : State) : Option (Fin 48) :=
  match s.firstFree with
  | some i => some i
  | none => s.earliestLapsed (List.finRange 48)

/-- An entry is claimed for an exchange and becomes POSTED; a LAPSED entry goes FREE first, which raises its generation
(R78, R79). -/
def State.claim (s : State) (i : Fin 48) (x : Exchange) : State :=
  let s' := if (s.entry i).state = .free then s else s.freeEntry i
  s'.setExchange i (.posted x)

/-! ## Conclusions -/

/-- An open entry goes to CLOSING with a conclusion, and a conclusion reference joins the requester's FIFO (R86). Where
the requester is fenced, or is an application lane in LOCKDOWN, the reference is discarded on arrival, counted for a fenced
lane (R73, R74), and the entry goes FREE. -/
def State.conclude (s : State) (i : Fin 48) (x : Exchange) (c : Conclusion) : State :=
  if (s.lane x.requester).fenced then (s.freeEntry i).countDropped x.requester 1
  else if s.shutOut x.requester then s.freeEntry i
  else (s.setExchange i (.closing x c false)).join x.requester (.conclusion i)

/-- The entry is CLOSING. -/
def ExchangeState.isClosing : ExchangeState → Bool
  | .closing _ _ _ => true
  | .free | .posted _ | .awaited _ | .lapsed _ => false

/-- The references of an event that began in the state `was` stand in ascending order of entry index (R86): those to the entries
that the event took to CLOSING. -/
def State.orderConclusions (was s : State) : State :=
  let joined := fun i => (s.entry i).state.isClosing && !(was.entry i).state.isClosing
  s.updLanes fun _ r => { r with fifo := orderReferences joined r.fifo }

/-- The conclusion of a CLOSING entry has been delivered (R86): EXPIRED with late-seen clear leaves the entry LAPSED; any
other frees it. -/
def State.concluded (s : State) (i : Fin 48) : State :=
  match (s.entry i).state with
  | .closing x .expired false => s.setExchange i (.lapsed x)
  | .closing _ _ _ => s.freeEntry i
  | .free | .posted _ | .awaited _ | .lapsed _ => s

/-- The REQUEST of a POSTED exchange leaves the FIFO it waits in, and its buffer is released (R64, R81). -/
def State.removeRequest (s : State) (tag : Nat) : State :=
  s.filterFifos (fun _ e => !e.isRequest fun m => decide (m.tag = tag)) fun _ => true

/-- An entry reaches its deadline time (R81). -/
def State.expire (s : State) (i : Fin 48) : State :=
  match (s.entry i).state with
  | .posted x =>
    match x.responder.recipient with
    | .board _ => (s.removeRequest (s.tagOf i)).conclude i x .undelivered
    | .hub => s.conclude i x .expired
  | .awaited x => s.conclude i x .expired
  | .free | .closing _ _ _ | .lapsed _ => s

/-! ## Removal and lockdown -/

/-- The responder lane of an exchange, where it is a lane with slot boards. -/
def Exchange.responderLane? (x : Exchange) : Option Lane :=
  match x.responder.recipient with
  | .board l => some l
  | .hub => none

/-- What the removal of its responder does to an entry; the REQUEST of a POSTED entry has left its FIFO (R90). -/
def State.responderRemoved (s : State) (i : Fin 48) : State :=
  match (s.entry i).state with
  | .posted x => s.conclude i x .targetDown
  | .awaited x => s.conclude i x .targetDown
  | .closing x .expired _ => s.setExchange i (.closing x .expired true)
  | .lapsed _ => s.freeEntry i
  | .closing _ _ _ | .free => s

/-- The entry is AWAITED with responder HUB (R89, R92). -/
def ExchangeState.awaitsHub : ExchangeState → Bool
  | .awaited x => decide (x.responder = .hub)
  | .free | .posted _ | .closing _ _ _ | .lapsed _ => false

/-- What a removal of the lanes that `gone` picks does to one entry: as requester it frees the entry, but where `keepHub`
is set it keeps an entry AWAITED with HUB (R88, R89); as responder it does what R90 gives. -/
def State.removeFrom (gone : Lane → Bool) (keepHub : Bool) (s : State) (i : Fin 48) : State :=
  match (s.entry i).state.exchange? with
  | none => s
  | some x =>
    if gone x.requester then
      if keepHub && (s.entry i).state.awaitsHub then s else s.freeEntry i
    else if x.responderLane?.any gone then s.responderRemoved i
    else s

/-- A removal's effect on the whole table, in ascending order of entry index (R86, R88-R91). -/
def State.removeExchanges (s : State) (gone : Lane → Bool) (keepHub : Bool) : State :=
  (List.finRange 48).foldl (State.removeFrom gone keepHub) s

/-- What the entry into LOCKDOWN does to one entry (R92). -/
def State.lockEntry (s : State) (i : Fin 48) : State :=
  match (s.entry i).state.exchange? with
  | none => s
  | some x =>
    if x.requester.isApp then
      if (s.entry i).state.awaitsHub then s else s.freeEntry i
    else if x.responderLane?.any Lane.isApp then
      match (s.entry i).state with
      | .posted x => s.conclude i x .lockdown
      | .awaited x => s.conclude i x .lockdown
      | .free | .closing _ _ _ | .lapsed _ => s
    else s

/-- The entry into LOCKDOWN's effect on the whole table, in ascending order of entry index (R86, R92). -/
def State.lockExchanges (s : State) : State :=
  (List.finRange 48).foldl State.lockEntry s

/-! ## Answers -/

/-- What answer matching finds (R40, R83). -/
inductive Finding where
  | stale
  | late
  | forged
  | match_ (entry : Fin 48) (exchange : Exchange)
  deriving DecidableEq, Repr

/-- Answer matching: an ANSWER with a tag, taken from a lane (R83). -/
def State.matchAnswer (s : State) (l : Lane) (tag : Nat) : Finding :=
  match s.findTag tag with
  | none => .stale
  | some i =>
    match (s.entry i).state with
    | .free => .stale
    | .posted _ => .stale
    | .awaited x => if x.responder.recipient = .board l then .match_ i x else .forged
    | .closing x c _ =>
      if x.responder.recipient = .board l then (if c = .expired then .late else .stale) else .forged
    | .lapsed x => if x.responder.recipient = .board l then .late else .forged

/-- The change that a LATE finding makes: late-seen on a CLOSING entry, and a LAPSED one freed (R40, R83, R85). -/
def State.lateSeen (s : State) (tag : Nat) : State :=
  match s.findTag tag with
  | none => s
  | some i =>
    match (s.entry i).state with
    | .closing x c _ => s.setExchange i (.closing x c true)
    | .lapsed _ => s.freeEntry i
    | .free | .posted _ | .awaited _ => s

/-! ## Hub requests -/

/-- The hub service's take of a request moves its exchange from POSTED to AWAITED, where it is POSTED (R80). -/
def State.hubAwaits (s : State) (tag : Nat) : State :=
  match s.findTag tag with
  | none => s
  | some i =>
    match (s.entry i).state with
    | .posted x => if x.responder = .hub then s.setExchange i (.awaited x) else s
    | .free | .awaited _ | .closing _ _ _ | .lapsed _ => s

/-- A hub reply is written into the reserved buffer and joins the requester's FIFO (R97); a fence does not discard it (R73). -/
def State.placeReply (s : State) (l : Lane) (tag : Nat) (reference : Word) (payload : List Byte) : State :=
  s.join l (.reply ⟨s.grantReply, tag, reference, payload, s.now⟩)

/-- The exchange table judges the completion of a hub request (R85). -/
def State.complete (s : State) (tag : Nat) (payload : List Byte) : State :=
  match s.findTag tag with
  | none => s
  | some i =>
    match (s.entry i).state with
    | .awaited x => (s.freeEntry i).placeReply x.requester tag x.reference payload
    | .closing x .expired _ => s.setExchange i (.closing x .expired true)
    | .lapsed _ => s.freeEntry i
    | .free | .posted _ | .closing _ _ _ => s

/-- The request code that an item's reply bears (TABLE N of Envelopes and Formats). -/
def Job.code : Job → Nat
  | .loadRoutes => 0x01
  | .setPanes => 0x02
  | .scrollPane => 0x03
  | .pulse _ => 0x0A

/-- The requests on the list of outstanding requests that do a job leave it and complete with a result, in the order of the
list (R97). -/
def State.completeJobs (s : State) (job : Job) (r : HubResult) (detail : Nat) : State :=
  (s.hub.outstanding.filter fun o => decide (o.job = job)).foldl
    (fun s o => s.complete o.tag (replyBytes r job.code detail []))
    { s with hub := { s.hub with outstanding := s.hub.outstanding.filter fun o => decide (o.job ≠ job) } }

end Sys2Proof.Machine
end

