-- ==== Sys2Proof/Machine/Inputs.lean ====
section
/-! DEFINITION. The owners of contacts and keys: how they are decided, cancelled and ended (sections C to E of Touch and Key
Routing). -/

namespace Sys2Proof.Machine

/-- A pane table holds a capture pane (R136). -/
def PaneTable.hasCapture (t : PaneTable) : Bool := t.panes.any Pane.capture

/-- The active pane table holds a capture pane: capture is active, and the secure lamp is lit (R136). -/
def State.capture (s : State) : Bool := s.panel.active.hasCapture

/-- The secure lamp output (R136). -/
def State.secureLamp (s : State) : Bool := s.capture

/-- New contacts and keys belong to PAY whatever their place: capture is active or the hub is in LOCKDOWN (R143, R149). -/
def State.inputToPay (s : State) : Bool :=
  s.capture || decide (s.hub.mode = .lockdown)

/-- The focus lane, where the APP domain is UP and the focus lane is not fenced (R143, R149). -/
def State.focusOwner (s : State) : Option Lane :=
  if s.isUp .app && !(s.lane (.app s.touch.focus)).fenced then some (.app s.touch.focus) else none

/-- A contact whose owner `p` picks is cancelled: a TOUCH CANCEL with its latest placement is produced for the owner, and
the owner becomes none (R145, R146). -/
def State.cancelContact (p : Lane → Bool) (s : State) (i : Fin 2) : State :=
  match s.contact i with
  | some ⟨some l, place⟩ =>
    if p l then (s.placeEvent l (.touch i .cancel place)).setContact i (some ⟨none, place⟩) else s
  | some ⟨none, _⟩ => s
  | none => s

/-- A key whose owner `p` picks is cancelled: a KEY CANCEL is produced for the owner, and the owner becomes none (R145, R146). -/
def State.cancelKey (p : Lane → Bool) (s : State) (k : Fin 16) : State :=
  match (s.key k).owner with
  | some l => if p l then (s.placeEvent l (.key k .cancel)).setKey k { s.key k with owner := none } else s
  | none => s

/-- The contacts and keys whose owner `p` picks are cancelled: contacts first, in order of contact id, and then keys, in
order of key number (R145). -/
def State.cancelInputs (s : State) (p : Lane → Bool) : State :=
  (List.finRange 16).foldl (State.cancelKey p) ((List.finRange 2).foldl (State.cancelContact p) s)

/-- An owner that `p` picks becomes none. -/
def dropOwner (p : Lane → Bool) (owner : Option Lane) : Option Lane :=
  owner.filter fun l => !p l

/-- The contacts and keys whose owner `p` picks end silently: the owner becomes none and no event is produced (R146). -/
def State.endInputs (s : State) (p : Lane → Bool) : State :=
  { s with
    touch := { s.touch with
      contacts := Vector.ofFn fun i => s.touch.contacts[i].map fun c => { c with owner := dropOwner p c.owner } }
    keys := Vector.ofFn fun i => { s.keys[i] with owner := dropOwner p s.keys[i].owner } }

end Sys2Proof.Machine
end

