-- ==== Sys2Proof/Machine/Panes.lean ====
section
/-! DEFINITION. The panel path's shared operations: the pane of a row, the composition and shading of a row slot, capture
changes and the panel frame start (the chapter Panes and the Panel Path). -/

namespace Sys2Proof.Machine

/-! ## The pane of a row -/

/-- The pane that row `y` lies in, with its index from `k` and its row index within the pane (R121). -/
def findPane : List Pane → Nat → Nat → Option (Nat × Pane × Nat)
  | [], _, _ => none
  | p :: rest, k, y => if y < p.height then some (k, p, y) else findPane rest (k + 1) (y - p.height)

/-- The secure frame store line that row `i` of a pane shows (R133). -/
def Pane.storeLine (p : Pane) (i : Nat) : Nat := p.base + (i + p.offset) % p.height

/-! ## Composing a row -/

/-- A channel of `w` bits taken to its full value when its top bit is set, and to 0 when it is clear (R134). -/
def shadeChannel (w : Nat) (c : BitVec w) : BitVec w := if c.msb then BitVec.allOnes w else 0#w

/-- A pixel shaded: red in bits 15-11, green in bits 10-5, blue in bits 4-0 (R134). -/
def shadePixel (p : Pixel) : Pixel :=
  shadeChannel 5 (p.extractLsb' 11 5) ++ shadeChannel 6 (p.extractLsb' 5 6) ++ shadeChannel 5 (p.extractLsb' 0 5)

/-- Shading is in force: the table holds a capture pane whose shade is set (R134). -/
def PaneTable.shades (t : PaneTable) : Bool := t.panes.any fun p => p.capture && p.shade

/-- A row of the fill colour. -/
def PaneTable.fillRow (t : PaneTable) : List Pixel := List.replicate Config.columns t.fill

/-- An APP input row as it is taken: 240 pixels, missing ones in the fill colour, pixels beyond the 240th disregarded (R130). -/
def PaneTable.appRow (t : PaneTable) (pixels : List Pixel) : List Pixel :=
  pixels.take Config.columns ++ List.replicate (Config.columns - pixels.length) t.fill

/-- The pixels of two bytes each, least significant byte first (R135). -/
def pixelsOf : List Byte → List Pixel
  | lo :: hi :: rest => (hi ++ lo) :: pixelsOf rest
  | [_] => []
  | [] => []

/-- A line of the secure frame store (R135, TABLE A of Exchange Memory and Slot Boards). -/
def State.storeRow (s : State) (n : Nat) : List Pixel :=
  pixelsOf (Memory.readBytes s.pay.window (0x5000 + n * 480) 480)

/-- The pixels of row slot `y`, composed from the active table and, where one arrives, an APP input row (R133). -/
def State.compose (s : State) (arriving : Option (List Pixel)) (y : Nat) : List Pixel :=
  let t := s.panel.active
  match findPane t.panes 0 y with
  | none => t.fillRow
  | some (_, p, i) =>
    match p.source with
    | .fill => t.fillRow
    | .secure => s.storeRow (p.storeLine i)
    | .appVideo =>
      match arriving with
      | none => t.fillRow
      | some pixels => if t.shades then (t.appRow pixels).map shadePixel else t.appRow pixels

/-- The panel path sends a signal to the panel. -/
def State.send (s : State) (x : PanelSignal) : State :=
  { s with panel := { s.panel with sent := s.panel.sent ++ [x] } }

/-- An event of the panel path begins: nothing has been sent in it yet. -/
def State.beginPanelEvent (s : State) : State :=
  { s with panel := { s.panel with sent := [] } }

/-- The next row slot is output, and the next row slot rises by 1 (R129, R133). -/
def State.outputSlot (s : State) (arriving : Option (List Pixel)) : State :=
  let s' := s.send (.row s.panel.nextSlot (s.compose arriving s.panel.nextSlot))
  { s' with panel := { s'.panel with nextSlot := s.panel.nextSlot + 1 } }

/-- `n` row slots are output at once, with every row of an APP-VIDEO pane in the fill colour (R130). -/
def State.outputSlots : Nat → State → State
  | 0, s => s
  | n + 1, s => State.outputSlots n (s.outputSlot none)

/-- The remaining row slots of the frame in progress are output at once (R130, R131). -/
def State.outputRest (s : State) : State := s.outputSlots (Config.rows - s.panel.nextSlot)

/-! ## Capture -/

/-- Capture begins or ends where the active table has come to hold a capture pane or has ceased to (R137): CAPTURE is
raised in every domain, and at a beginning the contacts and keys held by application lanes are cancelled (R145). -/
def State.captureChange (had : Bool) (s : State) : State :=
  if s.capture = had then s
  else if s.capture then (s.raiseAll .capture).cancelInputs Lane.isApp
  else s.raiseAll .capture

/-- The active table is replaced, and capture and the lamp follow it (R125, R126, R136, R137). -/
def State.setActive (s : State) (t : PaneTable) : State :=
  State.captureChange s.capture { s with panel := { s.panel with active := t } }

/-! ## The panel frame start -/

/-- A pending scroll applied to a pane list: the offset of a SECURE pane that it names and whose height it is below (R128). -/
def Scroll.apply (c : Scroll) (panes : List Pane) : List Pane :=
  panes.modify c.pane fun p => if p.source = .secure ∧ c.offset < p.height then { p with offset := c.offset } else p

/-- The pending scrolls are applied to the active table in the order of their takes, and their requests complete with DONE
(step 1 of R124, R128). -/
def State.applyScrolls (s : State) : State :=
  let panes := s.panel.scrolls.foldl (fun ps c => c.apply ps) s.panel.active.panes
  State.completeJobs
    { s with panel := { s.panel with active := { s.panel.active with panes := panes }, scrolls := [] } }
    .scrollPane .done 0

/-- A staged table becomes the active one, its SET PANES completes with DONE and PANES is raised in PAY (step 2 of R124). -/
def State.applyStaged (s : State) : State :=
  match s.panel.staged with
  | none => s
  | some t =>
    (State.completeJobs { s with panel := { s.panel with active := t, staged := none } } .setPanes .done 0).raise .pay .panes

/-- A panel frame start (R124). -/
def State.frameStart (s : State) : State :=
  let s' := (State.captureChange s.capture s.applyScrolls.applyStaged).send .frameStart
  { s' with panel := { s'.panel with nextSlot := 0 } }

end Sys2Proof.Machine
end

