-- ==== Sys2Proof/Machine/Alarm.lean ====
section
/-! DEFINITION. The alarm combiner and the entry into LOCKDOWN (section D of Lines and the Alarm Combiner; section B of The
Hub Service and Hub Modes). -/

namespace Sys2Proof.Machine

/-! ## The entry into LOCKDOWN -/

/-- The holding queue's share of the entry into LOCKDOWN (R74): every entry that is not a hub reply leaves the application
lanes' FIFOs, and every message that an application lane sent leaves the others. -/
def State.lockFifos (s : State) : State :=
  s.filterFifos (fun l e => if l.isApp then e.isReply else !e.fromApp) fun h => !h.message.sender.isApp

/-- The panel path's share of the entry into LOCKDOWN (R125): the lockdown table at once, and a staged table discarded, its
SET PANES completing with CANCELLED. -/
def State.lockPanel (s : State) : State :=
  State.setActive (State.completeJobs { s with panel := { s.panel with staged := none } } .setPanes .cancelled 0) lockdownTable

/-- The line unit's share: the lines that `p` picks by their owner return to rest (R157). -/
def State.restLines (s : State) (p : Domain → Bool) : State :=
  s.updLines fun n => if n.entry.owner.any p then { n with output := .resting } else n

/-- The entry into LOCKDOWN (R100). The exchange table goes before the panel path, since conclusion references join before
the replies of requests that the event completes (R97). -/
def State.enterLockdown (s : State) : State :=
  let s := { s with hub := { s.hub with mode := .lockdown } }
  let s := s.lockFifos.lockExchanges.lockPanel
  ((s.cancelInputs Lane.isApp).restLines fun d => decide (d = .app)).raiseAll .mode

/-! ## The combiner -/

/-- At least one lane is marked auto-fenced: the VIOL input. -/
def State.viol (s : State) : Bool := allLanes.any fun l => (s.lane l).autoFenced

/-- An input of the combiner: L0 to L11 by number, 12 for VIOL, 13 for VIDEO. -/
def State.combinerInput (s : State) (n : Fin 14) : Bool :=
  if h : n.val < 12 then (s.line ⟨n.val, h⟩).mismatch
  else if n.val = 12 then s.viol
  else decide (s.panel.mode = .freeRun)

/-- The combiner output as it is formed from the inputs and the settings (R158). -/
def State.combinerFormed (s : State) : Bool :=
  ((List.finRange 14).any fun n =>
    s.combiner.includes.getLsbD n.val && (s.combinerInput n != s.combiner.inverts.getLsbD n.val))
  != s.combiner.outputInvert

/-- The lockdown condition: the combiner output is true and the lockdown arm is set (section B of The Hub Service and Hub
Modes). -/
def State.lockdownCondition (s : State) : Bool := s.combiner.output && s.combiner.arm

/-- The ALERT pin (R159). -/
def State.alertPin (s : State) : Bool := !s.inReset && s.combiner.alertEnable && s.combiner.output

/-- The combiner output takes its newly formed value, and ALARM is raised in PAY where it changes (R159). -/
def State.formOutput (s : State) : State :=
  if s.combinerFormed = s.combiner.output then s
  else State.raise { s with combiner := { s.combiner with output := s.combinerFormed } } .pay .alarm

/-- The hub enters LOCKDOWN from BOOT or OPEN where the lockdown condition is true (R99, R159). -/
def State.lockdownIfDue (s : State) : State :=
  if s.lockdownCondition = true ∧ s.hub.mode ≠ .lockdown then s.enterLockdown else s

/-- The combiner is evaluated anew (R158, R159). -/
def State.evaluate (s : State) : State := s.formOutput.lockdownIfDue

/-- The combiner is evaluated anew where VIOL is no longer what it was in the state `was`, in which the event began (R158). Where
a removal or a fence and the entry into LOCKDOWN that it brings both take entries to CLOSING, the references of the one event
stand in ascending order (R86). The state `s` holds the removal or fence, so the entry comes after it: a DESIGN CHOICE
(notes/assumptions/36). -/
def State.evaluateViol (was s : State) : State :=
  if s.viol = was.viol then s else State.orderConclusions was s.evaluate

end Sys2Proof.Machine
end

