-- ==== Sys2Proof/Machine/Control.lean ====
section
/-! DEFINITION. Domain control's shared operations: fences, violations, board initialisation, and the removal of a domain
(the chapter Domains, Lanes and Fencing; section D of Routes and Admission; section E of Exchange Memory and Slot Boards). -/

namespace Sys2Proof.Machine

/-! ## Fences -/

/-- A lane that is not fenced is fenced (R117): its FIFO keeps its hub replies alone and the rest is counted DROPPED (R73);
its exchanges are closed on both sides (R89, R90), its requests waiting elsewhere leaving their FIFOs; its contacts and
keys are cancelled; and FENCE is raised in its domain and in PAY. -/
def State.fenceLane (s : State) (l : Lane) : State :=
  let dropped := (s.lane l).fifo.countP fun e => !e.isReply
  let s := (s.updLane l fun r => { r with fenced := true }).countDropped l dropped
  let s := s.filterFifos
    (fun l' e => if l' = l then e.isReply else !e.isRequest fun m => decide (m.sender = l))
    fun h => decide (h.message.sender ≠ l)
  let s := s.removeExchanges (fun l' => decide (l' = l)) true
  ((s.cancelInputs fun l' => decide (l' = l)).raise l.domain .fence).raise .pay .fence

/-- A lane is fenced by its tally (R49, R117): where it is fenced already, the auto-fenced mark alone is set. VIOL is
evaluated where the mark is the first. Where that brings LOCKDOWN, the spec gives no order between the fence and the entry. That
the fence is made first is a DESIGN CHOICE (notes/assumptions/36): the exchanges of PAY and RAD with the lane conclude
TARGET_DOWN (R90) and not LOCKDOWN (R92), and what its FIFO loses is counted DROPPED (R73), which the entry would not count
(R74). -/
def State.autoFence (s : State) (l : Lane) : State :=
  let was := s
  let s := if (s.lane l).fenced then s else s.fenceLane l
  State.evaluateViol was (s.updLane l fun r => { r with autoFenced := true })

/-- A violation is charged to a lane (R48), and fences it where it brings the tally to a limit of 1 to 255 (R49); PAY's
lane is never fenced. -/
def State.violate (s : State) (l : Lane) : State :=
  let r := s.lane l
  let s := s.updLane l fun r => { r with violations := bump r.violations, tally := bumpByte r.tally }
  if l ≠ .pay ∧ r.limit ≠ 0 ∧ r.tally < r.limit ∧ bumpByte r.tally = r.limit then s.autoFence l else s

/-! ## Board initialisation -/

/-- Board initialisation of a domain starts (R19, R66): the domain is WAITING, its lanes' scan-wanted, buffer-wait and
room-wait marks are cleared, its remembered lane set is emptied and its stray access count is 0. -/
def State.startInit (s : State) (d : Domain) : State :=
  (s.updDom d fun r =>
    { r with status := .waiting, initialising := some s.now, remembered := 0#8, stray := 0 }).updLanes fun l r =>
      if l.domain = d then { r with scanWanted := false, bufferWait := false, roomWait := false } else r

/-- DOMAIN is raised in PAY at a change of state of APP or RAD (R108). -/
def State.raiseDomain (s : State) (d : Domain) : State :=
  if d = .pay then s else s.raise .pay .domain

/-- The lanes of a domain that a lane set names: bit x names Ax, bit 0 the lane of PAY or RAD (R5). -/
def namedLane (d : Domain) (set : Byte) (l : Lane) : Bool :=
  decide (l.domain = d) && set.getLsbD l.place

/-- The named lanes of a domain that is UP get scan-wanted and a room notice (R5, R15, R66). -/
def State.attend (s : State) (d : Domain) (set : Byte) : State :=
  s.updLanes fun l r => if namedLane d set l then { r with scanWanted := true, roomWait := false } else r

/-- A WAITING domain becomes UP (R107). -/
def State.goUp (s : State) (d : Domain) : State :=
  (s.updDom d fun r => { r with status := .up }).raiseDomain d

/-- Board initialisation of a domain completes (R19, R68): every slot state is FREE, the cursors and delivery numbers of its
lanes are 0, and where the remembered lane set is not empty the domain becomes UP and the set acts. -/
def State.finishInit (s : State) (d : Domain) : State :=
  let set := (s.dom d).remembered
  let s := (s.updDom d fun r =>
    { r with window := Memory.clear r.window d.isStateByte, initialising := none, remembered := 0#8 }).updLanes fun l r =>
      if l.domain = d then { r with takeCursor := 0, putCursor := 0, deliveryNumber := 0#16 } else r
  if set = 0#8 then s else (s.goUp d).attend d set

/-! ## Removal of a domain -/

/-- A visit to one of the domain's lanes ends (R18, R107). -/
def State.endVisit (s : State) (d : Domain) : State :=
  { s with scanner := { s.scanner with visit := s.scanner.visit.filter fun l => decide (l.domain ≠ d) } }

/-- The removal of a domain (R109): its lanes' FIFOs, its REQUESTs elsewhere (R75, R88), its exchanges on both sides (R88,
R90, R91), its lanes' fences, tallies and gap-pending marks, its contacts and keys (R146), its lines' drives (R157) and its
notice flags (R165) go; DOMAIN is raised for APP and RAD (R108); and the combiner is evaluated where VIOL changed. Where that
brings LOCKDOWN, the removal is made first, so that the exchanges with its lanes conclude TARGET_DOWN (R90) and not LOCKDOWN
(R92): a DESIGN CHOICE (notes/assumptions/36). -/
def State.removeDomain (s : State) (d : Domain) : State :=
  let was := s
  let s := (s.endVisit d).updDom d fun r => { r with flags := 0#32 }
  let s := s.filterFifos
    (fun l e => decide (l.domain ≠ d) && !e.isRequest fun m => decide (m.sender.domain = d))
    fun h => decide (h.message.sender.domain ≠ d)
  let s := s.removeExchanges (fun l => decide (l.domain = d)) false
  let s := s.updLanes fun l r =>
    if l.domain = d then { r with gapPending := false, fenced := false, autoFenced := false, tally := 0 } else r
  let s := (s.endInputs fun l => decide (l.domain = d)).restLines fun d' => decide (d' = d)
  let s := if d = .app then { s with touch := { s.touch with focus := 0 } } else s
  State.evaluateViol was (s.raiseDomain d)

/-- A domain becomes HELD and is removed; a board initialisation in progress is abandoned (R111, R113). -/
def State.holdDomain (s : State) (d : Domain) : State :=
  (s.updDom d fun r => { r with status := .held, initialising := none, remembered := 0#8 }).removeDomain d

/-- A HELD domain is released: no release is pending, it is WAITING, its board initialisation begins and DOMAIN is raised in
PAY (R112, R113). -/
def State.releaseDomain (s : State) (d : Domain) : State :=
  ((s.updDom d fun r => { r with release := none }).startInit d).raiseDomain d

/-- A self-announced restart by a domain's processor (R20, R115): a removal and a new board initialisation, where the
domain is UP or is WAITING with its board initialisation complete. -/
def State.selfRestart (s : State) (d : Domain) : State :=
  match (s.dom d).status, (s.dom d).initialising with
  | .up, _ => (s.removeDomain d).startInit d
  | .waiting, none => (s.removeDomain d).startInit d
  | .waiting, some _ => s
  | .held, _ => s

end Sys2Proof.Machine
end

