-- ==== Sys2Proof/Machine/HubService.lean ====
section
/-! DEFINITION. The hub service's shared operations: the take of a hub request, its judgement and its completion (section A
of The Hub Service and Hub Modes). -/

namespace Sys2Proof.Machine

/-- The hub service is busy: a LOAD ROUTES is executing, or the free reserved reply buffers are no more than the outstanding
requests (R95). -/
def State.hubBusy (s : State) : Bool :=
  s.hub.loading.isSome || decide (s.freeReplies ≤ s.hub.outstanding.length)

/-- The request that the hub service takes next: the head of the HUB FIFO, while the service is not busy (R95). -/
def State.hubHead (s : State) : Option Held :=
  if s.inReset || s.hubBusy then none else s.hub.fifo.head?

/-- The take of the head of the HUB FIFO (R70, R95): the request leaves the FIFO, its buffer is released, and its exchange
goes from POSTED to AWAITED where it is POSTED. -/
def State.hubTake (s : State) (m : Message) : State :=
  (State.clearBufferWait { s with hub := { s.hub with fifo := s.hub.fifo.tail } }).hubAwaits m.tag

/-- What the reference gives for one hub request: the payloads that its command takes, the lanes that may issue it, the
modes in which it is carried out (TABLE A of The Hub Service and Hub Modes), the length of its parameters (TABLE N of
Envelopes and Formats), the detail of the first field that holds a value not listed (R33), the conditions of its own, and
its execution with its completion. -/
structure HubRequest where
  code : Nat
  takes : List Byte → Bool
  issuer : Lane → Bool
  available : HubMode → Bool
  length : List Byte → Nat
  badField : List Byte → Option Nat
  refused : State → Message → Option (HubResult × Nat)
  run : State → Message → State

/-- The completion of a request in the event of its take (R97). -/
def State.finish (s : State) (m : Message) (code : Nat) (r : HubResult) (detail : Nat) (data : List Byte) : State :=
  s.complete m.tag (replyBytes r code detail data)

/-- A request joins the list of outstanding requests (R94). -/
def State.addOutstanding (s : State) (job : Job) (m : Message) : State :=
  { s with hub := { s.hub with outstanding := s.hub.outstanding ++ [⟨job, m.sender, m.tag⟩] } }

/-- Checks 2 to 6 of R96: the result and detail of the first that fails. -/
def HubRequest.judge (q : HubRequest) (s : State) (m : Message) : Option (HubResult × Nat) :=
  if !q.issuer m.sender then some (.authority, 0)
  else if !q.available s.hub.mode then some (.mode, 0)
  else if m.payload.length < q.length m.payload then some (.parameter, Config.noItem)
  else match q.badField m.payload with
    | some detail => some (.parameter, detail)
    | none => q.refused s m

/-- The violation that AUTHORITY charges to the requester (R48). -/
def State.chargeResult (s : State) (r : HubResult) (l : Lane) : State :=
  if r = .authority then s.violate l else s

/-- The hub service takes a request that the command's row takes, judges it, and carries it out or completes it with the
result of the check that fails (R95-R97). Where no such request is at the head, or the service is busy, the event does not
take place (notes/assumptions/4). -/
def HubRequest.serve (q : HubRequest) (s : State) : State :=
  match s.hubHead with
  | none => s
  | some h =>
    if q.takes h.message.payload then
      let m := h.message
      let s := s.hubTake m
      match q.judge s m with
      | some (r, detail) => (s.chargeResult r m.sender).finish m q.code r detail []
      | none => q.run s m
    else s

/-- The payload's first byte is a request's code. -/
def hasCode (code : Nat) (p : List Byte) : Bool := decide (p.head?.map BitVec.toNat = some code)

/-- PAY's lane alone. -/
def payOnly (l : Lane) : Bool := decide (l = .pay)

/-- The first lanes of the domains: A0, PAY and RAD. -/
def firstLanes (l : Lane) : Bool := decide (l = l.domain.firstLane)

/-- Every mode. -/
def anyMode (_ : HubMode) : Bool := true

/-- BOOT and OPEN: in LOCKDOWN the request is answered MODE. -/
def notLockdown (m : HubMode) : Bool := decide (m ≠ .lockdown)

/-- No parameter field can hold a value that is not listed. -/
def anyField (_ : List Byte) : Option Nat := none

/-- A field at fault fails with detail 0 in a request that has one item (R33). -/
def badItem (ok : Bool) : Option Nat := if ok then none else some 0

/-- The request has no conditions of its own. -/
def noCondition (_ : State) (_ : Message) : Option (HubResult × Nat) := none

/-- The lane that a parameter byte names. -/
def laneAtByte (p : List Byte) (i : Nat) : Lane := (Lane.ofCode (byteAt p i)).getD .pay

/-- The hub mode is changed, and MODE is raised in all three domains (R99). -/
def State.setMode (s : State) (m : HubMode) : State :=
  State.raiseAll { s with hub := { s.hub with mode := m } } .mode

end Sys2Proof.Machine
end

