-- ==== Sys2Proof/Machine/Admission.lean ====
section
/-! DEFINITION. TAKE and REFILL: the board scanner and the admission unit (section D of Exchange Memory and Slot Boards; the
chapter Routes and Admission). -/

namespace Sys2Proof.Machine

/-! ## The board scanner -/

/-- A lane is eligible for a visit (R13). -/
def State.eligible (s : State) (l : Lane) : Bool :=
  (s.lane l).scanWanted && !(s.lane l).bufferWait && s.isUp l.domain

/-- The lane after a lane in the fixed cyclic order, in which RAD is followed by A0 (section D). -/
def laneAfter (l : Lane) : Lane := laneAt (l.code + 1)

/-- The ten lanes in cyclic order from a lane on. -/
def lanesFrom (l : Lane) : List Lane := allLanes.rotate l.code.val

/-- The lane that the scanner grants the take engine to (R13). -/
def State.granted (s : State) : Option Lane := (lanesFrom s.scanner.nextLane).find? s.eligible

/-- The slot that a take finds: the first FILLED one of the circular search from the take cursor (R14). -/
def State.filledSlot (s : State) (l : Lane) : Option Nat :=
  searchBoard l.slots (s.lane l).takeCursor fun i =>
    decide (Memory.read (s.window l.domain) (l.outSlot i) = slotFilled)

/-! ## The admission steps -/

/-- Where two route keys' sources agree, and the targets do, the entry is the route of the key (R35). -/
def State.routeWith (s : State) (source : RouteSource) (target : Address) : Option Nat :=
  s.routes.findIdx? fun r => decide (r.source = source) && decide (r.target = target)

/-- The lookup: the exact entry, or for an application lane the A* entry (R35). -/
def State.lookup (s : State) (l : Lane) (target : Address) : Option Nat :=
  match s.routeWith (.lane l) target with
  | some i => some i
  | none => if l.isApp then s.routeWith .anyApp target else none

/-- The route allows the message's kind. -/
def Route.allows (r : Route) : Kind → Bool
  | .request => r.requestAllowed
  | .notice => r.noticeAllowed
  | .answer => false

/-- The address's domain is not UP, or it is an application lane that is fenced (test d of R41). -/
def State.targetDown (s : State) : Address → Bool
  | .app x => !s.isUp .app || (s.lane (.app x)).fenced
  | .pay _ => !s.isUp .pay
  | .rad _ => !s.isUp .rad
  | .hub => false

/-- The address is in the application domain. -/
def Address.isApp : Address → Bool
  | .app _ => true
  | .pay _ => false
  | .rad _ => false
  | .hub => false

/-- Step 3, the hub mode (R39). -/
def State.modeRefusal (s : State) (l : Lane) (k : Kind) (a : Address) : Option TakeOutcome :=
  match s.hub.mode with
  | .boot => if k = .request ∧ a = .hub then none else some .notReady
  | .openMode => none
  | .lockdown =>
    if l.isApp then some .lockdown
    else if k ≠ .answer ∧ a.isApp = true then some .lockdown
    else none

/-- What admission decides of a message, the buffer test apart (R37). -/
inductive Verdict where
  | refuse (outcome : TakeOutcome)
  | request (address : Address) (route : Option Nat)
  | notice (address : Address) (route : Nat)
  | answer (entry : Fin 48) (exchange : Exchange)
  deriving DecidableEq, Repr

/-- Step 4, the exchange match of an ANSWER (R40). -/
def State.judgeAnswer (s : State) (l : Lane) (m : Slot) : Verdict :=
  match s.matchAnswer l m.tag with
  | .stale => .refuse .stale
  | .late => .refuse .late
  | .forged => .refuse .forged
  | .match_ i x => if m.length ≤ x.answerLimit then .answer i x else .refuse .tooLong

/-- Step 5 for APP, PAY and RAD: route, kind, request limit and target state, in order (R41); the route's index. -/
def State.judgeRoute (s : State) (l : Lane) (k : Kind) (a : Address) (length : Nat) : Except TakeOutcome Nat :=
  match s.lookup l a with
  | none => .error .noRoute
  | some i =>
    match s.routes[i]? with
    | none => .error .noRoute
    | some r =>
      if !r.allows k then .error .badKind
      else if r.requestLimit < length then .error .tooLong
      else if s.targetDown a then .error .targetDown
      else .ok i

/-- Step 6, exchange room (R42). -/
def State.roomRefusal (s : State) (l : Lane) : Option TakeOutcome :=
  if l.requestLimit ≤ s.openRequests l then some .limit
  else if s.claimable.isNone then some .noExchange
  else none

/-- Step 7, the budget: the route has none, or its level is at least 1 (R43). -/
def State.budgetRefusal (s : State) (route : Nat) : Option TakeOutcome :=
  match (s.routes[route]?).bind Route.budget with
  | none => none
  | some b => if b.level = 0 then some .budget else none

/-- Steps 5 to 7 for a REQUEST (R37). -/
def State.judgeRequest (s : State) (l : Lane) (a : Address) (length : Nat) : Verdict :=
  if a = .hub then
    match s.roomRefusal l with
    | some o => .refuse o
    | none => .request a none
  else match s.judgeRoute l .request a length with
    | .error o => .refuse o
    | .ok i =>
      match s.roomRefusal l with
      | some o => .refuse o
      | none =>
        match s.budgetRefusal i with
        | some o => .refuse o
        | none => .request a (some i)

/-- Steps 5 and 7 for a NOTICE (R23, R37). -/
def State.judgeNotice (s : State) (l : Lane) (a : Address) (length : Nat) : Verdict :=
  if a = .hub then .refuse .badKind
  else match s.judgeRoute l .notice a length with
    | .error o => .refuse o
    | .ok i =>
      match s.budgetRefusal i with
      | some o => .refuse o
      | none => .notice a i

/-- The seven steps of admission in order (R37): envelope (R21), fence (R38), mode (R39), and then the steps of the kind. -/
def State.judge (s : State) (l : Lane) (m : Slot) : Verdict :=
  match Kind.ofCode m.kind with
  | none => .refuse .badKind
  | some k =>
    if Config.maxPayload < m.length then .refuse .malformed
    else match Address.decode m.domain m.service with
      | none => .refuse .malformed
      | some a =>
        if (s.lane l).fenced then .refuse .fenced
        else match s.modeRefusal l k a with
          | some o => .refuse o
          | none =>
            match k with
            | .request => s.judgeRequest l a m.length
            | .notice => s.judgeNotice l a m.length
            | .answer => s.judgeAnswer l m

/-! ## Settling the outcome -/

/-- The slot's outcome and tag fields are written and its state set to DONE (R12, R14). -/
def State.writeOutcome (s : State) (l : Lane) (slot : Nat) (o : TakeOutcome) (tag : Nat) : State :=
  let a := l.outSlot slot
  ((s.writeWindow l.domain (a + 6) (bytesOf 1 o.code)).writeWindow l.domain (a + 8) (bytesOf 2 tag)).writeWindow
    l.domain a [slotDone]

/-- The tag that a refusal writes (R30): the quoted one for an ANSWER, else 0xFFFF (notes/assumptions/9). -/
def Slot.refusedTag (m : Slot) : Nat :=
  if Kind.ofCode m.kind = some .answer then m.tag else Config.noTag

/-- A refusal's effects (R45, R48): the slot is settled, REFUSED rises, OUTCOME is raised, a LATE finding makes its change
(R40), and a violation is charged. -/
def State.refuseTake (s : State) (l : Lane) (slot : Nat) (m : Slot) (o : TakeOutcome) : State :=
  let s := s.writeOutcome l slot o m.refusedTag
  let s := (s.updLane l fun r => { r with refused := bump r.refused }).raise l.domain (.outcome l)
  let s := if o = .late then s.lateSeen m.tag else s
  if o.isViolation then s.violate l else s

/-- An acceptance lowers the level of a budgeted route by 1 (R44, R46). -/
def State.spend (s : State) (route : Option Nat) : State :=
  match route with
  | none => s
  | some i =>
    { s with routes := s.routes.modify i fun r =>
        { r with budget := r.budget.map fun b => { b with level := b.level - 1 } } }

/-- An accepted message joins the tail of the recipient lane's FIFO (R44, R63). For a fenced recipient it joins none: it is
counted DROPPED, and its buffer, taken and released in this event, clears every buffer-wait mark (R73). -/
def State.joinMessage (s : State) (r : Recipient) (h : Held) : State :=
  match r with
  | .hub => { s with hub := { s.hub with fifo := s.hub.fifo ++ [h] } }
  | .board l => if (s.lane l).fenced then (s.countDropped l 1).clearBufferWait else s.join l (.message h)

/-- The recipient of an accepted message is a fenced lane. -/
def State.recipientFenced (s : State) : Recipient → Bool
  | .hub => false
  | .board l => (s.lane l).fenced

/-- The slot is settled with ACCEPTED and the sender's ADMITTED counter rises (steps 6 and 7 of R44). -/
def State.admitted (s : State) (l : Lane) (slot tag : Nat) : State :=
  (s.writeOutcome l slot .accepted tag).updLane l fun r => { r with admitted := bump r.admitted }

/-- The answer limit and the deadline that a REQUEST's exchange is given: the route's, or 0 and 500 ms for a hub request
(step 3 of R44); the deadline in ms. -/
def State.requestTerms (s : State) (route : Option Nat) : Nat × Nat :=
  match route.bind fun i => s.routes[i]? with
  | none => (0, Config.hubDeadline)
  | some r => (r.answerLimit, r.deadline)

/-- A REQUEST is accepted in a buffer (R44, R78). One for a fenced recipient concludes TARGET_DOWN in the event (R91). -/
def State.acceptRequest (s : State) (l : Lane) (slot : Nat) (m : Slot) (a : Address) (route : Option Nat)
    (buffer : Fin 30) : State :=
  match s.claimable with
  | none => s
  | some i =>
    let terms := s.requestTerms route
    let x : Exchange := ⟨l, m.reference, a, s.now + terms.2 * Config.ms, terms.1⟩
    let s := (s.spend route).claim i x
    let tag := s.tagOf i
    let down := s.recipientFenced a.recipient
    let s := s.joinMessage a.recipient ⟨buffer, ⟨.request, l, a, tag, m.reference, m.payload⟩, s.now⟩
    let s := if down then s.conclude i x .targetDown else s
    s.admitted l slot tag

/-- A NOTICE is accepted in a buffer (R44). -/
def State.acceptNotice (s : State) (l : Lane) (slot : Nat) (m : Slot) (a : Address) (route : Nat) (buffer : Fin 30) : State :=
  let s := s.spend (some route)
  (s.joinMessage a.recipient ⟨buffer, ⟨.notice, l, a, Config.noTag, m.reference, m.payload⟩, s.now⟩).admitted
    l slot Config.noTag

/-- A matching ANSWER is accepted in a buffer (R44, R84): the entry goes FREE, and the answer, with the requester's reference
and the address of the request, joins the requester's FIFO. -/
def State.acceptAnswer (s : State) (l : Lane) (slot : Nat) (m : Slot) (i : Fin 48) (x : Exchange) (buffer : Fin 30) : State :=
  let s := s.freeEntry i
  (s.joinMessage (.board x.requester) ⟨buffer, ⟨.answer, l, x.responder, m.tag, x.reference, m.payload⟩, s.now⟩).admitted
    l slot m.tag

/-- A take that has settled slot `slot`: the cursor moves past it, and the visit goes on to its second take or ends (R14). -/
def State.afterTake (s : State) (l : Lane) (slot : Nat) (first : Bool) : State :=
  let s := s.updLane l fun r => { r with takeCursor := (slot + 1) % l.slots }
  { s with scanner := { s.scanner with visit := if first then some l else none } }

/-- The visit ends. -/
def State.noVisit (s : State) : State :=
  { s with scanner := { s.scanner with visit := none } }

/-- A take that is held back at slot `slot`: the take cursor stands on the slot, so that the next take begins at it (R16, R17);
the lane gets buffer-wait and the visit ends. -/
def State.heldBack (s : State) (l : Lane) (slot : Nat) : State :=
  (s.updLane l fun r => { r with takeCursor := slot, bufferWait := true }).noVisit

/-- One take for a lane, the first or the second of its visit (R14). -/
def State.takeFor (s : State) (l : Lane) (first : Bool) : State :=
  match s.filledSlot l with
  | none => (s.updLane l fun r => { r with scanWanted := false }).noVisit
  | some slot =>
    let m := readSlot (s.window l.domain) (l.outSlot slot)
    match s.judge l m, s.grantBuffer l with
    | .refuse o, _ => (s.refuseTake l slot m o).afterTake l slot first
    | .request _ _, none => s.heldBack l slot
    | .notice _ _, none => s.heldBack l slot
    | .answer _ _, none => s.heldBack l slot
    | .request a route, some b => (s.acceptRequest l slot m a route b).afterTake l slot first
    | .notice a route, some b => (s.acceptNotice l slot m a route b).afterTake l slot first
    | .answer i x, some b => (s.acceptAnswer l slot m i x b).afterTake l slot first

/-- TAKE (R13, R14): the second take of the visit in progress; or else the grant of the take engine to the first eligible
lane, with the first take of its visit. Where no lane is eligible the event does not take place. -/
def execTake (s : State) : Host.Outcome State Fault Refusal :=
  if s.inReset then .next s
  else match s.scanner.visit with
    | some l => .next (s.takeFor l false)
    | none =>
      match s.granted with
      | none => .next s
      | some l => .next (State.takeFor { s with scanner := { s.scanner with nextLane := laneAfter l } } l true)

/-! ## Refills -/

/-- The refill timer of a route's budget has reached its interval (R46). -/
def Budget.due (b : Budget) (now : Nat) : Bool := decide (b.timerZero + b.interval * Config.ms ≤ now)

/-- A refill: the level rises by 1, or stays at the burst, and the timer starts again from 0 (R46). -/
def Budget.refill (b : Budget) (now : Nat) : Budget :=
  { b with level := min (b.level + 1) b.burst, timerZero := now }

/-- REFILL (R46): the refill of a budgeted route whose timer has reached its interval. -/
def execRefill (route : Nat) (s : State) : Host.Outcome State Fault Refusal :=
  .next { s with routes := s.routes.modify route fun r =>
    { r with budget := r.budget.map fun b => if b.due s.now then b.refill s.now else b } }

end Sys2Proof.Machine
end

