-- ==== Sys2Proof/Machine/Delivery.lean ====
section
/-! DEFINITION. DELIVERY, HOLD_LIMIT_DROP, EVENT_CELL_DROP and EXPIRY (sections D and E of The Holding Queue and Delivery;
sections C and E of Open Exchanges). -/

namespace Sys2Proof.Machine

/-- The inbound envelope of a REQUEST, a NOTICE or a real ANSWER (R26). -/
def Message.envelope (m : Message) : Envelope where
  kind := m.kind.code
  domain := m.sender.domain.code
  service := m.address.service
  outcome := if m.kind = .answer then answeredCode else 0
  mark := m.sender.code.val
  tag := m.tag
  reference := m.reference
  payload := m.payload

/-- The inbound envelope of a hub reply (R27). -/
def Reply.envelope (r : Reply) : Envelope where
  kind := Kind.answer.code
  domain := Address.hub.domainCode
  service := 0
  outcome := answeredCode
  mark := Recipient.hub.code
  tag := r.tag
  reference := r.reference
  payload := r.payload

/-- The inbound envelope of an input event, with the gap mark where its kind carries one (R28, R62). -/
def InputEvent.envelope (e : InputEvent) (gap : Bool) : Envelope where
  kind := e.kindCode
  domain := Address.hub.domainCode
  service := 0
  outcome := 0
  mark := bit (gap && e.hasGap)
  tag := Config.noTag
  reference := 0#32
  payload := e.payload gap

/-- The inbound envelope of a conclusion (R27). -/
def Exchange.envelope (x : Exchange) (c : Conclusion) (tag : Nat) : Envelope where
  kind := Kind.answer.code
  domain := x.responder.domainCode
  service := x.responder.service
  outcome := c.code
  mark := x.responder.recipient.code
  tag := tag
  reference := x.reference
  payload := []

/-- The envelope that a delivery writes for an entry of a lane's FIFO (R26-R28). A conclusion reference names an entry in
CLOSING (R77); of one that does not, which no run reaches, the model writes an envelope of zeros. -/
def State.envelopeOf (s : State) (l : Lane) : Entry → Envelope
  | .message h => h.message.envelope
  | .reply r => r.envelope
  | .cell e _ => e.envelope (s.lane l).gapPending
  | .conclusion i =>
    match (s.entry i).state with
    | .closing x c _ => x.envelope c (s.tagOf i)
    | .free | .posted _ | .awaited _ | .lapsed _ => ⟨0, 0, 0, 0, 0, 0, 0#32, []⟩

/-- The inbound slot that an attempt finds: the first FREE one of the circular search from the put cursor (R66). -/
def State.freeSlot (s : State) (l : Lane) : Option Nat :=
  searchBoard l.slots (s.lane l).putCursor fun i =>
    decide (Memory.read (s.window l.domain) (l.inSlot i) = slotFree)

/-- A delivered REQUEST moves its exchange from POSTED to AWAITED (R80). -/
def State.requestDelivered (s : State) (tag : Nat) : State :=
  match s.findTag tag with
  | none => s
  | some i =>
    match (s.entry i).state with
    | .posted x => s.setExchange i (.awaited x)
    | .free | .awaited _ | .closing _ _ _ | .lapsed _ => s

/-- What a delivery tells the exchange table (step 7 of R67). -/
def State.tellDelivered (s : State) : Entry → State
  | .message h => if h.message.kind = .request then s.requestDelivered h.message.tag else s
  | .reply _ => s
  | .cell _ _ => s
  | .conclusion i => s.concluded i

/-- The delivery of the head entry of a lane's FIFO into an inbound slot (R67). -/
def State.deliver (s : State) (l : Lane) (e : Entry) (slot : Nat) : State :=
  let bytes := (s.envelopeOf l e).bytes (s.lane l).deliveryNumber
  let clearsGap := match e with
    | .cell event _ => event.hasGap
    | .message _ | .reply _ | .conclusion _ => false
  let s := s.writeWindow l.domain (l.inSlot slot) bytes
  let s := s.updLane l fun r =>
    { r with
      deliveryNumber := r.deliveryNumber + 1
      putCursor := (slot + 1) % l.slots
      gapPending := r.gapPending && !clearsGap }
  ((s.removeAt l 0).raise l.domain (.inbound l)).tellDelivered e

/-- DELIVERY (R66, R67): an attempt for a lane whose FIFO has a head, whose domain is UP and whose room-wait mark is clear;
where its inbound board has no FREE slot, the lane gets room-wait. -/
def execDelivery (l : Lane) (s : State) : Host.Outcome State Fault Refusal :=
  if s.inReset || !s.isUp l.domain || (s.lane l).roomWait then .next s
  else match (s.lane l).fifo with
    | [] => .next s
    | e :: _ =>
      match s.freeSlot l with
      | none => .next (s.updLane l fun r => { r with roomWait := true })
      | some slot => .next (s.deliver l e slot)

/-- The entry is a NOTICE, a real ANSWER or a hub reply that has stood 1,000 ms (R71). -/
def Entry.holdExpired (now : Nat) : Entry → Bool
  | .message h => decide (h.message.kind ≠ .request) && decide (h.joined + Config.messageHold ≤ now)
  | .reply r => decide (r.joined + Config.messageHold ≤ now)
  | .cell _ _ | .conclusion _ => false

/-- HOLD_LIMIT_DROP (R71): the entry at a place of a lane's FIFO is dropped, and DROPPED is counted, where it is one that has
stood its hold limit. -/
def execHoldLimitDrop (l : Lane) (place : Nat) (s : State) : Host.Outcome State Fault Refusal :=
  if ((s.lane l).fifo[place]?).any (Entry.holdExpired s.now) then .next ((s.removeAt l place).countDropped l 1)
  else .next s

/-- The event of a cell that has stood 250 ms (R72). -/
def Entry.expiredEvent (now : Nat) : Entry → Option InputEvent
  | .cell e joined => if joined + Config.cellHold ≤ now then some e else none
  | .message _ | .reply _ | .conclusion _ => none

/-- EVENT_CELL_DROP (R72): the event cell at a place of a lane's FIFO is dropped and lost, where it has stood 250 ms. -/
def execEventCellDrop (l : Lane) (place : Nat) (s : State) : Host.Outcome State Fault Refusal :=
  match ((s.lane l).fifo[place]?).bind (Entry.expiredEvent s.now) with
  | some e => .next ((s.removeAt l place).loseEvent l e)
  | none => .next s

/-- An entry is POSTED or AWAITED and the timebase has reached its deadline time (R81). -/
def State.expiryDue (s : State) (i : Fin 48) : Bool :=
  match (s.entry i).state with
  | .posted x => decide (x.deadline ≤ s.now)
  | .awaited x => decide (x.deadline ≤ s.now)
  | .free | .closing _ _ _ | .lapsed _ => false

/-- EXPIRY (R81): an exchange entry expires, where it is due. -/
def execExpiry (i : Fin 48) (s : State) : Host.Outcome State Fault Refusal :=
  .next (if s.expiryDue i then s.expire i else s)

end Sys2Proof.Machine
end

