-- ==== Sys2Proof/Machine/DomainCommands.lean ====
section
/-! DEFINITION. DOMAIN_RESET_HOLD, DOMAIN_RESET_RELEASE, DOMAIN_RESET_PULSE, PULSE_RELEASE, FENCE_LANE, RESTORE_LANE and
SET_VIOLATION_LIMIT (the chapter Domains, Lanes and Fencing). -/

namespace Sys2Proof.Machine

/-! ## DOMAIN RESET -/

/-- The domain that a DOMAIN RESET payload names: APP 1 or RAD 3. -/
def resetDomainOf (p : List Byte) : Domain := if byteAt p 2 = 1 then .app else .rad

/-- The domain field of a DOMAIN RESET payload holds a listed value; 2, naming PAY, is none (section C). -/
def resetDomainListed (p : List Byte) : Bool := decide (byteAt p 2 = 1) || decide (byteAt p 2 = 3)

/-- The action of a DOMAIN RESET payload is RELEASE. -/
def isRelease (p : List Byte) : Bool := decide (byteAt p 3 = 2)

/-- The action of a DOMAIN RESET payload is PULSE. -/
def isResetPulse (p : List Byte) : Bool := decide (byteAt p 3 = 3)

/-- A domain is HELD. -/
def State.isHeld (s : State) (d : Domain) : Bool := decide ((s.dom d).status = .held)

/-- No release of a domain is pending. -/
def State.cancelRelease (s : State) (d : Domain) : State :=
  s.updDom d fun r => { r with release := none }

/-- DOMAIN RESET HOLD of a domain (R111): a domain that is not HELD becomes HELD and is removed. In one that is, a pending
release is cancelled, and the PULSE that waits for it completes with CANCELLED. -/
def State.hold (s : State) (d : Domain) : State :=
  if s.isHeld d then (s.cancelRelease d).completeJobs (.pulse d) .cancelled 0 else s.holdDomain d

/-- DOMAIN RESET whose action is HOLD; a payload that ends before its action, and one whose action is not listed, fail here. -/
def domainResetHoldRequest : HubRequest where
  code := 0x0A
  takes p := hasCode 0x0A p && !isRelease p && !isResetPulse p
  issuer := payOnly
  available := anyMode
  length _ := 4
  badField p := badItem (resetDomainListed p && decide (byteAt p 3 = 1))
  refused := noCondition
  run s m := (s.hold (resetDomainOf m.payload)).finish m 0x0A .done 0 []

/-- DOMAIN_RESET_HOLD (R111). -/
def execDomainResetHold (s : State) : Host.Outcome State Fault Refusal := .next (domainResetHoldRequest.serve s)

/-- DOMAIN RESET whose action is RELEASE (R112): a HELD domain is released, and the PULSE that waits for its release completes
with DONE, before the RELEASE does (R97). -/
def domainResetReleaseRequest : HubRequest where
  code := 0x0A
  takes p := hasCode 0x0A p && isRelease p
  issuer := payOnly
  available := anyMode
  length _ := 4
  badField p := badItem (resetDomainListed p)
  refused s m := if s.isHeld (resetDomainOf m.payload) then none else some (.parameter, 0)
  run s m :=
    let d := resetDomainOf m.payload
    ((s.releaseDomain d).completeJobs (.pulse d) .done 0).finish m 0x0A .done 0 []

/-- DOMAIN_RESET_RELEASE (R112). -/
def execDomainResetRelease (s : State) : Host.Outcome State Fault Refusal := .next (domainResetReleaseRequest.serve s)

/-- DOMAIN RESET whose action is PULSE, at its take (R113): the domain becomes HELD and is removed, its release is scheduled
for 20 ms later, and the request joins the list of outstanding requests. -/
def domainResetPulseRequest : HubRequest where
  code := 0x0A
  takes p := hasCode 0x0A p && isResetPulse p
  issuer := payOnly
  available := anyMode
  length _ := 4
  badField p := badItem (resetDomainListed p)
  refused s m := if s.isHeld (resetDomainOf m.payload) then some (.parameter, 0) else none
  run s m :=
    let d := resetDomainOf m.payload
    State.addOutstanding
      ((s.holdDomain d).updDom d fun r => { r with release := some (s.now + Config.pulseLength) }) (.pulse d) m

/-- DOMAIN_RESET_PULSE (R113). -/
def execDomainResetPulse (s : State) : Host.Outcome State Fault Refusal := .next (domainResetPulseRequest.serve s)

/-- The release that a PULSE scheduled is due (R113). -/
def State.releaseDue (s : State) (d : Domain) : Bool := (s.dom d).release.any fun t => decide (t ≤ s.now)

/-- PULSE_RELEASE (R113): the release falls, and the PULSE completes with DONE where it is on the list still. -/
def execPulseRelease (d : Domain) (s : State) : Host.Outcome State Fault Refusal :=
  .next (if s.releaseDue d then (s.releaseDomain d).completeJobs (.pulse d) .done 0 else s)

/-! ## Fences -/

/-- The lane code at offset 2 of a payload names a lane, 0-9. -/
def laneListed (p : List Byte) : Bool := decide (byteAt p 2 ≤ 9)

/-- FENCE LANE (R117, R118): a lane that is fenced already is not fenced again; code 8, PAY's lane, fails. -/
def fenceLaneRequest : HubRequest where
  code := 0x0B
  takes := hasCode 0x0B
  issuer := payOnly
  available := anyMode
  length _ := 3
  badField p := badItem (laneListed p)
  refused _ m := if laneAtByte m.payload 2 = .pay then some (.parameter, 0) else none
  run s m :=
    let l := laneAtByte m.payload 2
    (if (s.lane l).fenced then s else s.fenceLane l).finish m 0x0B .done 0 []

/-- FENCE_LANE (R118). -/
def execFenceLane (s : State) : Host.Outcome State Fault Refusal := .next (fenceLaneRequest.serve s)

/-- A lane is restored (R119): a fence is lifted, with its notices, and the tally is set to 0 in any case; the combiner is
evaluated where the lane was the last auto-fenced one. -/
def State.restore (s : State) (l : Lane) : State :=
  let cleared := s.updLane l fun r => { r with fenced := false, autoFenced := false, tally := 0 }
  if (s.lane l).fenced then State.evaluateViol s ((cleared.raise l.domain .fence).raise .pay .fence)
  else s.updLane l fun r => { r with tally := 0 }

/-- RESTORE LANE (R119). -/
def restoreLaneRequest : HubRequest where
  code := 0x0C
  takes := hasCode 0x0C
  issuer := payOnly
  available := anyMode
  length _ := 3
  badField p := badItem (laneListed p)
  refused := noCondition
  run s m := (s.restore (laneAtByte m.payload 2)).finish m 0x0C .done 0 []

/-- RESTORE_LANE (R119). -/
def execRestoreLane (s : State) : Host.Outcome State Fault Refusal := .next (restoreLaneRequest.serve s)

/-- SET VIOLATION LIMIT (R120): the lane's limit is set and its tally is 0. -/
def setViolationLimitRequest : HubRequest where
  code := 0x0D
  takes := hasCode 0x0D
  issuer := payOnly
  available := anyMode
  length _ := 4
  badField p := badItem (laneListed p)
  refused := noCondition
  run s m := (s.updLane (laneAtByte m.payload 2) fun r =>
    { r with limit := byteAt m.payload 3, tally := 0 }).finish m 0x0D .done 0 []

/-- SET_VIOLATION_LIMIT (R120). -/
def execSetViolationLimit (s : State) : Host.Outcome State Fault Refusal := .next (setViolationLimitRequest.serve s)

end Sys2Proof.Machine
end

