-- ==== Sys2Proof/Machine/HubCommands.lean ====
section
/-! DEFINITION. SET_NOTICES, READ_COUNTERS, STATUS, RESUME and RESTART_HUB (section C of Notices and Event Lines; sections B
and C of The Hub Service and Hub Modes). -/

namespace Sys2Proof.Machine

/-! ## SET NOTICES -/

/-- The settings of a domain's groups are replaced; the bits of groups that the domain lacks are disregarded (R164). -/
def DomainRecord.setNotices (r : DomainRecord) (groups : Half) (p : List Byte) : DomainRecord :=
  { r with
    enables := BitVec.ofNat 16 (halfAt p 2) &&& groups
    urgent := BitVec.ofNat 16 (halfAt p 4) &&& groups
    split := decide (byteAt p 6 = 1) }

/-- SET NOTICES (R164), which applies to the requester's own domain. -/
def setNoticesRequest : HubRequest where
  code := 0x09
  takes := hasCode 0x09
  issuer := firstLanes
  available := anyMode
  length _ := 8
  badField p := badItem (decide (byteAt p 6 ≤ 1))
  refused := noCondition
  run s m :=
    (s.updDom m.sender.domain fun r => r.setNotices m.sender.domain.groups m.payload).finish m 0x09 .done 0 []

/-- SET_NOTICES (R164). -/
def execSetNotices (s : State) : Host.Outcome State Fault Refusal := .next (setNoticesRequest.serve s)

/-! ## READ COUNTERS and STATUS -/

/-- The lanes that READ COUNTERS of a requester reaches (R102). -/
def reaches (requester named : Lane) : Bool :=
  match requester with
  | .pay => true
  | .app x => decide (x = 0) && named.isApp
  | .rad => decide (named = .rad)

/-- The returned data of READ COUNTERS (TABLE O of Envelopes and Formats). -/
def countersOf (r : LaneState) : List Byte :=
  bytesOf 2 r.admitted ++ bytesOf 2 r.refused ++ bytesOf 2 r.violations ++ bytesOf 2 r.dropped ++ bytesOf 2 r.inputLost
    ++ bytesOf 1 r.tally ++ bytesOf 1 r.limit ++ bytesOf 1 (bit r.fenced + 2 * bit r.autoFenced)

/-- The five counters are set to 0 (R51, R102). -/
def LaneState.clearCounters (r : LaneState) : LaneState :=
  { r with admitted := 0, refused := 0, violations := 0, dropped := 0, inputLost := 0 }

/-- READ COUNTERS (R102): the values that stand are returned, and the five counters cleared. Its issuers are the first lanes
of the domains (TABLE A of The Hub Service and Hub Modes), each within its reach. -/
def readCountersRequest : HubRequest where
  code := 0x0E
  takes := hasCode 0x0E
  issuer := firstLanes
  available := anyMode
  length _ := 3
  badField p := badItem (decide (byteAt p 2 ≤ 9))
  refused _ m := if reaches m.sender (laneAtByte m.payload 2) then none else some (.authority, 0)
  run s m :=
    let l := laneAtByte m.payload 2
    (s.updLane l LaneState.clearCounters).finish m 0x0E .done 0 (countersOf (s.lane l))

/-- READ_COUNTERS (R102). -/
def execReadCounters (s : State) : Host.Outcome State Fault Refusal := .next (readCountersRequest.serve s)

/-- The set of fenced lanes, by lane code. -/
def State.fencedSet (s : State) : Nat :=
  allLanes.foldl (fun n l => if (s.lane l).fenced then n + 2 ^ l.code.val else n) 0

/-- The returned data of STATUS (R103, TABLE O of Envelopes and Formats). -/
def State.statusData (s : State) : List Byte :=
  bytesOf 1 s.hub.mode.code ++ bytesOf 1 s.app.status.code ++ bytesOf 1 s.pay.status.code ++ bytesOf 1 s.rad.status.code
    ++ bytesOf 2 s.fencedSet ++ bytesOf 1 (bit s.combiner.output) ++ bytesOf 1 s.panel.mode.code ++ bytesOf 1 (bit s.capture)
    ++ bytesOf 1 s.freeBuffers ++ bytesOf 1 s.freeEntries

/-- STATUS (R103): any lane with boards may send it, and it changes no state. -/
def statusRequest : HubRequest where
  code := 0x0F
  takes := hasCode 0x0F
  issuer _ := true
  available := anyMode
  length _ := 2
  badField := anyField
  refused := noCondition
  run s m := s.finish m 0x0F .done 0 s.statusData

/-- STATUS (R103). -/
def execStatus (s : State) : Host.Outcome State Fault Refusal := .next (statusRequest.serve s)

/-! ## RESUME and RESTART HUB -/

/-- RESUME (R101): carried out in LOCKDOWN alone; BUSY while the combiner output is true, which changes nothing. -/
def resumeRequest : HubRequest where
  code := 0x10
  takes := hasCode 0x10
  issuer := payOnly
  available m := decide (m = .lockdown)
  length _ := 2
  badField := anyField
  refused s _ := if s.combiner.output then some (.busy, 0) else none
  run s m := (s.setMode (if s.hub.routesLoaded then .openMode else .boot)).finish m 0x10 .done 0 []

/-- RESUME (R101). -/
def execResume (s : State) : Host.Outcome State Fault Refusal := .next (resumeRequest.serve s)

/-- What RESTART HUB clears of a lane (TABLE C of The Hub Service and Hub Modes; R17, R75). -/
def LaneState.restart (r : LaneState) : LaneState :=
  { r.clearCounters with
    fifo := []
    bufferWait := false
    gapPending := false
    fenced := false
    autoFenced := false
    tally := 0 }

/-- Every exchange entry is freed, each generation kept as it stands (R93). -/
def State.dropExchanges (s : State) : State :=
  { s with exchanges := Vector.ofFn fun i => ⟨s.exchanges[i].generation, .free⟩ }

/-- Steps 1 and 2 of R104: the clearing, with the hub mode at BOOT. The default table is active, and a capture that stood ends
(R126); contacts and keys end silently and the focus lane is A0 (R146); a visit in progress ends (R18). -/
def State.clearHub (s : State) : State :=
  let s := ({ s.updLanes fun _ r => r.restart with hub := Hub.reset, routes := [] }).dropExchanges
  let s := { s with scanner := { s.scanner with visit := none }, panel := { s.panel with staged := none, scrolls := [] } }
  let s := (s.setActive defaultTable).endInputs fun _ => true
  { s with touch := { s.touch with focus := 0 } }

/-- RESTART HUB (R104): the clearing, the entry into LOCKDOWN where the lockdown condition stands with VIOL false, MODE in all
three domains, and the reply, which R85 does not judge. -/
def restartHubRequest : HubRequest where
  code := 0x11
  takes := hasCode 0x11
  issuer := payOnly
  available := anyMode
  length _ := 2
  badField := anyField
  refused := noCondition
  run s m := (s.clearHub.evaluate.raiseAll .mode).placeReply m.sender m.tag m.reference (replyBytes .done 0x11 0 [])

/-- RESTART_HUB (R104). -/
def execRestartHub (s : State) : Host.Outcome State Fault Refusal := .next (restartHubRequest.serve s)

end Sys2Proof.Machine
end

