-- ==== Sys2Proof/Machine/LineCommands.lean ====
section
/-! DEFINITION. SET_LINE_MAP, SET_COMBINER, DRIVE_LINE, DRIVE_LINE_PULSE, PULSE_END, LINE_SAMPLE, FILTERED_CHANGE and
SETTLING_END (the chapter Lines and the Alarm Combiner). -/

namespace Sys2Proof.Machine

/-! ## SET LINE MAP -/

/-- The line that a payload names at offset 2. -/
def lineOf (p : List Byte) : Fin 12 := Fin.ofNat 12 (byteAt p 2)

/-- The owner of an owner code (TABLE N of Envelopes and Formats). -/
def ownerOfCode (c : Nat) : Option Domain :=
  if c = 1 then some .app else if c = 2 then some .pay else if c = 3 then some .rad else none

/-- The edge of an edge code (TABLE N of Envelopes and Formats). -/
def Edge.ofCode (c : Nat) : Edge :=
  if c = 1 then .rise else if c = 2 then .fall else .both

/-- The line map entry that a SET LINE MAP payload carries (TABLE N of Envelopes and Formats). -/
def lineEntryOf (p : List Byte) : LineEntry where
  out := decide (byteAt p 4 = 1)
  owner := ownerOfCode (byteAt p 5)
  edge := Edge.ofCode (byteAt p 6)
  expected := decide (byteAt p 7 = 1)
  rest := decide (byteAt p 8 = 1)
  tag := p.getD 9 0#8
  deliver := decide (byteAt p 10 = 1)

/-- Every field of a SET LINE MAP payload holds a listed value (R150). -/
def lineFieldsListed (p : List Byte) : Bool :=
  decide (byteAt p 2 ≤ 11) && decide (byteAt p 4 ≤ 1) && decide (byteAt p 5 ≤ 3)
    && (decide (1 ≤ byteAt p 6) && decide (byteAt p 6 ≤ 3))
    && decide (byteAt p 7 ≤ 1) && decide (byteAt p 8 ≤ 1) && decide (byteAt p 10 ≤ 1)

/-- A line is given a map entry (steps 1 to 4 of R150): its output rests, and it begins settling as an IN line, its mismatch
kept, or has no filter and no mismatch as an OUT line. -/
def Line.map (n : Line) (e : LineEntry) : Line :=
  if e.out then ⟨e, .off, false, .resting⟩ else ⟨e, .settling none, n.mismatch, .resting⟩

/-- The combiner is evaluated anew where a mismatch state is no longer what it was (R154, R158). -/
def State.evaluateMismatch (was : Bool) (n : Fin 12) (s : State) : State :=
  if (s.line n).mismatch = was then s else s.evaluate

/-- A SET LINE MAP is carried out (R150). -/
def State.mapLine (s : State) (n : Fin 12) (e : LineEntry) : State :=
  State.evaluateMismatch (s.line n).mismatch n (s.setLine n ((s.line n).map e))

/-- SET LINE MAP (R150). -/
def setLineMapRequest : HubRequest where
  code := 0x06
  takes := hasCode 0x06
  issuer := payOnly
  available := anyMode
  length _ := 12
  badField p := badItem (lineFieldsListed p)
  refused := noCondition
  run s m := (s.mapLine (lineOf m.payload) (lineEntryOf m.payload)).finish m 0x06 .done 0 []

/-- SET_LINE_MAP (R150). -/
def execSetLineMap (s : State) : Host.Outcome State Fault Refusal := .next (setLineMapRequest.serve s)

/-! ## SET COMBINER -/

/-- The combiner with the settings of a SET COMBINER payload, its output kept (TABLE N of Envelopes and Formats). -/
def Combiner.configured (c : Combiner) (p : List Byte) : Combiner where
  includes := BitVec.ofNat 14 (halfAt p 2)
  inverts := BitVec.ofNat 14 (halfAt p 4)
  outputInvert := bitAt p 6 0
  alertEnable := bitAt p 6 1
  arm := bitAt p 6 2
  output := c.output

/-- SET COMBINER (R160): every setting is replaced and the output evaluated anew, and LOCKDOWN follows where the condition is
true. -/
def setCombinerRequest : HubRequest where
  code := 0x07
  takes := hasCode 0x07
  issuer := payOnly
  available := anyMode
  length _ := 8
  badField := anyField
  refused := noCondition
  run s m := (State.evaluate { s with combiner := s.combiner.configured m.payload }).finish m 0x07 .done 0 []

/-- SET_COMBINER (R160). -/
def execSetCombiner (s : State) : Host.Outcome State Fault Refusal := .next (setCombinerRequest.serve s)

/-! ## Output lines -/

/-- The level that an OUT line shows, `none` for an IN line, which the part does not drive (R155). -/
def Line.driven (n : Line) : Option Bool :=
  if n.entry.out then
    match n.output with
    | .resting => some n.entry.rest
    | .driven level => some level
    | .pulsing _ => some !n.entry.rest
  else none

/-- The action of a DRIVE LINE payload is PULSE. -/
def isPulse (p : List Byte) : Bool := decide (byteAt p 3 = 3)

/-- The conditions of a DRIVE LINE's own (R155): the requester's domain owns the line, which is an OUT line. -/
def driveRefused (s : State) (m : Message) : Option (HubResult × Nat) :=
  let n := s.line (lineOf m.payload)
  if n.entry.owner ≠ some m.sender.domain then some (.authority, 0)
  else if !n.entry.out then some (.parameter, 0)
  else none

/-- The output state of a line is replaced. -/
def State.setOutput (s : State) (n : Fin 12) (o : OutputState) : State :=
  s.setLine n { s.line n with output := o }

/-- DRIVE LINE with an action that is not PULSE (R155). -/
def driveLineRequest : HubRequest where
  code := 0x08
  takes p := hasCode 0x08 p && !isPulse p
  issuer := firstLanes
  available := anyMode
  length _ := 6
  badField p := badItem (decide (byteAt p 2 ≤ 11) && (decide (byteAt p 3 = 1) || decide (byteAt p 3 = 2)))
  refused := driveRefused
  run s m := (s.setOutput (lineOf m.payload) (.driven (decide (byteAt m.payload 3 = 1)))).finish m 0x08 .done 0 []

/-- DRIVE_LINE (R155). -/
def execDriveLine (s : State) : Host.Outcome State Fault Refusal := .next (driveLineRequest.serve s)

/-- The length of a pulse, in ms. -/
def pulseLengthOf (p : List Byte) : Nat := halfAt p 4

/-- DRIVE LINE with the action PULSE (R155): the end time is the take's time plus the length. -/
def driveLinePulseRequest : HubRequest where
  code := 0x08
  takes p := hasCode 0x08 p && isPulse p
  issuer := firstLanes
  available := anyMode
  length _ := 6
  badField p := badItem
    (decide (byteAt p 2 ≤ 11) && (decide (1 ≤ pulseLengthOf p) && decide (pulseLengthOf p ≤ 1000)))
  refused := driveRefused
  run s m := (s.setOutput (lineOf m.payload)
    (.pulsing (s.now + pulseLengthOf m.payload * Config.ms))).finish m 0x08 .done 0 []

/-- DRIVE_LINE_PULSE (R155). -/
def execDriveLinePulse (s : State) : Host.Outcome State Fault Refusal := .next (driveLinePulseRequest.serve s)

/-- The line is PULSING and the timebase has reached its end time (R156). -/
def OutputState.ended (o : OutputState) (now : Nat) : Bool :=
  match o with
  | .resting => false
  | .driven _ => false
  | .pulsing ends => decide (ends ≤ now)

/-- PULSE_END (R156): the line becomes RESTING at its end time. -/
def execPulseEnd (n : Fin 12) (s : State) : Host.Outcome State Fault Refusal :=
  .next (if (s.line n).output.ended s.now then s.setOutput n .resting else s)

/-! ## Input lines -/

/-- A change to a level matches an edge (R153). -/
def Edge.fits (e : Edge) (level : Bool) : Bool :=
  match e with
  | .rise => level
  | .fall => !level
  | .both => true

/-- A filtered change is told to the owner (R153): LINE is raised in its domain and, where deliver-events is set, a LINE event
is produced for its first lane. -/
def State.tellOwner (s : State) (n : Fin 12) (level : Bool) : State :=
  let r := s.line n
  match r.entry.owner with
  | none => s
  | some d =>
    if r.entry.edge.fits level then
      let s := s.raise d .line
      if r.entry.deliver then s.placeEvent d.firstLane (.line r.entry.tag n level r.mismatch) else s
    else s

/-- A line takes a filtered level with count 0, and its mismatch state is set (R151, R154). -/
def Line.take (n : Line) (level : Bool) : Line :=
  { n with filter := .settled level 0, mismatch := level != n.entry.expected }

/-- A filtered change of a line (R151, R153, R154): the owner is told, and the combiner is evaluated where the mismatch state
changes. R159 leaves open whether the LINE event is placed before or after the entry into LOCKDOWN that the same change brings;
that it is placed before is a DESIGN CHOICE (notes/assumptions/35). -/
def State.filteredChange (s : State) (n : Fin 12) (level : Bool) : State :=
  State.evaluateMismatch (s.line n).mismatch n ((s.setLine n ((s.line n).take level)).tellOwner n level)

/-- The end of a line's settling (R152): as a filtered change, but no one is told. -/
def State.settle (s : State) (n : Fin 12) (level : Bool) : State :=
  State.evaluateMismatch (s.line n).mismatch n (s.setLine n ((s.line n).take level))

/-- The filter of a line is replaced. -/
def State.setFilter (s : State) (n : Fin 12) (f : Filter) : State :=
  s.setLine n { s.line n with filter := f }

/-- A sample of one line (R151, R152); an OUT line is not sampled. -/
def State.sampleLine (levels : BitVec 12) (s : State) (n : Fin 12) : State :=
  let level := levels.getLsbD n.val
  match (s.line n).filter with
  | .off => s
  | .settling none => s.setFilter n (.settling (some (level, 1)))
  | .settling (some (candidate, run)) =>
    if level ≠ candidate then s.setFilter n (.settling (some (level, 1)))
    else if run + 1 < 3 then s.setFilter n (.settling (some (candidate, run + 1)))
    else s.settle n candidate
  | .settled filtered count =>
    if level = filtered then s.setFilter n (.settled filtered 0)
    else if count < 2 then s.setFilter n (.settled filtered (count + 1))
    else s.filteredChange n level

/-- LINE_SAMPLE (R151, R152): every IN line is sampled in one event, in line number order; none is while the part is in reset. -/
def execLineSample (levels : BitVec 12) (s : State) : Host.Outcome State Fault Refusal :=
  if s.inReset then .next s else .next ((List.finRange 12).foldl (State.sampleLine levels) s)

/-- FILTERED_CHANGE (R151, R153): the sample of one line that differs from its filtered level with the count at 2. -/
def execFilteredChange (n : Fin 12) (s : State) : Host.Outcome State Fault Refusal :=
  match (s.line n).filter with
  | .settled level 2 => .next (s.filteredChange n (!level))
  | .settled _ _ => .next s
  | .settling _ => .next s
  | .off => .next s

/-- SETTLING_END (R152): the sample of one line that brings its run to 3. -/
def execSettlingEnd (n : Fin 12) (s : State) : Host.Outcome State Fault Refusal :=
  match (s.line n).filter with
  | .settling (some (level, 2)) => .next (s.settle n level)
  | .settling _ => .next s
  | .settled _ _ => .next s
  | .off => .next s

end Sys2Proof.Machine
end

