-- ==== Sys2Proof/Machine/PanelPath.lean ====
section
/-! DEFINITION. SET_PANES, SCROLL_PANE, APP_FRAME_START, APP_INPUT_ROW, VIDEO_LOSS, FREE_RUN_ROW_SLOT and FREE_RUN_FRAME_END
(the chapter Panes and the Panel Path). -/

namespace Sys2Proof.Machine

/-! ## SET PANES -/

/-- The bytes of pane record `k` of a SET PANES payload (TABLE N of Envelopes and Formats). -/
def paneBytes (p : List Byte) (k : Nat) : List Byte := (p.drop (6 + 8 * k)).take 8

/-- The source that a source byte names (TABLE J of Envelopes and Formats). -/
def PaneSource.ofCode (c : Nat) : Option PaneSource :=
  if c = 1 then some .appVideo else if c = 2 then some .secure else if c = 3 then some .fill else none

/-- The pane that a record describes; `none` where a field holds a value not listed: height, owner, source, and for a
SECURE pane the scroll offset (R122). Store base and offset are held as 0 for a pane that is not SECURE (R121). -/
def paneOf (r : List Byte) : Option Pane :=
  match PaneSource.ofCode (byteAt r 3) with
  | none => none
  | some source =>
    if 1 ≤ halfAt r 0 ∧ halfAt r 0 ≤ Config.rows ∧ (byteAt r 2 = 1 ∨ byteAt r 2 = 2)
        ∧ (source = .secure → halfAt r 6 ≤ 319) then
      some ⟨halfAt r 0, decide (byteAt r 2 = 2), source, bitAt r 4 0, bitAt r 4 1,
        if source = .secure then byteAt r 5 else 0, if source = .secure then halfAt r 6 else 0⟩
    else none

/-- The pane records of a SET PANES payload from record `k` on, `n` of them: the panes, or the index of the first record
with a field at fault (R33, R122). -/
def panesFrom (p : List Byte) (k : Nat) : Nat → Except Nat (List Pane)
  | 0 => .ok []
  | n + 1 =>
    match paneOf (paneBytes p k) with
    | none => .error k
    | some pane =>
      match panesFrom p (k + 1) n with
      | .error j => .error j
      | .ok rest => .ok (pane :: rest)

/-- The pane count of a SET PANES payload. -/
def paneCount (p : List Byte) : Nat := byteAt p 2

/-- Owner and source agree (test a of R122): an APP pane shows APP-VIDEO, and a PAY pane does not. -/
def Pane.ownerAgrees (p : Pane) : Bool := p.ownerPay != decide (p.source = .appVideo)

/-- Capture and shade are placed rightly (test b of R122): on a PAY pane, and shade with capture alone. -/
def Pane.marksPlaced (p : Pane) : Bool := (p.ownerPay || !(p.capture || p.shade)) && (p.capture || !p.shade)

/-- A SECURE pane fits the store (test d of R122). -/
def Pane.fitsStore (p : Pane) : Bool :=
  !decide (p.source = .secure)
    || (decide (p.height ≤ 256) && decide (p.base + p.height ≤ 256) && decide (p.offset < p.height))

/-- Tests a to d of R122 on one pane, with whether an earlier pane has capture. -/
def Pane.valid (captured : Bool) (p : Pane) : Bool :=
  p.ownerAgrees && p.marksPlaced && !(captured && p.capture) && p.fitsStore

/-- The index of the first pane that fails a test of R122, from index `k` on. -/
def firstInvalid (captured : Bool) (k : Nat) : List Pane → Option Nat
  | [] => none
  | p :: rest => if p.valid captured then firstInvalid (captured || p.capture) (k + 1) rest else some k

/-- The sum of the heights of panes. -/
def heightSum (panes : List Pane) : Nat := (panes.map Pane.height).sum

/-- Check 6 of R96 on a pane list (R122): the index of the first pane that fails, or the pane count where the heights do not
sum to 320. -/
def panesRefused (panes : List Pane) : Option Nat :=
  match firstInvalid false 0 panes with
  | some k => some k
  | none => if heightSum panes = Config.rows then none else some panes.length

/-- The pane table that a SET PANES payload carries, where its fields pass. -/
def tableOf (p : List Byte) : PaneTable :=
  ⟨BitVec.ofNat 16 (halfAt p 4), match panesFrom p 0 (paneCount p) with | .ok panes => panes | .error _ => []⟩

/-- SET PANES (R122, R123): its table becomes the staged one; the SET PANES that staged the table it replaces completes with
SUPERSEDED. A payload too short for its count byte is one of length at fault. -/
def setPanesRequest : HubRequest where
  code := 0x02
  takes := hasCode 0x02
  issuer := payOnly
  available := notLockdown
  length p := if p.length < 3 then 3 else 6 + 8 * paneCount p
  badField p :=
    if 1 ≤ paneCount p ∧ paneCount p ≤ 4 then
      match panesFrom p 0 (paneCount p) with
      | .error k => some k
      | .ok _ => none
    else some Config.noItem
  refused _ m := (panesRefused (tableOf m.payload).panes).map fun k => (.parameter, k)
  run s m := State.addOutstanding
    (State.completeJobs { s with panel := { s.panel with staged := some (tableOf m.payload) } } .setPanes .superseded 0)
    .setPanes m

/-- SET_PANES (R123). -/
def execSetPanes (s : State) : Host.Outcome State Fault Refusal := .next (setPanesRequest.serve s)

/-! ## SCROLL PANE -/

/-- The scroll that a SCROLL PANE payload carries (TABLE N of Envelopes and Formats). -/
def scrollOf (p : List Byte) : Scroll := ⟨byteAt p 2, halfAt p 4⟩

/-- The scroll names a SECURE pane of a table, and its offset is below the pane's height (R127). -/
def Scroll.fits (c : Scroll) (t : PaneTable) : Bool :=
  match t.panes[c.pane]? with
  | none => false
  | some p => decide (p.source = .secure) && decide (c.offset < p.height)

/-- SCROLL PANE (R127): the scroll joins the end of the pending scroll list. -/
def scrollPaneRequest : HubRequest where
  code := 0x03
  takes := hasCode 0x03
  issuer := payOnly
  available := notLockdown
  length _ := 6
  badField p := badItem (decide (byteAt p 2 ≤ 3) && decide (halfAt p 4 ≤ 319))
  refused s m := if (scrollOf m.payload).fits s.panel.active then none else some (.parameter, 0)
  run s m := State.addOutstanding
    { s with panel := { s.panel with scrolls := s.panel.scrolls ++ [scrollOf m.payload] } } .scrollPane m

/-- SCROLL_PANE (R127). -/
def execScrollPane (s : State) : Host.Outcome State Fault Refusal := .next (scrollPaneRequest.serve s)

/-! ## Frames -/

/-- The frame mode is changed: VIDEO is raised in every domain and the combiner's VIDEO input follows (R131, R132). -/
def State.setFrameMode (s : State) (m : FrameMode) : State :=
  (State.raiseAll { s with panel := { s.panel with mode := m } } .video).evaluate

/-- The video timer restarts from 0. -/
def State.restartVideo (s : State) : State :=
  { s with panel := { s.panel with videoZero := s.now } }

/-- The frame timer starts from 0. -/
def State.restartFrame (s : State) : State :=
  { s with panel := { s.panel with frameZero := s.now } }

/-- APP_FRAME_START (R130, R132): in FOLLOWING mode a short frame's remaining slots are output, and a panel frame start takes
place; in FREE-RUN mode the frame in progress is abandoned, the mode becomes FOLLOWING, and a panel frame start takes
place. The video timer restarts. While the part is in reset the APP video input is disregarded (R129). -/
def execAppFrameStart (s : State) : Host.Outcome State Fault Refusal :=
  if s.inReset then .next s
  else match s.panel.mode with
    | .following => .next s.beginPanelEvent.outputRest.restartVideo.frameStart
    | .freeRun => .next ((s.beginPanelEvent.setFrameMode .following).restartVideo.frameStart)

/-- APP_INPUT_ROW (R130): in FOLLOWING mode the row that arrives is the next row slot while one remains; rows from the 320th
on, and rows in FREE-RUN mode (R131), are disregarded. -/
def execAppInputRow (pixels : List Pixel) (s : State) : Host.Outcome State Fault Refusal :=
  if s.inReset then .next s
  else match s.panel.mode with
    | .freeRun => .next s
    | .following =>
      if s.panel.nextSlot < Config.rows then .next (s.beginPanelEvent.outputSlot (some pixels)) else .next s

/-- The video timer reaches 100 ms in FOLLOWING mode (R131). -/
def State.videoLossDue (s : State) : Bool :=
  decide (s.panel.mode = .following) && decide (s.panel.videoZero + Config.videoLimit ≤ s.now)

/-- VIDEO_LOSS (R131): the remaining row slots are output, the mode becomes FREE-RUN, and a panel frame start takes place. -/
def execVideoLoss (s : State) : Host.Outcome State Fault Refusal :=
  .next (if s.videoLossDue then (s.beginPanelEvent.outputRest.setFrameMode .freeRun).frameStart.restartFrame else s)

/-- The frame timer reaches the time of the next row slot in FREE-RUN mode: slot r at r × 52 µs (R132). -/
def State.rowSlotDue (s : State) : Bool :=
  !s.inReset && decide (s.panel.mode = .freeRun) && decide (s.panel.nextSlot < Config.rows)
    && decide (s.panel.frameZero + s.panel.nextSlot * Config.slotTime ≤ s.now)

/-- FREE_RUN_ROW_SLOT (R132): the next row slot is output. -/
def execFreeRunRowSlot (s : State) : Host.Outcome State Fault Refusal :=
  .next (if s.rowSlotDue then s.beginPanelEvent.outputSlot none else s)

/-- The frame timer reaches 16,667 µs in FREE-RUN mode (R132). -/
def State.frameEndDue (s : State) : Bool :=
  !s.inReset && decide (s.panel.mode = .freeRun) && decide (s.panel.frameZero + Config.frameTime ≤ s.now)

/-- FREE_RUN_FRAME_END (R132): a panel frame start takes place, and the frame timer starts from 0. -/
def execFreeRunFrameEnd (s : State) : Host.Outcome State Fault Refusal :=
  .next (if s.frameEndDue then s.beginPanelEvent.frameStart.restartFrame else s)

end Sys2Proof.Machine
end

