-- ==== Sys2Proof/Machine/Ports.lean ====
section
/-! DEFINITION. The port units: PORT_ACCESS and the writes of the four port registers (sections A and B of Exchange Memory
and Slot Boards). -/

namespace Sys2Proof

/-- The access falls wholly within the port's window, is of 1, 2 or 4 bytes and is aligned (R1, R2). -/
def Domain.inWindow (d : Domain) (offset size : Nat) : Bool :=
  (size == 1 || size == 2 || size == 4) && offset % size == 0 && decide (offset + size ≤ d.windowSize)

end Sys2Proof

namespace Sys2Proof.Machine

/-! ## Windows -/

/-- Board initialisation of the domain runs, and the byte is a slot's state field (R19). -/
def State.masksByte (s : State) (d : Domain) (a : Nat) : Bool :=
  (s.dom d).initialising.isSome && d.isStateByte a

/-- The bytes that a read of the window returns: as they stand, but FREE for a state field while board initialisation of
the domain runs (R1, R19). An accepted access covers a state field in its first byte alone, since it is aligned. -/
def State.readWindow (s : State) (d : Domain) (offset size : Nat) : List Byte :=
  let bs := Memory.readBytes (s.window d) offset size
  if s.masksByte d offset then slotFree :: bs.tail else bs

/-- A write of the window: it replaces the bytes, but leaves a state field while board initialisation of the domain runs
(R1, R19). -/
def State.storeWindow (s : State) (d : Domain) (offset : Nat) (bs : List Byte) : State :=
  if s.masksByte d offset then s.writeWindow d (offset + 1) bs.tail else s.writeWindow d offset bs

/-! ## Registers -/

/-- The port registers. -/
inductive PortRegister where
  | attention
  | acknowledge
  | status
  | identity
  deriving DecidableEq, Repr

/-- The register that an access reaches: 4 bytes at the register's offset (R1, R2). -/
def registerAt (offset size : Nat) : Option PortRegister :=
  if size = 4 then
    if offset = 0x30000 then some .attention
    else if offset = 0x30004 then some .acknowledge
    else if offset = 0x30008 then some .status
    else if offset = 0x3000C then some .identity
    else none
  else none

/-- What a read of ATTENTION returns: the scan-wanted marks of the port's lanes (R6). -/
def State.attentionWord (s : State) (d : Domain) : Word :=
  d.lanes.foldl (fun w l => if (s.lane l).scanWanted then w ||| 1#32 <<< l.place else w) 0#32

/-- What a read of IDENTITY returns: identity code 0xF4, revision 0x01, port code and stray access count (R9, TABLE G). -/
def State.identityWord (s : State) (d : Domain) : Word :=
  BitVec.ofNat 32 (0xF4010000 + d.code * 256 + (s.dom d).stray)

/-- What a read of a register returns; ACKNOWLEDGE reads zero (R6-R9). -/
def State.readRegister (s : State) (d : Domain) : PortRegister → Word
  | .attention => s.attentionWord d
  | .acknowledge => 0#32
  | .status => s.statusWord d
  | .identity => s.identityWord d

/-- The lane set that a write to ATTENTION names: the low 8 bits on the APP port; the single lane on the others (R5). -/
def attentionSet (d : Domain) (value : Word) : Byte :=
  match d with
  | .app => value.setWidth 8
  | .pay | .rad => 1#8

/-- A write to ATTENTION that names lanes, by the state of the domain (R5). -/
def State.nameLanes (s : State) (d : Domain) (set : Byte) : State :=
  if set = 0#8 then s
  else match (s.dom d).status, (s.dom d).initialising with
    | .up, _ => s.attend d set
    | .waiting, none => (s.goUp d).attend d set
    | .waiting, some _ => s.updDom d fun r => { r with remembered := r.remembered ||| set }
    | .held, _ => s

/-- A write to ATTENTION: the restart word announces a restart (R20), any other value names lanes (R5). -/
def State.writeAttention (s : State) (d : Domain) (value : Word) : State :=
  if value = Config.restartWord then s.selfRestart d else s.nameLanes d (attentionSet d value)

/-- A write to IDENTITY sets the stray access count to 0 (R3, R9). -/
def State.clearStray (s : State) (d : Domain) : State :=
  s.updDom d fun r => { r with stray := 0 }

/-- A write of a register; a write to STATUS is discarded (R5, R7-R9). -/
def State.writeRegister (s : State) (d : Domain) (value : Word) : PortRegister → State
  | .attention => s.writeAttention d value
  | .acknowledge => s.clearFlags d value
  | .status => s
  | .identity => s.clearStray d

/-! ## Accesses -/

/-- The port returns data to its processor's read. -/
def State.returnData (s : State) (d : Domain) (w : Word) : State :=
  s.updDom d fun r => { r with readData := w }

/-- A stray access: the stray access count rises by 1, stopping at 255, and a read returns zero (R3). -/
def State.strayAccess (s : State) (d : Domain) (op : PortOp) : State :=
  let s := s.updDom d fun r => { r with stray := bumpByte r.stray }
  match op with
  | .read => s.returnData d 0#32
  | .write _ => s

/-- An access that the port carries out or treats as stray (R1-R3). -/
def State.access (s : State) (d : Domain) (offset size : Nat) (op : PortOp) : State :=
  if d.inWindow offset size then
    match op with
    | .read => s.returnData d (BitVec.ofNat 32 (natOf (s.readWindow d offset size)))
    | .write value => s.storeWindow d offset (bytesOf size value.toNat)
  else match registerAt offset size with
    | some r =>
      match op with
      | .read => s.returnData d (s.readRegister d r)
      | .write value => s.writeRegister d value r
    | none => s.strayAccess d op

/-- The port's processor makes accesses: the part is not in reset (R3) and the domain is not HELD (R8; notes/assumptions/6). -/
def State.portOpen (s : State) (d : Domain) : Bool :=
  !s.inReset && decide ((s.dom d).status ≠ .held)

/-- PORT_ACCESS (R1-R3). While the part is in reset a read returns zero and a write is discarded, and the stray access count
does not change (R3). -/
def execPortAccess (d : Domain) (offset size : Nat) (op : PortOp) (s : State) : Host.Outcome State Fault Refusal :=
  if s.inReset then
    match op with
    | .read => .next (s.returnData d 0#32)
    | .write _ => .next s
  else if s.portOpen d then .next (s.access d offset size op)
  else .next s

/-- ATTENTION_LANES (R5): a write of a value to ATTENTION, which names lanes unless it is the restart word. -/
def execAttentionLanes (d : Domain) (value : Word) (s : State) : Host.Outcome State Fault Refusal :=
  .next (if s.portOpen d then s.writeAttention d value else s)

/-- SELF_ANNOUNCED_RESTART (R20, R115): a write of the restart word to ATTENTION. -/
def execSelfAnnouncedRestart (d : Domain) (s : State) : Host.Outcome State Fault Refusal :=
  .next (if s.portOpen d then s.selfRestart d else s)

/-- ACKNOWLEDGE (R7, R162): the named flags are cleared; the port carries it out while board initialisation runs too. -/
def execAcknowledge (d : Domain) (value : Word) (s : State) : Host.Outcome State Fault Refusal :=
  .next (if s.portOpen d then s.clearFlags d value else s)

/-- IDENTITY_WRITE (R9): the stray access count is set to 0, whatever the value. -/
def execIdentityWrite (d : Domain) (_value : Word) (s : State) : Host.Outcome State Fault Refusal :=
  .next (if s.portOpen d then s.clearStray d else s)

/-- STATUS_WRITE (R8): the write is discarded and is no stray access. -/
def execStatusWrite (_d : Domain) (_value : Word) (s : State) : Host.Outcome State Fault Refusal :=
  .next s

end Sys2Proof.Machine
end

