-- ==== Sys2Proof/Machine/Resets.lean ====
section
/-! DEFINITION. POWER_ON_RESET, PIN_RESET and RESET_END: the resets of the whole part (R3, R4, R106 and the reset tables of
the chapters). -/

namespace Sys2Proof.Machine

/-- The part while it is in reset, with the windows given: every unit at its values after reset, no board initialisation
begun, no frame begun, no line settling begun (notes/assumptions/5). -/
def State.inResetWith (s : State) (app pay rad : Memory) (now : Nat) : State where
  now := now
  inReset := true
  app := DomainRecord.reset app none
  pay := DomainRecord.reset pay none
  rad := DomainRecord.reset rad none
  lanes := Vector.replicate 10 LaneState.reset
  scanner := ⟨.app 0, none⟩
  exchanges := Vector.replicate 48 ⟨0#10, .free⟩
  routes := []
  hub := Hub.reset
  panel := Panel.reset now []
  touch := Touch.reset .idle
  keys := Vector.replicate 16 Key.reset
  lines := Vector.replicate 12 (Line.reset .off)
  combiner := Combiner.reset
  pending := s.pending

/-- POWER_ON_RESET (R4): the contents of XM are undefined, which the model makes zero (notes/assumptions/1). -/
def execPowerOnReset (s : State) : Host.Outcome State Fault Refusal :=
  .next (s.inResetWith [] [] [] 0)

/-- PIN_RESET (R3, R4): every byte of XM is kept; the slot states become FREE in the board initialisation that follows. -/
def execPinReset (s : State) : Host.Outcome State Fault Refusal :=
  .next (s.inResetWith s.app.window s.pay.window s.rad.window s.now)

/-- RESET_END (R106): the reset outputs are released, the three domains are WAITING with board initialisation begun (R19), a
panel frame start takes place and the frame timer starts (R129), every line begins settling (R150), and a touch read begins
where the report-ready line is low (R138). -/
def execResetEnd (reportReadyLow : Bool) (s : State) : Host.Outcome State Fault Refusal :=
  if s.inReset then
    let s := (((({ s with inReset := false }).startInit .app).startInit .pay).startInit .rad).updLines
      fun n => { n with filter := .settling none }
    .next { s with
      panel := Panel.reset s.now [.frameStart]
      touch := Touch.reset (if reportReadyLow then .reading else .idle) }
  else .next s

/-- BOARD_INITIALISATION_COMPLETE (R19): the board initialisation of a domain completes, where one is in progress. -/
def execBoardInitialisationComplete (d : Domain) (s : State) : Host.Outcome State Fault Refusal :=
  match (s.dom d).initialising with
  | none => .next s
  | some _ => .next (s.finishInit d)

end Sys2Proof.Machine
end

