-- ==== Sys2Proof/Machine/RouteLoad.lean ====
section
/-! DEFINITION. LOAD_ROUTES, LOAD_ROUTES_COMPLETION and UNKNOWN_REQUEST_CODE (section F of Routes and Admission; R96). -/

namespace Sys2Proof.Machine

/-! ## The image -/

/-- The read of the image from the PAY policy area: the count word, and the entries when the count is 64 or less (R52,
TABLE H of Envelopes and Formats). -/
def readImage (m : Memory) : RouteImage :=
  let count := natOf (Memory.readBytes m 0x4000 4)
  { count := count
    entries := if count ≤ Config.maxRoutes
      then (List.range count).map fun k => Memory.readBytes m (0x4020 + 32 * k) 32
      else [] }

/-- The source that a source byte names: a lane code, or 15 for A* (TABLE I of Envelopes and Formats). -/
def RouteSource.ofCode (c : Nat) : Option RouteSource :=
  if c = 15 then some .anyApp else (Lane.ofCode c).map .lane

/-- The budget of an image entry with its level at the burst and its timer at 0: `none` where a field fails (R53, R54). -/
def imageBudget (e : List Byte) (now : Nat) : Option (Option Budget) :=
  if byteAt e 10 = 0 then some none
  else if byteAt e 10 = 1 ∧ 1 ≤ byteAt e 11 ∧ 1 ≤ halfAt e 12 then
    some (some ⟨byteAt e 11, halfAt e 12, byteAt e 11, now⟩)
  else none

/-- The clamped deadline: 10 to 60,000 ms (R53). -/
def clampDeadline (d : Nat) : Nat := max 10 (min d 60000)

/-- The route that an image entry describes, with its deadline clamped; `none` where a field of it fails (R53). -/
def imageRoute (e : List Byte) (now : Nat) : Option Route :=
  match RouteSource.ofCode (byteAt e 0), Address.decode (byteAt e 1) (byteAt e 2), imageBudget e now with
  | some source, some target, some budget =>
    if target ≠ .hub ∧ (bitAt e 3 0 || bitAt e 3 1) = true ∧ halfAt e 4 ≤ Config.maxPayload ∧ halfAt e 6 ≤ Config.maxPayload
    then some ⟨source, target, bitAt e 3 0, bitAt e 3 1, halfAt e 4, halfAt e 6, clampDeadline (halfAt e 8), budget⟩
    else none
  | _, _, _ => none

/-- Two entries have the same key (R35). -/
def Route.sameKey (r r' : Route) : Bool := decide (r.source = r'.source) && decide (r.target = r'.target)

/-- The judgement of the entries from the first one of the list on, with the routes judged before it: the table, or the
index of the first entry that fails by a field or by its key (R53). -/
def judgeEntries (now : Nat) : List Route → List (List Byte) → Except Nat (List Route)
  | done, [] => .ok done
  | done, e :: rest =>
    match imageRoute e now with
    | none => .error done.length
    | some r => if done.any r.sameKey then .error done.length else judgeEntries now (done ++ [r]) rest

/-- The judgement of an image: the new table, or the detail of the failure (R53). -/
def RouteImage.judge (image : RouteImage) (now : Nat) : Except Nat (List Route) :=
  if Config.maxRoutes < image.count then .error Config.noItem else judgeEntries now [] image.entries

/-! ## The commands -/

/-- LOAD ROUTES (TABLE A of The Hub Service and Hub Modes): its execution begins with the read, and the service is busy until
the completion (R52). -/
def loadRoutesRequest : HubRequest where
  code := 0x01
  takes := hasCode 0x01
  issuer := payOnly
  available := anyMode
  length _ := 2
  badField := anyField
  refused := noCondition
  run s m := State.addOutstanding
    { s with hub := { s.hub with loading := some ⟨readImage s.pay.window, s.now⟩ } } .loadRoutes m

/-- LOAD_ROUTES (R52). -/
def execLoadRoutes (s : State) : Host.Outcome State Fault Refusal := .next (loadRoutesRequest.serve s)

/-- A judged image becomes the route table, routes-loaded is set, and a hub in BOOT goes to OPEN (R54). -/
def State.installRoutes (s : State) (table : List Route) : State :=
  let s := { s with routes := table, hub := { s.hub with routesLoaded := true } }
  if s.hub.mode = .boot then s.setMode .openMode else s

/-- LOAD_ROUTES_COMPLETION (R54, R55): the busy state ends, and the judged image is installed with the reply DONE, or the
table is left with the reply PARAMETER and the detail of R53. -/
def execLoadRoutesCompletion (s : State) : Host.Outcome State Fault Refusal :=
  match s.hub.loading with
  | none => .next s
  | some job =>
    let s := { s with hub := { s.hub with loading := none } }
    match job.image.judge s.now with
    | .ok table => .next ((s.installRoutes table).completeJobs .loadRoutes .done 0)
    | .error detail => .next (s.completeJobs .loadRoutes .parameter detail)

/-- The request codes of TABLE N of Envelopes and Formats are 0x01 to 0x11. -/
def knownCode (c : Nat) : Bool := decide (1 ≤ c) && decide (c ≤ 0x11)

/-- The payload is empty or its first byte is no code of TABLE N (check 1 of R96). -/
def unknownCode (p : List Byte) : Bool :=
  match p with
  | [] => true
  | b :: _ => !knownCode b.toNat

/-- UNKNOWN_REQUEST_CODE (R96): the hub service takes a request that fails check 1 and completes it with PARAMETER, detail
0xFFFF; the reply's request code is 0 where the payload is empty (R97). -/
def execUnknownRequestCode (s : State) : Host.Outcome State Fault Refusal :=
  match s.hubHead with
  | none => .next s
  | some h =>
    if unknownCode h.message.payload then
      .next ((s.hubTake h.message).finish h.message (byteAt h.message.payload 0) .parameter Config.noItem [])
    else .next s

end Sys2Proof.Machine
end

