-- ==== Sys2Proof/Machine/TouchKeys.lean ====
section
/-! DEFINITION. SET_CALIBRATION, SET_FOCUS, REPORT_READY_FALL, TOUCH_READ_COMPLETION, KEY_SENSE and KEY_CHANGE_ACCEPTED (the
chapter Touch and Key Routing). -/

namespace Sys2Proof.Machine

/-! ## SET CALIBRATION and SET FOCUS -/

/-- The calibration record that a SET CALIBRATION payload carries (TABLE K and TABLE N of Envelopes and Formats). -/
def calibrationOf (p : List Byte) : Calibration where
  xmin := halfAt p 2
  xmax := halfAt p 4
  ymin := halfAt p 6
  ymax := halfAt p 8
  swap := bitAt p 10 0
  flipX := bitAt p 10 1
  flipY := bitAt p 10 2

/-- The four limits lie within 0-4095 (check 5 of R96, R140). -/
def Calibration.inRange (c : Calibration) : Bool :=
  decide (c.xmin ≤ 4095) && decide (c.xmax ≤ 4095) && decide (c.ymin ≤ 4095) && decide (c.ymax ≤ 4095)

/-- Each maximum exceeds its minimum by at least 256 (check 6 of R96, R140). -/
def Calibration.spans (c : Calibration) : Bool :=
  decide (c.xmin + 256 ≤ c.xmax) && decide (c.ymin + 256 ≤ c.ymax)

/-- SET CALIBRATION (R140). -/
def setCalibrationRequest : HubRequest where
  code := 0x04
  takes := hasCode 0x04
  issuer := payOnly
  available := anyMode
  length _ := 14
  badField p := badItem (calibrationOf p).inRange
  refused _ m := if (calibrationOf m.payload).spans then none else some (.parameter, 0)
  run s m := State.finish { s with touch := { s.touch with calibration := calibrationOf m.payload } } m 0x04 .done 0 []

/-- SET_CALIBRATION (R140). -/
def execSetCalibration (s : State) : Host.Outcome State Fault Refusal := .next (setCalibrationRequest.serve s)

/-- The application lane that a SET FOCUS payload names. -/
def focusOf (p : List Byte) : Fin 8 := Fin.ofNat 8 (byteAt p 2)

/-- SET FOCUS (R147). -/
def setFocusRequest : HubRequest where
  code := 0x05
  takes := hasCode 0x05
  issuer l := decide (l = .app 0)
  available := anyMode
  length _ := 3
  badField p := badItem (decide (byteAt p 2 ≤ 7))
  refused := noCondition
  run s m := State.finish { s with touch := { s.touch with focus := focusOf m.payload } } m 0x05 .done 0 []

/-- SET_FOCUS (R147). -/
def execSetFocus (s : State) : Host.Outcome State Fault Refusal := .next (setFocusRequest.serve s)

/-! ## From a raw contact to the panel -/

/-- A raw value clamped into a range (step 2 of R141). -/
def clampTo (lo hi v : Nat) : Nat := max lo (min v hi)

/-- A clamped value scaled to 0 up to `last`, rounded to the nearest whole number with halves rounded up (step 3 of R141). -/
def scale (last lo hi v : Nat) : Nat := ((v - lo) * (2 * last) + (hi - lo)) / (2 * (hi - lo))

/-- The calibrated x of a raw contact (R141). -/
def Calibration.x (c : Calibration) (rawX rawY : Nat) : Nat :=
  let v := scale 239 c.xmin c.xmax (clampTo c.xmin c.xmax (if c.swap then rawY else rawX))
  if c.flipX then 239 - v else v

/-- The calibrated y of a raw contact (R141). -/
def Calibration.y (c : Calibration) (rawX rawY : Nat) : Nat :=
  let v := scale 319 c.ymin c.ymax (clampTo c.ymin c.ymax (if c.swap then rawX else rawY))
  if c.flipY then 319 - v else v

/-- A calibrated contact placed by a pane table (R142). Every row 0-319 lies in a pane of a table whose heights sum to 320; of
a row that lies in none, which no run reaches, the model names pane 0, row 0. -/
def PaneTable.place (t : PaneTable) (x y : Nat) : Placement :=
  match findPane t.panes 0 y with
  | some (k, p, i) =>
    if p.source = .secure then ⟨x, y, k, i, p.storeLine i, true⟩ else ⟨x, y, k, i, 0, false⟩
  | none => ⟨x, y, 0, 0, 0, false⟩

/-- The placement of a raw contact, by the calibration record and the active table as they stand (R139). -/
def State.placementOf (s : State) (rawX rawY : Nat) : Placement :=
  s.panel.active.place (s.touch.calibration.x rawX rawY) (s.touch.calibration.y rawX rawY)

/-! ## Contacts -/

/-- The pane that a placement lies in is owned by PAY. -/
def State.placedOnPay (s : State) (p : Placement) : Bool :=
  (s.panel.active.panes[p.pane]?).any Pane.ownerPay

/-- The owner of a contact that begins (R143). -/
def State.contactOwner (s : State) (p : Placement) : Option Lane :=
  if s.inputToPay || s.placedOnPay p then some .pay else s.focusOwner

/-- An event is produced for an owner, where there is one. -/
def State.produce (s : State) (owner : Option Lane) (e : InputEvent) : State :=
  match owner with
  | some l => s.placeEvent l e
  | none => s

/-- A contact begins (R143). -/
def State.beginContact (s : State) (i : Fin 2) (p : Placement) : State :=
  let owner := s.contactOwner p
  (s.produce owner (.touch i .down p)).setContact i (some ⟨owner, p⟩)

/-- A contact of a taken report acts on its record by its phase (R143, R144). -/
def State.touchContact (s : State) (i : Fin 2) (phase : RawPhase) (p : Placement) : State :=
  match s.contact i, phase with
  | none, .down => s.beginContact i p
  | none, .move => s
  | none, .up => s
  | none, .other => s
  | some c, .down => ((s.produce c.owner (.touch i .cancel c.place)).setContact i none).beginContact i p
  | some c, .move => (s.produce c.owner (.touch i .move p)).setContact i (some ⟨c.owner, p⟩)
  | some c, .up => (s.produce c.owner (.touch i .up p)).setContact i none
  | some _, .other => s

/-- A listed contact is handled; one whose id is not 0 or 1, or whose phase is none of the three, is disregarded (R139). -/
def State.takeContact (s : State) (c : RawContact) : State :=
  if h : c.id < 2 then s.touchContact ⟨c.id, h⟩ c.phase (s.placementOf c.x c.y) else s

/-- A report is taken: its first two contacts, in listing order (R139). -/
def State.takeReport (s : State) (report : List RawContact) : State :=
  (report.take 2).foldl State.takeContact s

/-! ## The touch link -/

/-- REPORT_READY_FALL (R138): a read begins in IDLE, and a fall during a read sets the read-pending mark. A fall while the
part is in reset begins none; RESET_END looks at the line instead. -/
def execReportReadyFall (s : State) : Host.Outcome State Fault Refusal :=
  if s.inReset then .next s
  else match s.touch.link with
    | .idle => .next { s with touch := { s.touch with link := .reading } }
    | .reading => .next { s with touch := { s.touch with readPending := true } }
    | .retrying => .next { s with touch := { s.touch with readPending := true } }

/-- A read has taken or dropped a report (R138): the link is IDLE, or a new read begins at once where the read-pending mark is
set or the report-ready line is low, and the mark is cleared. -/
def State.endRead (s : State) (reportReadyLow : Bool) : State :=
  { s with touch := { s.touch with
    link := if s.touch.readPending || reportReadyLow then .reading else .idle
    readPending := false } }

/-- A report is dropped after its retry, which is charged to PAY (R138). -/
def State.dropReport (s : State) : State :=
  (s.updLane .pay fun r => { r with inputLost := bump r.inputLost }).raise .pay .inputLost

/-- TOUCH_READ_COMPLETION (R138): a read ends acknowledged, with its report, or not acknowledged (`none`). In IDLE no read is
in progress, so none completes. -/
def execTouchReadCompletion (report : Option (List RawContact)) (reportReadyLow : Bool) (s : State) :
    Host.Outcome State Fault Refusal :=
  match s.touch.link, report with
  | .idle, _ => .next s
  | .reading, none => .next { s with touch := { s.touch with link := .retrying } }
  | .retrying, none => .next (s.dropReport.endRead reportReadyLow)
  | .reading, some r => .next ((s.takeReport r).endRead reportReadyLow)
  | .retrying, some r => .next ((s.takeReport r).endRead reportReadyLow)

/-! ## Keys -/

/-- The owner of a key that is pressed (R149). -/
def State.keyOwner (s : State) : Option Lane := if s.inputToPay then some .pay else s.focusOwner

/-- A change of a key is accepted (R148, R149). -/
def State.acceptKey (s : State) (k : Fin 16) : State :=
  if (s.key k).pressed then
    (s.produce (s.key k).owner (.key k .up)).setKey k ⟨false, 0, none⟩
  else
    (s.produce s.keyOwner (.key k .down)).setKey k ⟨true, 0, s.keyOwner⟩

/-- A sensing of one key (R148): its timer is set to 0, or rises by 1 ms, and at 20 ms the change is accepted. -/
def State.senseKey (down : BitVec 16) (s : State) (k : Fin 16) : State :=
  let r := s.key k
  if down.getLsbD k.val = r.pressed then s.setKey k { r with timer := 0 }
  else if r.timer + 1 < Config.keySenses then s.setKey k { r with timer := r.timer + 1 }
  else s.acceptKey k

/-- KEY_SENSE (R148): all sixteen keys are sensed in one event, in key number order; sensing begins at the end of the reset. -/
def execKeySense (down : BitVec 16) (s : State) : Host.Outcome State Fault Refusal :=
  if s.inReset then .next s else .next ((List.finRange 16).foldl (State.senseKey down) s)

/-- KEY_CHANGE_ACCEPTED (R149): the sensing that brings the key's change timer to 20 ms, for that key alone. -/
def execKeyChangeAccepted (k : Fin 16) (s : State) : Host.Outcome State Fault Refusal :=
  if s.inReset = false ∧ (s.key k).timer + 1 = Config.keySenses then .next (s.acceptKey k) else .next s

end Sys2Proof.Machine
end

