-- ==== Sys2Proof/Machine/Dispatch.lean ====
section
/-! DEFINITION. The dispatch of a command to its meaning: one arm for each row of spec/opcode_table.json. -/

namespace Sys2Proof.Machine

def exec (i : Instr) (s : State) : Host.Outcome State Fault Refusal :=
  match i with
  | .powerOnReset => Sys2Proof.Machine.execPowerOnReset s
  | .pinReset => Sys2Proof.Machine.execPinReset s
  | .resetEnd reportReadyLow => Sys2Proof.Machine.execResetEnd reportReadyLow s
  | .portAccess port offset size op => Sys2Proof.Machine.execPortAccess port offset size op s
  | .attentionLanes port value => Sys2Proof.Machine.execAttentionLanes port value s
  | .selfAnnouncedRestart port => Sys2Proof.Machine.execSelfAnnouncedRestart port s
  | .boardInitialisationComplete domain => Sys2Proof.Machine.execBoardInitialisationComplete domain s
  | .acknowledge port value => Sys2Proof.Machine.execAcknowledge port value s
  | .identityWrite port value => Sys2Proof.Machine.execIdentityWrite port value s
  | .statusWrite port value => Sys2Proof.Machine.execStatusWrite port value s
  | .take => Sys2Proof.Machine.execTake s
  | .refill route => Sys2Proof.Machine.execRefill route s
  | .delivery lane => Sys2Proof.Machine.execDelivery lane s
  | .holdLimitDrop lane place => Sys2Proof.Machine.execHoldLimitDrop lane place s
  | .eventCellDrop lane place => Sys2Proof.Machine.execEventCellDrop lane place s
  | .expiry entry => Sys2Proof.Machine.execExpiry entry s
  | .unknownRequestCode => Sys2Proof.Machine.execUnknownRequestCode s
  | .loadRoutes => Sys2Proof.Machine.execLoadRoutes s
  | .loadRoutesCompletion => Sys2Proof.Machine.execLoadRoutesCompletion s
  | .setPanes => Sys2Proof.Machine.execSetPanes s
  | .scrollPane => Sys2Proof.Machine.execScrollPane s
  | .setCalibration => Sys2Proof.Machine.execSetCalibration s
  | .setFocus => Sys2Proof.Machine.execSetFocus s
  | .setLineMap => Sys2Proof.Machine.execSetLineMap s
  | .setCombiner => Sys2Proof.Machine.execSetCombiner s
  | .driveLine => Sys2Proof.Machine.execDriveLine s
  | .driveLinePulse => Sys2Proof.Machine.execDriveLinePulse s
  | .pulseEnd line => Sys2Proof.Machine.execPulseEnd line s
  | .setNotices => Sys2Proof.Machine.execSetNotices s
  | .domainResetHold => Sys2Proof.Machine.execDomainResetHold s
  | .domainResetRelease => Sys2Proof.Machine.execDomainResetRelease s
  | .domainResetPulse => Sys2Proof.Machine.execDomainResetPulse s
  | .pulseRelease domain => Sys2Proof.Machine.execPulseRelease domain s
  | .fenceLane => Sys2Proof.Machine.execFenceLane s
  | .restoreLane => Sys2Proof.Machine.execRestoreLane s
  | .setViolationLimit => Sys2Proof.Machine.execSetViolationLimit s
  | .readCounters => Sys2Proof.Machine.execReadCounters s
  | .status => Sys2Proof.Machine.execStatus s
  | .resume => Sys2Proof.Machine.execResume s
  | .restartHub => Sys2Proof.Machine.execRestartHub s
  | .appFrameStart => Sys2Proof.Machine.execAppFrameStart s
  | .appInputRow pixels => Sys2Proof.Machine.execAppInputRow pixels s
  | .videoLoss => Sys2Proof.Machine.execVideoLoss s
  | .freeRunRowSlot => Sys2Proof.Machine.execFreeRunRowSlot s
  | .freeRunFrameEnd => Sys2Proof.Machine.execFreeRunFrameEnd s
  | .reportReadyFall => Sys2Proof.Machine.execReportReadyFall s
  | .touchReadCompletion report reportReadyLow => Sys2Proof.Machine.execTouchReadCompletion report reportReadyLow s
  | .keySense down => Sys2Proof.Machine.execKeySense down s
  | .keyChangeAccepted key => Sys2Proof.Machine.execKeyChangeAccepted key s
  | .lineSample levels => Sys2Proof.Machine.execLineSample levels s
  | .filteredChange line => Sys2Proof.Machine.execFilteredChange line s
  | .settlingEnd line => Sys2Proof.Machine.execSettlingEnd line s

end Sys2Proof.Machine
end

