-- ==== Sys2Proof/Machine/Time.lean ====
section
/-! DEFINITION. The events that time brings: which of the part's own timed events is due in a state. Where several are due
together the reference lets them fall in either order, and the model takes them in the order of this file (notes/assumptions/2). -/

namespace Sys2Proof.Machine

/-- The three domains. -/
def allDomains : List Domain := [.app, .pay, .rad]

/-- The first index of a list whose element `p` picks. -/
def firstPlace {α : Type} (p : α → Bool) (xs : List α) : Option Nat := xs.findIdx? p

/-- A board initialisation has run for 20 µs, the most that R19 gives it. -/
def State.initDue (s : State) : Option Instr :=
  (allDomains.find? fun d => (s.dom d).initialising.any fun t => decide (t + Config.initLimit ≤ s.now)).map
    .boardInitialisationComplete

/-- A LOAD ROUTES has run for 100 µs, the most that R52 gives it. -/
def State.loadDue (s : State) : Option Instr :=
  if s.hub.loading.any fun j => decide (j.began + Config.loadLimit ≤ s.now) then some .loadRoutesCompletion else none

/-- An exchange entry has reached its deadline time; the lowest-numbered first (R81). -/
def State.firstExpiry (s : State) : Option Instr := ((List.finRange 48).find? s.expiryDue).map .expiry

/-- A refill timer has reached its interval (R46). -/
def State.firstRefill (s : State) : Option Instr :=
  (firstPlace (fun r => r.budget.any fun b => b.due s.now) s.routes).map .refill

/-- A NOTICE, a real ANSWER or a hub reply has stood 1,000 ms (R71). -/
def State.firstHoldDrop (s : State) : Option Instr :=
  allLanes.findSome? fun l => (firstPlace (Entry.holdExpired s.now) (s.lane l).fifo).map (.holdLimitDrop l)

/-- An event cell has stood 250 ms (R72). -/
def State.firstCellDrop (s : State) : Option Instr :=
  allLanes.findSome? fun l =>
    (firstPlace (fun e => (e.expiredEvent s.now).isSome) (s.lane l).fifo).map (.eventCellDrop l)

/-- A pulse of a line has reached its end time (R156). -/
def State.firstPulseEnd (s : State) : Option Instr :=
  ((List.finRange 12).find? fun n => (s.line n).output.ended s.now).map .pulseEnd

/-- A DOMAIN RESET PULSE's release is due (R113). -/
def State.firstRelease (s : State) : Option Instr := (allDomains.find? s.releaseDue).map .pulseRelease

/-- A timed event of the panel path is due (R131, R132). -/
def State.panelDue (s : State) : Option Instr :=
  if s.videoLossDue then some .videoLoss
  else if s.rowSlotDue then some .freeRunRowSlot
  else if s.frameEndDue then some .freeRunFrameEnd
  else none

/-- The timed event that falls next, where one is due. -/
def State.dueEvent (s : State) : Option Instr :=
  s.initDue <|> s.loadDue <|> s.firstExpiry <|> s.firstRefill <|> s.firstHoldDrop <|> s.firstCellDrop <|> s.firstPulseEnd
    <|> s.firstRelease <|> s.panelDue

/-- One microsecond of the timebase passes. -/
def State.tick (s : State) : State := { s with now := s.now + 1 }

end Sys2Proof.Machine
end

