-- ==== Sys2Proof/WellFormed.lean ====
section
/-! DEFINITION. Which commands can be sent to the part: the operands that the reference bounds lie within their bounds.
The operands of the other commands are bounded by their types, or unbounded. -/

namespace Sys2Proof

/-- A touch report gives raw coordinates of 0-4095 (section A of Touch and Key Routing). -/
def RawContact.wellFormed (c : RawContact) : Bool :=
  decide (c.x ≤ 4095) && decide (c.y ≤ 4095)

/-- The part has no reset output for PAY, so only APP and RAD are released by a PULSE (R106, R113). -/
def Domain.hasResetOutput : Domain → Bool
  | .app => true
  | .pay => false
  | .rad => true

/-- A command that the part can meet: a report's raw coordinates are 0-4095 (R138), a PULSE's release is of APP or RAD
(R113), and a refill names one of at most 64 route entries (R34). -/
def Instr.wellFormed : Instr → Bool
  | .touchReadCompletion (some report) _ => report.all RawContact.wellFormed
  | .pulseRelease d => d.hasResetOutput
  | .refill k => decide (k < 64)
  | .powerOnReset | .pinReset | .resetEnd _ | .portAccess _ _ _ _ | .attentionLanes _ _ | .selfAnnouncedRestart _
  | .boardInitialisationComplete _ | .acknowledge _ _ | .identityWrite _ _ | .statusWrite _ _ | .take | .delivery _
  | .holdLimitDrop _ _ | .eventCellDrop _ _ | .expiry _ | .unknownRequestCode | .loadRoutes | .loadRoutesCompletion
  | .setPanes | .scrollPane | .setCalibration | .setFocus | .setLineMap | .setCombiner | .driveLine | .driveLinePulse
  | .pulseEnd _ | .setNotices | .domainResetHold | .domainResetRelease | .domainResetPulse | .fenceLane | .restoreLane
  | .setViolationLimit | .readCounters | .status | .resume | .restartHub | .appFrameStart | .appInputRow _ | .videoLoss
  | .freeRunRowSlot | .freeRunFrameEnd | .reportReadyFall | .touchReadCompletion none _ | .keySense _
  | .keyChangeAccepted _ | .lineSample _ | .filteredChange _ | .settlingEnd _ => true

end Sys2Proof
end

