-- ==== Sys2Proof/Safety.lean ====
section
/-! DEFINITION. What counts as a safe run, in the terms that claims use: the properties that every step of the part keeps, and
the states that runs from reset reach. -/

namespace Sys2Proof.Machine

/-! ## Runs -/

/-- The states that steps lead to from the reset state, with commands joining the end of the queue between steps. -/
inductive Reachable : State → Prop where
  | reset : Reachable State.reset
  | send {s : State} (c : Instr) : Reachable s → Reachable { s with pending := s.pending ++ [c] }
  | step {s t : State} : Reachable s → Sys2Proof.Machine.step s = .next t → Reachable t

/-- A property that the next state of every step keeps. -/
def Kept (p : State → Prop) : Prop :=
  ∀ s t : State, p s → step s = .next t → p t

/-- A step goes on: it stops with no fault and no refusal. -/
def GoesOn (s : State) : Prop := ∃ t, step s = .next t

/-! ## Resets -/

/-- While the part is in reset it stands as the reset left it, whatever commands come: time alone has passed since (R3, R129,
R148, R151, R163). -/
def ResetHolds (s : State) : Prop :=
  s.inReset = true →
    ∃ began : Nat, s = { s.inResetWith s.app.window s.pay.window s.rad.window began with now := s.now }

/-! ## Domains -/

/-- A domain whose board initialisation runs is WAITING, a domain with a release pending is HELD, and PAY is never HELD (R19,
R106, R113). -/
def DomainsSound (s : State) : Prop :=
  (∀ d : Domain, ((s.dom d).initialising.isSome = true → (s.dom d).status = .waiting)
      ∧ ((s.dom d).release.isSome = true → (s.dom d).status = .held))
    ∧ s.pay.status ≠ .held

/-! ## Hub requests -/

/-- The hub service takes a message: the part is not in reset, no LOAD ROUTES is executing, more reserved buffers are free than
requests are outstanding, and the message is at the head of the HUB FIFO (R95). -/
abbrev HubTakes (s : State) (m : Message) : Prop :=
  s.inReset = false ∧ s.hub.loading = none ∧ s.hub.outstanding.length < s.freeReplies
    ∧ s.hub.fifo.head?.map Held.message = some m

/-- A hub request has been taken and completed with a reply (R80, R85, R95). -/
def State.answered (s : State) (m : Message) (reply : List Byte) : State := (s.hubTake m).complete m.tag reply

/-- A hub request has been taken and stands on the list of outstanding requests (R94). -/
def State.awaits (s : State) (m : Message) (job : Job) : State := (s.hubTake m).addOutstanding job m

/-- One row of the hub request catalogue: the command, the request code, the payloads of that code that the command takes, the
lanes that may issue the request, the modes in which it is carried out (TABLE A of The Hub Service and Hub Modes), and the
length of its parameters (TABLE N of Envelopes and Formats). -/
structure HubRow where
  command : Instr
  code : Nat
  picks : List Byte → Bool
  issuers : List Lane
  modes : List HubMode
  length : List Byte → Nat

/-- The first lanes of the domains, A0, PAY and RAD. -/
def domainLanes : List Lane := [.app 0, .pay, .rad]

/-- The three hub modes. -/
def allModes : List HubMode := [.boot, .openMode, .lockdown]

/-- The hub request catalogue, from TABLE A of The Hub Service and Hub Modes and TABLE N of Envelopes and Formats. The action
byte at offset 3 chooses between the commands of DRIVE LINE, and between those of DOMAIN RESET. -/
def hubCatalogue : List HubRow :=
  [ ⟨.loadRoutes, 0x01, fun _ => true, [.pay], allModes, fun _ => 2⟩,
    ⟨.setPanes, 0x02, fun _ => true, [.pay], [.boot, .openMode], fun p => 6 + 8 * byteAt p 2⟩,
    ⟨.scrollPane, 0x03, fun _ => true, [.pay], [.boot, .openMode], fun _ => 6⟩,
    ⟨.setCalibration, 0x04, fun _ => true, [.pay], allModes, fun _ => 14⟩,
    ⟨.setFocus, 0x05, fun _ => true, [.app 0], allModes, fun _ => 3⟩,
    ⟨.setLineMap, 0x06, fun _ => true, [.pay], allModes, fun _ => 12⟩,
    ⟨.setCombiner, 0x07, fun _ => true, [.pay], allModes, fun _ => 8⟩,
    ⟨.driveLine, 0x08, fun p => decide (byteAt p 3 ≠ 3), domainLanes, allModes, fun _ => 6⟩,
    ⟨.driveLinePulse, 0x08, fun p => decide (byteAt p 3 = 3), domainLanes, allModes, fun _ => 6⟩,
    ⟨.setNotices, 0x09, fun _ => true, domainLanes, allModes, fun _ => 8⟩,
    ⟨.domainResetHold, 0x0A, fun p => decide (byteAt p 3 ≠ 2) && decide (byteAt p 3 ≠ 3), [.pay], allModes, fun _ => 4⟩,
    ⟨.domainResetRelease, 0x0A, fun p => decide (byteAt p 3 = 2), [.pay], allModes, fun _ => 4⟩,
    ⟨.domainResetPulse, 0x0A, fun p => decide (byteAt p 3 = 3), [.pay], allModes, fun _ => 4⟩,
    ⟨.fenceLane, 0x0B, fun _ => true, [.pay], allModes, fun _ => 3⟩,
    ⟨.restoreLane, 0x0C, fun _ => true, [.pay], allModes, fun _ => 3⟩,
    ⟨.setViolationLimit, 0x0D, fun _ => true, [.pay], allModes, fun _ => 4⟩,
    ⟨.readCounters, 0x0E, fun _ => true, domainLanes, allModes, fun _ => 3⟩,
    ⟨.status, 0x0F, fun _ => true, allLanes, allModes, fun _ => 2⟩,
    ⟨.resume, 0x10, fun _ => true, [.pay], [.lockdown], fun _ => 2⟩,
    ⟨.restartHub, 0x11, fun _ => true, [.pay], allModes, fun _ => 2⟩ ]

/-! ## Takes -/

/-- The take engine makes a take for a lane: the first of a visit that the scanner grants it, or the second of the visit in
progress (R13, R14). -/
abbrev TakeBegins (s : State) (l : Lane) (first : Bool) : Prop :=
  s.inReset = false
    ∧ if first = true then s.scanner.visit = none ∧ s.granted = some l else s.scanner.visit = some l

/-- The scanner after a take for a lane: the next-lane position moves as a visit begins, and the visit goes on after a first
take that settles a slot (R13, R14). -/
def scannerAfter (s : State) (l : Lane) (first goesOn : Bool) : Scanner :=
  ⟨if first then laneAfter l else s.scanner.nextLane, if first && goesOn then some l else none⟩

/-- The part as a take for a lane finds it: the first take of a visit has moved the next-lane position (R13). -/
def State.visiting (s : State) (l : Lane) (first : Bool) : State :=
  if first then { s with scanner := { s.scanner with nextLane := laneAfter l } } else s

/-- The message that stands in an outbound slot of a lane. -/
def State.slotMessage (s : State) (l : Lane) (slot : Nat) : Slot := readSlot (s.window l.domain) (l.outSlot slot)

/-! ## Removal and LOCKDOWN -/

/-- A conclusion reference for a requester would join its FIFO: the lane is not fenced, and it is no application lane in LOCKDOWN
(R73, R74, R86). -/
def State.concludes (s : State) (l : Lane) : Bool :=
  !(s.lane l).fenced && !(l.isApp && decide (s.hub.mode = .lockdown))

/-- The responder of an exchange is a lane that `gone` picks. -/
def Exchange.answeredBy (gone : Lane → Bool) (x : Exchange) : Bool :=
  match x.responder with
  | .app y => gone (.app y)
  | .pay _ => gone .pay
  | .rad _ => gone .rad
  | .hub => false

/-- An entry that goes FREE, its generation raised (R29). -/
def ExchangeEntry.freed (e : ExchangeEntry) : ExchangeEntry := ⟨e.generation + 1, .free⟩

/-- An entry that is concluded: CLOSING where its requester can be told, else FREE (R86). -/
def State.entryConcluded (s : State) (e : ExchangeEntry) (x : Exchange) (c : Conclusion) : ExchangeEntry :=
  if s.concludes x.requester then ⟨e.generation, .closing x c false⟩ else e.freed

/-- What the removal of the lanes that `gone` picks makes of an entry, by the tables of R88 to R91; at a fence (`fence`) an entry
of the fenced requester that is AWAITED with HUB is kept (R89). -/
def State.entryRemoved (s : State) (gone : Lane → Bool) (fence : Bool) (e : ExchangeEntry) : ExchangeEntry :=
  match e.state with
  | .free => e
  | .posted x =>
    if gone x.requester then e.freed else if x.answeredBy gone then s.entryConcluded e x .targetDown else e
  | .awaited x =>
    if gone x.requester then (if fence && decide (x.responder = .hub) then e else e.freed)
    else if x.answeredBy gone then s.entryConcluded e x .targetDown else e
  | .closing x c _ =>
    if gone x.requester then e.freed
    else if x.answeredBy gone && decide (c = .expired) then ⟨e.generation, .closing x c true⟩ else e
  | .lapsed x => if gone x.requester || x.answeredBy gone then e.freed else e

/-- What the entry into LOCKDOWN makes of an entry, by the table of R92. -/
def State.entryLocked (s : State) (e : ExchangeEntry) : ExchangeEntry :=
  match e.state with
  | .free => e
  | .posted x =>
    if x.requester.isApp then e.freed else if x.answeredBy Lane.isApp then s.entryConcluded e x .lockdown else e
  | .awaited x =>
    if x.requester.isApp then (if x.responder = .hub then e else e.freed)
    else if x.answeredBy Lane.isApp then s.entryConcluded e x .lockdown else e
  | .closing x _ _ => if x.requester.isApp then e.freed else e
  | .lapsed x => if x.requester.isApp then e.freed else e

/-- An exchange that waits for its responder, POSTED or AWAITED. -/
def ExchangeState.waits? : ExchangeState → Option Exchange
  | .posted x => some x
  | .awaited x => some x
  | .free | .closing _ _ _ | .lapsed _ => none

/-- The entries, in ascending order, whose conclusion references the loss of the responders that `gone` picks places in the FIFO
of a lane that stays (R86, R90, R92). -/
def State.concludedFor (s : State) (gone : Lane → Bool) (l : Lane) : List (Fin 48) :=
  (List.finRange 48).filter fun i =>
    s.concludes l && ((s.entry i).state.waits?).any fun x => decide (x.requester = l) && x.answeredBy gone

/-- The number of conclusion references that the loss of the responders that `gone` picks brings for a fenced lane, where they are
discarded and counted DROPPED (R73, R86; notes/assumptions/19). -/
def State.discardedFor (s : State) (gone : Lane → Bool) (l : Lane) : Nat :=
  if (s.lane l).fenced then
    (List.finRange 48).countP fun i => ((s.entry i).state.waits?).any fun x => decide (x.requester = l) && x.answeredBy gone
  else 0

/-- The number of contacts and keys that a lane owns. -/
def State.inputsOf (s : State) (l : Lane) : Nat :=
  (List.finRange 2).countP (fun i => (s.contact i).any fun c => decide (c.owner = some l))
    + (List.finRange 16).countP fun k => decide ((s.key k).owner = some l)

/-- A counter after `n` more, which stops at 65,535 (R51); it stands where there are none. -/
def counterAfter (c n : Nat) : Nat := if n = 0 then c else min (c + n) 65535

/-! ## Exchange memory -/

/-- The contents of the three windows are in canonical form. -/
def WindowsCanonical (s : State) : Prop := ∀ d : Domain, (s.window d).wf

/-- Every payload that a buffer holds is of at most 496 bytes. -/
def PayloadsFit (s : State) : Prop :=
  (∀ h ∈ s.heldMessages, h.message.payload.length ≤ Config.maxPayload)
    ∧ ∀ r ∈ s.heldReplies, r.payload.length ≤ Config.maxPayload

/-- The windows hold nothing beyond their sizes, and no delivery can write beyond a slot. -/
def WindowsBounded (s : State) : Prop :=
  PayloadsFit s ∧ ∀ d : Domain, Memory.below d.windowSize (s.window d)

/-! ## Panes -/

/-- A pane that R122 lets into a table, apart from the place of its capture. -/
def Pane.Sound (p : Pane) : Prop :=
  1 ≤ p.height ∧ (p.capture = true → p.ownerPay = true) ∧ (p.shade = true → p.capture = true)
    ∧ (p.ownerPay = false ↔ p.source = .appVideo)
    ∧ (p.source = .secure → p.base + p.height ≤ Config.storeLines ∧ p.offset < p.height)

/-- A pane table as R121 and R122 have it: 1 to 4 panes, heights that sum to 320, at most one capture pane. -/
def PaneTable.Sound (t : PaneTable) : Prop :=
  1 ≤ t.panes.length ∧ t.panes.length ≤ 4 ∧ (t.panes.map Pane.height).sum = Config.rows
    ∧ (∀ p ∈ t.panes, p.Sound) ∧ t.panes.countP Pane.capture ≤ 1

/-- The active and the staged pane table are sound, and the next row slot lies from 0 to 320 (R121, R129). -/
def PanelSound (s : State) : Prop :=
  s.panel.active.Sound ∧ (∀ t, s.panel.staged = some t → t.Sound) ∧ s.panel.nextSlot ≤ Config.rows

/-! ## The combiner and LOCKDOWN -/

/-- The combiner output is what its inputs and settings form (R158). -/
def OutputFormed (s : State) : Prop := s.combiner.output = s.combinerFormed

/-- While the lockdown condition is true, the hub mode is LOCKDOWN (R99). -/
def LockdownFollows (s : State) : Prop := s.lockdownCondition = true → s.hub.mode = .lockdown

/-- In LOCKDOWN the application domain is shut out (R74, R92): its lanes' FIFOs hold hub replies alone, no other FIFO holds a
message that one of them sent, and their exchanges are FREE or AWAITED with the hub. -/
def AppShutOut (s : State) : Prop :=
  s.hub.mode = .lockdown →
    (∀ x : Fin 8, ∀ e ∈ (s.lane (.app x)).fifo, e.isReply = true)
      ∧ (∀ h ∈ s.heldMessages, h.message.sender.isApp = false)
      ∧ ∀ (i : Fin 48) (x : Exchange), (s.entry i).state.exchange? = some x → x.requester.isApp = true →
          (s.entry i).state.awaitsHub = true

/-! ## Inputs -/

/-- While a capture pane is active or the hub is in LOCKDOWN, no contact and no key belongs to an application lane (R145). -/
def InputsWithheld (s : State) : Prop :=
  s.inputToPay = true →
    (∀ (i : Fin 2) (c : Contact) (l : Lane), s.contact i = some c → c.owner = some l → l.isApp = false)
      ∧ ∀ (k : Fin 16) (l : Lane), (s.key k).owner = some l → l.isApp = false

/-! ## Fences -/

/-- A lane that is marked auto-fenced is fenced, and PAY's lane is neither (R49, R117, R118). -/
def FencesSound (s : State) : Prop :=
  (∀ l : Lane, (s.lane l).autoFenced = true → (s.lane l).fenced = true) ∧ (s.lane .pay).fenced = false

/-! ## Lines -/

/-- Nothing can drive a line for a domain that is not UP, or for APP in LOCKDOWN (R157): such a domain's lines rest, none of
its requests waits in the HUB FIFO, and no visit to its lanes is in progress. -/
def LinesSafe (s : State) : Prop :=
  (∀ (n : Fin 12) (d : Domain), (s.line n).entry.owner = some d →
      (s.isUp d = false ∨ (d = .app ∧ s.hub.mode = .lockdown)) → (s.line n).output = .resting)
    ∧ (∀ h ∈ s.hub.fifo, s.isUp h.message.sender.domain = true
        ∧ (s.hub.mode = .lockdown → h.message.sender.isApp = false))
    ∧ ∀ l, s.scanner.visit = some l → s.isUp l.domain = true

/-! ## Requests in flight -/

/-- A REQUEST in a board lane's FIFO belongs to an entry in POSTED, whose requester sent it and whose responder the lane is, and
no other REQUEST there bears its tag (R63, R77, R80). -/
def RequestsPosted (s : State) : Prop :=
  (∀ (l : Lane) (h : Held), .message h ∈ (s.lane l).fifo → h.message.kind = .request →
      ∃ (i : Fin 48) (x : Exchange), s.findTag h.message.tag = some i ∧ (s.entry i).state = .posted x
        ∧ x.requester = h.message.sender ∧ x.responder.recipient = .board l)
    ∧ ∀ tag : Nat, s.boardEntries.countP (Entry.isRequest fun m => decide (m.tag = tag)) ≤ 1

/-! ## Storage -/

/-- The open requests of every lane are within its limit (R42). -/
def RequestsBounded (s : State) : Prop := ∀ l : Lane, s.openRequests l ≤ l.requestLimit

/-- The buffers of domains' messages are distinct, and those charged to a lane are within its quota (R57). -/
def BuffersBounded (s : State) : Prop :=
  (s.heldMessages.map Held.buffer).Nodup ∧ ∀ l : Lane, s.charged l ≤ l.quota

/-- The reserved buffers of hub replies are distinct, and each outstanding request has one to claim (R94, R95). -/
def RepliesBounded (s : State) : Prop :=
  (s.heldReplies.map Reply.buffer).Nodup ∧ s.heldReplies.length + s.hub.outstanding.length ≤ 2

/-- At most 24 event cells are in use (section B of The Holding Queue and Delivery). -/
def CellsBounded (s : State) : Prop := s.cellsUsed ≤ Config.eventCells

/-- Every budgeted route's level lies between 0 and its burst (R46). -/
def LevelsBounded (s : State) : Prop :=
  ∀ r ∈ s.routes, ∀ b : Budget, r.budget = some b → b.level ≤ b.burst

/-- A conclusion reference stands in its requester's FIFO, once, and names an entry in CLOSING (R63, R77). -/
def ConclusionsSound (s : State) : Prop :=
  ∀ (l : Lane) (i : Fin 48),
    ((s.lane l).fifo.count (.conclusion i) ≤ 1)
      ∧ (.conclusion i ∈ (s.lane l).fifo →
          ∃ (x : Exchange) (c : Conclusion) (late : Bool), (s.entry i).state = .closing x c late ∧ x.requester = l)

/-- The counters and tallies stop at the ends of their ranges, and the cursors name slots of their boards (R18, R48, R51, R68). -/
def LaneBounded (l : Lane) (r : LaneState) : Prop :=
  r.takeCursor < l.slots ∧ r.putCursor < l.slots ∧ r.tally ≤ 255 ∧ r.limit ≤ 255
    ∧ r.admitted ≤ 65535 ∧ r.refused ≤ 65535 ∧ r.violations ≤ 65535 ∧ r.dropped ≤ 65535 ∧ r.inputLost ≤ 65535

/-- Every lane is bounded, every port's stray access count is at most 255 (R3), and no bit of a domain's flags
stands beyond the flags of TABLE G. -/
def CountsBounded (s : State) : Prop :=
  (∀ l : Lane, LaneBounded l (s.lane l)) ∧ ∀ d : Domain, (s.dom d).stray ≤ 255 ∧ (s.dom d).flags.toNat < 2 ^ 25

end Sys2Proof.Machine
end

