-- ==== Sys2Proof/Certificates/Slice0/Obligations.lean ====
section
/-! DEFINITION. The statements for the provers. Each names the rules that it formalises. Where a statement says `exec c s = .next t`
with `t` written out, it says at once that the command completes, what it does, and that the rest of the part stands. -/

open Sys2Proof Sys2Proof.Machine

/-! ## Steps and resets -/

/-- A step takes the command at the front of the queue and runs it with the queue's rest. -/
def Obligations.StepRunsFrontCommand : Prop :=
  ∀ (c : Instr) (rest : List Instr) (s : State),
    s.pending = c :: rest → step s = exec c { s with pending := rest }

/-- Every command completes; it leaves the waiting commands, and, the power-on reset apart, the timebase, as they stand (the
queue is the model's own: notes/assumptions/2, 4 and 27). -/
def Obligations.CommandsKeepQueueAndTime : Prop :=
  ∀ (c : Instr) (s : State), ∃ t : State, exec c s = .next t
    ∧ t.pending = s.pending ∧ (c ≠ .powerOnReset → t.now = s.now)

/-- What the part holds at the end of a power-on reset (R4, R15, R19, R36, R59, R76, R94, R106, R121, R129, R140, R165), and the
invariants of Sys2Proof/Safety.lean, which hold then. -/
def Obligations.StateAfterReset : Prop :=
  (State.reset.hub.mode = .boot ∧ State.reset.hub.routesLoaded = false ∧ State.reset.routes = []
      ∧ State.reset.hub.outstanding = [] ∧ State.reset.hub.fifo = [])
    ∧ (∀ d : Domain, (State.reset.dom d).status = .waiting ∧ (State.reset.dom d).initialising.isSome = true
        ∧ (State.reset.dom d).remembered = 0#8 ∧ (State.reset.dom d).stray = 0 ∧ (State.reset.dom d).flags = 0#32
        ∧ (State.reset.dom d).enables = 0x0083#16 ∧ (State.reset.dom d).urgent = 0#16 ∧ (State.reset.dom d).split = true)
    ∧ (∀ l : Lane, State.reset.lane l = {
        takeCursor := 0, scanWanted := false, bufferWait := false, putCursor := 0, deliveryNumber := 0#16, roomWait := false
        gapPending := false, fifo := [], fenced := false, autoFenced := false, tally := 0, limit := 0
        admitted := 0, refused := 0, violations := 0, dropped := 0, inputLost := 0 })
    ∧ (∀ i : Fin 48, State.reset.entry i = ⟨0#10, .free⟩)
    ∧ (State.reset.panel.active = ⟨0x0000#16, [⟨320, false, .appVideo, false, false, 0, 0⟩]⟩
        ∧ State.reset.panel.staged = none ∧ State.reset.panel.scrolls = []
        ∧ State.reset.panel.mode = .freeRun ∧ State.reset.panel.nextSlot = 0)
    ∧ (State.reset.touch.calibration = ⟨0, 4095, 0, 4095, false, false, false⟩ ∧ State.reset.touch.focus = 0
        ∧ ∀ i : Fin 2, State.reset.contact i = none)
    ∧ (∀ k : Fin 16, State.reset.key k = ⟨false, 0, none⟩)
    ∧ (∀ n : Fin 12, (State.reset.line n).entry = ⟨false, none, .both, false, false, 0#8, false⟩
        ∧ (State.reset.line n).output = .resting
        ∧ (State.reset.line n).mismatch = false ∧ (State.reset.line n).filter = .settling none)
    ∧ State.reset.combiner = ⟨0#14, 0#14, false, false, false, false⟩
    ∧ (ResetHolds State.reset ∧ DomainsSound State.reset ∧ LinesSafe State.reset ∧ WindowsCanonical State.reset
        ∧ WindowsBounded State.reset ∧ PanelSound State.reset ∧ OutputFormed State.reset ∧ LockdownFollows State.reset)
    ∧ (AppShutOut State.reset ∧ InputsWithheld State.reset ∧ FencesSound State.reset ∧ RequestsPosted State.reset
        ∧ RequestsBounded State.reset ∧ ConclusionsSound State.reset ∧ BuffersBounded State.reset
        ∧ RepliesBounded State.reset ∧ CellsBounded State.reset ∧ LevelsBounded State.reset ∧ CountsBounded State.reset)

/-- A power-on reset and the end of it leave the part as `State.reset` has it, with the report-ready line's level deciding the
touch link; a pin reset and the end of it do the same, and keep the windows and the timebase; and so does the end of any reset
that holds (R3, R4, R19, R106, R129, R138). What the commands that wait do then, and that the video timer starts from 0, is the
model's choice (notes/assumptions/5, 25 and 34). -/
def Obligations.ResetsOfThePart : Prop :=
  ∀ (s : State) (low : Bool),
    (∃ t, exec .powerOnReset s = .next t ∧ t.inReset = true ∧ ResetHolds t
        ∧ exec (.resetEnd low) t = .next { State.reset with
            touch := { State.reset.touch with link := if low then .reading else .idle }
            pending := s.pending })
      ∧ (∃ t, exec .pinReset s = .next t ∧ t.inReset = true ∧ ResetHolds t
          ∧ (∀ d, t.window d = s.window d) ∧ t.now = s.now ∧ t.pending = s.pending)
      ∧ (s.inReset = true → ResetHolds s →
          exec (.resetEnd low) s = .next { State.reset with
            now := s.now
            app := { State.reset.app with window := s.app.window, initialising := some s.now }
            pay := { State.reset.pay with window := s.pay.window, initialising := some s.now }
            rad := { State.reset.rad with window := s.rad.window, initialising := some s.now }
            panel := { State.reset.panel with videoZero := s.now, frameZero := s.now }
            touch := { State.reset.touch with link := if low then .reading else .idle }
            pending := s.pending })

/-! ## The ports -/

/-- An access that falls wholly within the window is carried out on its bytes and on nothing else, least significant byte first.
While board initialisation of the domain runs, an access that covers a slot's state field is carried out on its other bytes,
and its state byte alone is discarded on a write or read as FREE. What lies in a port's window: an access of 1, 2 or 4 bytes at
a multiple of its size, with its last byte below 0x10000 (APP), 0x23000 (PAY) or 0x4000 (RAD); and where the slots and their state
fields stand (R1, R2, R19, TABLE A). -/
def Obligations.WindowAccesses : Prop :=
  (∀ (d : Domain) (offset size : Nat), d.inWindow offset size = true ↔
      size ∈ [1, 2, 4] ∧ offset % size = 0
        ∧ offset + size ≤ match d with | .app => 0x10000 | .pay => 0x23000 | .rad => 0x4000)
    ∧ (∀ (d : Domain) (a : Nat), d.isStateByte a = true ↔
        ∃ (l : Lane) (i : Nat), l.domain = d ∧ i < l.slots ∧ (a = l.outSlot i ∨ a = l.inSlot i))
    ∧ (∀ i : Nat,
        (∀ x : Fin 8, (Lane.app x).slots = 8 ∧ (Lane.app x).outSlot i = 0x2000 * x.val + 0x200 * i
            ∧ (Lane.app x).inSlot i = 0x2000 * x.val + 0x1000 + 0x200 * i)
          ∧ ∀ l ∈ [Lane.pay, Lane.rad], l.slots = 16 ∧ l.outSlot i = 0x200 * i ∧ l.inSlot i = 0x2000 + 0x200 * i)
    ∧ (∀ (s : State) (d : Domain) (offset size : Nat),
     s.inReset = false → (s.dom d).status ≠ .held → d.inWindow offset size = true →
     ((s.dom d).initialising = none ∨ d.isStateByte offset = false) →
     (∀ value : Word, ∃ w : Memory,
         exec (.portAccess d offset size (.write value)) s = .next (s.updDom d fun r => { r with window := w })
           ∧ ∀ a, Memory.read w a =
               if offset ≤ a ∧ a < offset + size then BitVec.ofNat 8 (value.toNat / 256 ^ (a - offset))
               else Memory.read (s.window d) a)
       ∧ ∃ v : Word,
           exec (.portAccess d offset size .read) s = .next (s.updDom d fun r => { r with readData := v })
             ∧ ∀ k, k < 4 → v.extractLsb' (8 * k) 8 =
                 if k < size then Memory.read (s.window d) (offset + k) else 0#8)
    ∧ (∀ (s : State) (d : Domain) (offset size : Nat),
         s.inReset = false → (s.dom d).status ≠ .held → d.inWindow offset size = true →
         (s.dom d).initialising.isSome = true → d.isStateByte offset = true →
         (∀ value : Word, ∃ w : Memory,
             exec (.portAccess d offset size (.write value)) s = .next (s.updDom d fun r => { r with window := w })
               ∧ ∀ a, Memory.read w a =
                   if offset < a ∧ a < offset + size then BitVec.ofNat 8 (value.toNat / 256 ^ (a - offset))
                   else Memory.read (s.window d) a)
           ∧ ∃ v : Word,
               exec (.portAccess d offset size .read) s = .next (s.updDom d fun r => { r with readData := v })
                 ∧ v.extractLsb' 0 8 = 0x00#8
                 ∧ ∀ k, 1 ≤ k → k < 4 → v.extractLsb' (8 * k) 8 =
                     if k < size then Memory.read (s.window d) (offset + k) else 0#8)

/-- A stray access, one outside the window as WindowAccesses has it and of no register, adds 1 to the stray access count, which
stays at 255, a stray read returns zero and a stray write is discarded; while the part is in reset no access is carried out and
the count does not change (R1, R2, R3). -/
def Obligations.StrayAccesses : Prop :=
  ∀ (s : State) (d : Domain) (offset size : Nat) (value : Word),
    (s.inReset = false → (s.dom d).status ≠ .held → d.inWindow offset size = false →
      ¬(size = 4 ∧ (offset = 0x30000 ∨ offset = 0x30004 ∨ offset = 0x30008 ∨ offset = 0x3000C)) →
      exec (.portAccess d offset size .read) s =
          .next (s.updDom d fun r => { r with stray := min (r.stray + 1) 255, readData := 0#32 })
        ∧ exec (.portAccess d offset size (.write value)) s =
            .next (s.updDom d fun r => { r with stray := min (r.stray + 1) 255 }))
      ∧ (s.inReset = true →
          exec (.portAccess d offset size .read) s = .next (s.updDom d fun r => { r with readData := 0#32 })
            ∧ exec (.portAccess d offset size (.write value)) s = .next s)

/-- A read of ATTENTION returns the scan-wanted marks of the port's lanes, and its other bits read zero; the read has no side
effect. STATUS shows the flags, the initialising mark in bit 28 and UP in bit 29; ACKNOWLEDGE reads zero and clears the flags
that a write names; IDENTITY shows its code, its revision, the port code and the stray access count, and a write of any value
sets the count to 0; a write to STATUS is discarded. A port access at a register's offset is the command of that register. The bit
position of each flag, and its raising (R6, R7, R8, R9, R161, R162, TABLE G). -/
def Obligations.PortRegisters : Prop :=
  ((∀ x : Fin 8, (Flag.inbound (.app x)).bit = x.val ∧ (Flag.outcome (.app x)).bit = 8 + x.val)
      ∧ ([.inbound .pay, .inbound .rad, .outcome .pay, .outcome .rad, .line, .inputLost, .capture, .video, .fence, .mode, .panes,
          .domain, .alarm].map Flag.bit = [0, 0, 8, 8, 16, 17, 18, 19, 20, 21, 22, 23, 24])
      ∧ ∀ (s : State) (d : Domain) (f : Flag), (∀ b, f.mask.getLsbD b = decide (b = f.bit))
            ∧ s.raise d f = s.updDom d (fun r => { r with flags := r.flags ||| f.mask })
            ∧ s.raiseAll f = ((s.raise .app f).raise .pay f).raise .rad f)
    ∧ (∀ (s : State) (d : Domain), s.inReset = false → (s.dom d).status ≠ .held →
     ∃ v : Word, exec (.portAccess d 0x30000 4 .read) s = .next (s.updDom d fun r => { r with readData := v })
       ∧ (∀ l : Lane, l.domain = d → v.getLsbD l.place = (s.lane l).scanWanted)
       ∧ ∀ b : Nat, (∀ l : Lane, l.domain = d → l.place ≠ b) → v.getLsbD b = false)
    ∧ (∀ (s : State) (d : Domain) (value : Word),
         s.inReset = false → (s.dom d).status ≠ .held →
         ((∀ b, 25 ≤ b → (s.dom d).flags.getLsbD b = false) →
             ∃ v : Word, exec (.portAccess d 0x30008 4 .read) s = .next (s.updDom d fun r => { r with readData := v })
               ∧ (∀ b, b < 25 → v.getLsbD b = (s.dom d).flags.getLsbD b)
               ∧ v.getLsbD 28 = (s.dom d).initialising.isSome ∧ v.getLsbD 29 = decide ((s.dom d).status = .up)
               ∧ v.getLsbD 25 = false ∧ v.getLsbD 26 = false ∧ v.getLsbD 27 = false ∧ v.getLsbD 30 = false
               ∧ v.getLsbD 31 = false)
           ∧ exec (.portAccess d 0x30004 4 .read) s = .next (s.updDom d fun r => { r with readData := 0#32 })
           ∧ ((s.dom d).stray ≤ 255 →
               ∃ v : Word, exec (.portAccess d 0x3000C 4 .read) s = .next (s.updDom d fun r => { r with readData := v })
                 ∧ v.extractLsb' 24 8 = 0xF4#8 ∧ v.extractLsb' 16 8 = 0x01#8
                 ∧ (v.extractLsb' 8 8).toNat = d.code ∧ (v.extractLsb' 0 8).toNat = (s.dom d).stray)
           ∧ exec (.acknowledge d value) s =
               .next (s.updDom d fun r => { r with flags := r.flags &&& ~~~value })
           ∧ exec (.identityWrite d value) s = .next (s.updDom d fun r => { r with stray := 0 })
           ∧ exec (.statusWrite d value) s = .next s
           ∧ exec (.portAccess d 0x30004 4 (.write value)) s = exec (.acknowledge d value) s
           ∧ exec (.portAccess d 0x3000C 4 (.write value)) s = exec (.identityWrite d value) s
           ∧ exec (.portAccess d 0x30008 4 (.write value)) s = exec (.statusWrite d value) s
           ∧ (value ≠ 0x52535452#32 →
               exec (.portAccess d 0x30000 4 (.write value)) s = exec (.attentionLanes d value) s)
           ∧ exec (.portAccess d 0x30000 4 (.write 0x52535452#32)) s = exec (.selfAnnouncedRestart d) s)

/-- What an ATTENTION write that names lanes does, by the state of the domain: UP, WAITING with board initialisation complete,
WAITING with it in progress, and HELD. On the APP port bit x names lane Ax and an empty set has no effect; on the others any
value names the lane (R5, R15, R107, R108). -/
def Obligations.AttentionNamesLanes : Prop :=
  ∀ (s : State) (d : Domain) (value : Word) (set : Byte),
    s.inReset = false → value ≠ 0x52535452#32 →
    set = (match d with | .app => value.setWidth 8 | .pay => 1#8 | .rad => 1#8) →
    (set = 0#8 → exec (.attentionLanes d value) s = .next s)
      ∧ ((s.dom d).status = .up → exec (.attentionLanes d value) s =
          .next (s.updLanes fun l r =>
            if l.domain = d ∧ set.getLsbD l.place = true then { r with scanWanted := true, roomWait := false } else r))
      ∧ (set ≠ 0#8 → (s.dom d).status = .waiting → (s.dom d).initialising = none →
          ∃ t, exec (.attentionLanes d value) s = .next (t.updLanes fun l r =>
              if l.domain = d ∧ set.getLsbD l.place = true then { r with scanWanted := true, roomWait := false } else r)
            ∧ t = (if d = .pay then s.updDom d fun r => { r with status := .up }
                else (s.updDom d fun r => { r with status := .up }).raise .pay .domain))
      ∧ ((s.dom d).status = .waiting → (s.dom d).initialising.isSome = true →
          exec (.attentionLanes d value) s = .next (s.updDom d fun r => { r with remembered := r.remembered ||| set }))
      ∧ ((s.dom d).status = .held → exec (.attentionLanes d value) s = .next s)

/-- A self-announced restart of a domain that is UP, or WAITING with board initialisation complete, removes the domain and begins
board initialisation in the same event; in the other states the write is discarded. At the completion of board initialisation
every slot state of the domain is FREE and every other byte of its window stands, the cursors and delivery numbers of its lanes
are 0 and the initialising mark is clear; where the remembered lane set is not empty the domain is UP and each lane in the set
gets scan-wanted and a room notice (R4, R19, R20, R68, R107, R108, R115). -/
def Obligations.RestartAndInitialisation : Prop :=
  (∀ (s : State) (d : Domain), s.inReset = false →
     ((s.dom d).status = .up ∨ ((s.dom d).status = .waiting ∧ (s.dom d).initialising = none) →
         exec (.selfAnnouncedRestart d) s = .next (((s.removeDomain d).updDom d fun r =>
           { r with status := .waiting, initialising := some s.now, remembered := 0#8, stray := 0 }).updLanes fun l r =>
             if l.domain = d then { r with scanWanted := false, bufferWait := false, roomWait := false } else r))
       ∧ ((s.dom d).status = .held ∨ ((s.dom d).status = .waiting ∧ (s.dom d).initialising.isSome = true) →
           exec (.selfAnnouncedRestart d) s = .next s))
    ∧ (∀ (s : State) (d : Domain), (s.dom d).initialising.isSome = true →
         ∃ w : Memory, (∀ a, Memory.read w a = if d.isStateByte a then 0x00#8 else Memory.read (s.window d) a)
           ∧ ((s.dom d).remembered = 0#8 → exec (.boardInitialisationComplete d) s =
               .next ((s.updDom d fun r => { r with window := w, initialising := none }).updLanes fun l r =>
                 if l.domain = d then { r with takeCursor := 0, putCursor := 0, deliveryNumber := 0#16 } else r))
           ∧ ((s.dom d).remembered ≠ 0#8 → ∃ t : State,
               t = s.updDom d (fun r => { r with window := w, initialising := none, remembered := 0#8, status := .up })
                 ∧ exec (.boardInitialisationComplete d) s =
                   .next ((if d = .pay then t else t.raise .pay .domain).updLanes fun l r =>
                     if l.domain = d then
                       { r with
                         takeCursor := 0
                         putCursor := 0
                         deliveryNumber := 0#16
                         scanWanted := r.scanWanted || (s.dom d).remembered.getLsbD l.place
                         roomWait := r.roomWait && !(s.dom d).remembered.getLsbD l.place }
                     else r)))

/-! ## Takes and admission -/

/-- The scanner grants the take engine to the first eligible lane at or after the next-lane position: one that has scan-wanted,
does not have buffer-wait and whose domain is UP; where no lane is eligible, none is granted (R13). A take that finds no FILLED
slot ends the visit, and the lane loses scan-wanted; else it finds the first FILLED slot at or after the take cursor, circularly.
What it reads of the slot: the fields of TABLE F, and as much of the payload as the length gives, up to 496 bytes (R14, R15,
R21, R22). -/
def Obligations.TakesGrantedAndSearched : Prop :=
  ∀ (s : State) (l : Lane) (first : Bool),
    (s.inReset = false → s.scanner.visit = none → s.granted = none → exec .take s = .next s)
      ∧ (s.granted = some l ↔ ∃ k, k < 10 ∧ laneAt (s.scanner.nextLane.code + Fin.ofNat 10 k) = l
          ∧ ((s.lane l).scanWanted = true ∧ (s.lane l).bufferWait = false ∧ (s.dom l.domain).status = .up)
          ∧ ∀ j l', j < k → laneAt (s.scanner.nextLane.code + Fin.ofNat 10 j) = l' →
              ¬((s.lane l').scanWanted = true ∧ (s.lane l').bufferWait = false ∧ (s.dom l'.domain).status = .up))
      ∧ (TakeBegins s l first → (∀ i, i < l.slots → Memory.read (s.window l.domain) (l.outSlot i) ≠ 0x01#8) →
          exec .take s = .next { s.updLane l fun r => { r with scanWanted := false } with
            scanner := scannerAfter s l first false })
      ∧ (∀ slot : Nat, s.filledSlot l = some slot ↔ ∃ k, k < l.slots ∧ slot = ((s.lane l).takeCursor + k) % l.slots
          ∧ Memory.read (s.window l.domain) (l.outSlot slot) = 0x01#8
          ∧ ∀ j, j < k → Memory.read (s.window l.domain)
              (l.outSlot (((s.lane l).takeCursor + j) % l.slots)) ≠ 0x01#8)
      ∧ ∀ (i : Nat) (byte : Nat → Byte), (∀ k, byte k = Memory.read (s.window l.domain) (l.outSlot i + k)) →
          s.slotMessage l i =
            { kind := (byte 1).toNat
              domain := (byte 2).toNat
              service := (byte 3).toNat
              length := (byte 4).toNat + 256 * (byte 5).toNat
              tag := (byte 8).toNat + 256 * (byte 9).toNat
              reference := byte 13 ++ byte 12 ++ byte 11 ++ byte 10
              payload := (List.range (min ((byte 4).toNat + 256 * (byte 5).toNat) 496)).map fun k => byte (16 + k) }

/-- A take that admission refuses: the outcome and the tag field (the quoted tag for an ANSWER, else 0xFFFF) are written and the
slot is DONE, every other byte of the window standing; the REFUSED counter rises, OUTCOME is raised, a LATE finding makes its
change, a violation is charged, and the cursor moves past the slot, whether or not a buffer could be had. The codes of the
fifteen outcomes (R12, R14, R30, R31, R40, R45, R48). -/
def Obligations.RefusedTakes : Prop :=
  ([.accepted, .malformed, .badKind, .noRoute, .tooLong, .budget, .limit, .noExchange, .notReady, .targetDown, .fenced, .lockdown,
      .stale, .late, .forged].map TakeOutcome.code
    = [0x01, 0x10, 0x11, 0x12, 0x13, 0x14, 0x20, 0x21, 0x22, 0x23, 0x24, 0x25, 0x30, 0x31, 0x32])
  ∧ (∀ (s : State) (l : Lane) (slot : Nat) (o : TakeOutcome) (tag a : Nat), a = l.outSlot slot → ∃ w : Memory,
      s.writeOutcome l slot o tag = s.updDom l.domain (fun r => { r with window := w })
        ∧ ∀ b, Memory.read w b =
            if b = a then 0x02#8
            else if b = a + 6 then BitVec.ofNat 8 o.code
            else if b = a + 8 then BitVec.ofNat 8 tag
            else if b = a + 9 then BitVec.ofNat 8 (tag / 256)
            else Memory.read (s.window l.domain) b)
  ∧ ∀ (s : State) (l : Lane) (first : Bool) (slot : Nat) (o : TakeOutcome) (m : Slot),
    TakeBegins s l first → s.filledSlot l = some slot → m = s.slotMessage l slot → s.judge l m = .refuse o →
    ∃ (w : Memory) (a : Nat) (t u : State), a = l.outSlot slot
      ∧ exec .take s = .next { u.updLane l fun r => { r with takeCursor := (slot + 1) % l.slots } with
          scanner := scannerAfter s l first true }
      ∧ (∀ b, Memory.read w b =
          if b = a then 0x02#8
          else if b = a + 6 then BitVec.ofNat 8 o.code
          else if b = a + 8 then BitVec.ofNat 8 (if m.kind = 3 then m.tag else 0xFFFF)
          else if b = a + 9 then BitVec.ofNat 8 ((if m.kind = 3 then m.tag else 0xFFFF) / 256)
          else Memory.read (s.window l.domain) b)
      ∧ t = (((s.visiting l first).updDom l.domain fun r => { r with window := w }).updLane l fun r =>
          { r with refused := min (r.refused + 1) 65535 }).raise l.domain (.outcome l)
      ∧ (o ∈ [.fenced, .notReady, .lockdown, .targetDown, .limit, .noExchange, .stale] → u = t)
      ∧ (o = .late → u = t.lateSeen m.tag)
      ∧ (o ∈ [.malformed, .badKind, .noRoute, .tooLong, .budget, .forged] → u = t.violate l)
      ∧ o ≠ .accepted

/-- A violation raises the VIOLATIONS counter and the tally. Where it brings the tally to a limit of 1 to 255, the lane, unless it
is PAY's, is fenced and marked auto-fenced, or marked alone where it is fenced already, and the combiner is evaluated where
VIOL changes. Where the one event fences a lane and brings the entry into LOCKDOWN, the conclusion references of both join the
FIFO of a lane in ascending order of entry index. That the fence is made before the entry, so that exchanges with the lane
conclude TARGET_DOWN and its FIFO's losses are counted, is the model's choice (notes/assumptions/36; R48, R49, R86, R117). -/
def Obligations.ViolationsCharged : Prop :=
  (∀ (s : State) (l : Lane), ∃ t : State,
    t = s.updLane l (fun r => { r with violations := min (r.violations + 1) 65535, tally := min (r.tally + 1) 255 })
      ∧ (l = .pay ∨ (s.lane l).limit = 0 ∨ (s.lane l).tally + 1 ≠ (s.lane l).limit → s.violate l = t)
      ∧ (l ≠ .pay → (s.lane l).tally + 1 = (s.lane l).limit → (s.lane l).limit ≤ 255 →
          s.violate l = State.evaluateViol t
            ((if (s.lane l).fenced then t else t.fenceLane l).updLane l fun r => { r with autoFenced := true })))
    ∧ ∀ (s u : State) (l k : Lane), u = s.violate l → (s.lane l).fenced = false → ConclusionsSound s →
        s.hub.mode ≠ .lockdown → u.hub.mode = .lockdown → (∀ o ∈ s.hub.outstanding, o.job ≠ .setPanes) →
        k.isApp = false → k ≠ l →
        (u.lane k).fifo = ((s.lane k).fifo.filter fun e => !e.fromApp && !e.isRequest fun m => decide (m.sender = l))
          ++ (s.concludedFor (fun j => decide (j = l) || j.isApp) k).map .conclusion

/-- A take that admission would accept, of a lane at its holding quota or with none of the 30 buffers free, is held back: the slot
and everything that admission reads stand, the take cursor stands on the slot, the lane gets buffer-wait, keeps scan-wanted, and
the visit ends. The lane's next search begins at the held-back slot and finds it. The holding quotas: 3 buffers for an
application lane, 8 for PAY, 6 for RAD. The buffers charged to a lane are those of its messages in every FIFO, the HUB FIFO
included (R16, R17, R57, TABLE C). -/
def Obligations.HeldBackTakes : Prop :=
  ((∀ x, (Lane.app x).quota = 3) ∧ Lane.pay.quota = 8 ∧ Lane.rad.quota = 6)
  ∧ (∀ (s : State) (held : List Held),
      held = (allLanes.flatMap fun l => (s.lane l).fifo.filterMap fun e => match e with
          | .message h => some h
          | .reply _ | .cell _ _ | .conclusion _ => none) ++ s.hub.fifo →
      (∀ l, s.charged l = held.countP fun h => decide (h.message.sender = l))
        ∧ ∀ b, s.bufferFree b = true ↔ ∀ h ∈ held, h.buffer ≠ b)
  ∧ ∀ (s : State) (l : Lane) (first : Bool) (slot : Nat),
    TakeBegins s l first → s.filledSlot l = some slot → (∀ o, s.judge l (s.slotMessage l slot) ≠ .refuse o) →
    (l.quota ≤ s.charged l ∨ ∀ b : Fin 30, s.bufferFree b = false) →
    ∃ t : State, exec .take s = .next t
      ∧ t = { s.updLane l fun r => { r with takeCursor := slot, bufferWait := true } with
          scanner := scannerAfter s l first false }
      ∧ t.filledSlot l = some slot

/-- A NOTICE is accepted: its buffer is the lowest-numbered free one, the budget of its route is lowered by 1, it joins the tail
of the recipient lane's FIFO, ACCEPTED and the tag 0xFFFF are written, ADMITTED rises and the cursor moves on. For a fenced
recipient it joins no FIFO: DROPPED rises, and the released buffer clears every buffer-wait mark (R17, R22, R44, R57, R73). -/
def Obligations.AcceptedNotices : Prop :=
  ∀ (s : State) (l r : Lane) (first : Bool) (slot route : Nat) (a : Address) (b : Fin 30) (m : Slot),
    TakeBegins s l first → s.filledSlot l = some slot → m = s.slotMessage l slot →
    s.judge l m = .notice a route → a.recipient = .board r →
    s.charged l < l.quota → s.bufferFree b = true → (∀ c, c < b → s.bufferFree c = false) →
    ∃ t u : State,
      t = { s.visiting l first with routes := s.routes.modify route fun e =>
          { e with budget := e.budget.map fun g => { g with level := g.level - 1 } } }
        ∧ u = (if (s.lane r).fenced then
            State.clearBufferWait (t.updLane r fun q => { q with dropped := min (q.dropped + 1) 65535 })
          else t.updLane r fun q => { q with
            fifo := q.fifo ++ [.message ⟨b, ⟨.notice, l, a, 0xFFFF, m.reference, m.payload⟩, s.now⟩] })
        ∧ exec .take s = .next { (u.writeOutcome l slot .accepted 0xFFFF).updLane l fun q => { q with
            admitted := min (q.admitted + 1) 65535, takeCursor := (slot + 1) % l.slots } with
          scanner := scannerAfter s l first true }

/-- A REQUEST is accepted: the claimed entry, the lowest-numbered FREE one or else the LAPSED one with the earliest deadline,
records the exchange and is POSTED; the deadline and the answer limit are the route's, or 500 ms and 0 for the hub; the message
bears the tag generation × 64 + index and joins the recipient's FIFO, the HUB FIFO included. One for a fenced recipient is
concluded TARGET_DOWN in the event (R29, R44, R73, R78, R79, R91). The deadline time in microseconds is the model's choice
(notes/assumptions/10). -/
def Obligations.AcceptedRequests : Prop :=
  ∀ (s : State) (l : Lane) (first : Bool) (slot : Nat) (a : Address) (route : Option Nat) (b : Fin 30) (m : Slot)
    (i : Fin 48),
    TakeBegins s l first → s.filledSlot l = some slot → m = s.slotMessage l slot →
    s.judge l m = .request a route →
    s.charged l < l.quota → s.bufferFree b = true → (∀ c, c < b → s.bufferFree c = false) →
    (((s.entry i).state = .free ∧ ∀ j, j < i → (s.entry j).state ≠ .free)
      ∨ ((∀ j, (s.entry j).state ≠ .free) ∧ ∃ x, (s.entry i).state = .lapsed x
          ∧ ∀ j y, (s.entry j).state = .lapsed y → x.deadline < y.deadline ∨ (x.deadline = y.deadline ∧ i ≤ j))) →
    ∃ (t u : State) (x : Exchange) (generation : BitVec 10) (tag : Nat),
      generation = (if (s.entry i).state = .free then (s.entry i).generation else (s.entry i).generation + 1)
        ∧ tag = generation.toNat * 64 + i.val
        ∧ (x.requester = l ∧ x.reference = m.reference ∧ x.responder = a)
        ∧ (route = none → x.answerLimit = 0 ∧ x.deadline = s.now + 500 * 1000)
        ∧ (∀ k e, route = some k → s.routes[k]? = some e →
            x.answerLimit = e.answerLimit ∧ x.deadline = s.now + e.deadline * 1000)
        ∧ t = State.setEntry { s.visiting l first with routes := match route with
              | none => s.routes
              | some k => s.routes.modify k fun e =>
                  { e with budget := e.budget.map fun g => { g with level := g.level - 1 } } }
            i ⟨generation, .posted x⟩
        ∧ (a = .hub → u = { t with hub := { t.hub with
            fifo := t.hub.fifo ++ [⟨b, ⟨.request, l, a, tag, m.reference, m.payload⟩, s.now⟩] } })
        ∧ (∀ r, a.recipient = .board r → (s.lane r).fenced = false → u = t.updLane r fun q => { q with
            fifo := q.fifo ++ [.message ⟨b, ⟨.request, l, a, tag, m.reference, m.payload⟩, s.now⟩] })
        ∧ (∀ r, a.recipient = .board r → (s.lane r).fenced = true → u = State.conclude
            (State.clearBufferWait (t.updLane r fun q => { q with dropped := min (q.dropped + 1) 65535 })) i x .targetDown)
        ∧ exec .take s = .next { (u.writeOutcome l slot .accepted tag).updLane l fun q => { q with
            admitted := min (q.admitted + 1) 65535, takeCursor := (slot + 1) % l.slots } with
          scanner := scannerAfter s l first true }

/-- An ANSWER that matches is accepted: the entry goes FREE and its generation rises by 1, and the answer, with the requester's
reference and the address of the request answered, joins the requester's FIFO in a buffer charged to the responder; the slot
bears ACCEPTED and the quoted tag (R30, R44, R84). For a requester that is fenced it joins none (R73). -/
def Obligations.AcceptedAnswers : Prop :=
  ∀ (s : State) (l : Lane) (first : Bool) (slot : Nat) (b : Fin 30) (m : Slot) (i : Fin 48) (x : Exchange),
    TakeBegins s l first → s.filledSlot l = some slot → m = s.slotMessage l slot →
    s.judge l m = .answer i x →
    s.charged l < l.quota → s.bufferFree b = true → (∀ c, c < b → s.bufferFree c = false) →
    ∃ t u : State,
      t = (s.visiting l first).setEntry i ⟨(s.entry i).generation + 1, .free⟩
        ∧ u = (if (s.lane x.requester).fenced then
            State.clearBufferWait (t.updLane x.requester fun q => { q with dropped := min (q.dropped + 1) 65535 })
          else t.updLane x.requester fun q => { q with
            fifo := q.fifo ++ [.message ⟨b, ⟨.answer, l, x.responder, m.tag, x.reference, m.payload⟩, s.now⟩] })
        ∧ exec .take s = .next { (u.writeOutcome l slot .accepted m.tag).updLane l fun q => { q with
            admitted := min (q.admitted + 1) 65535, takeCursor := (slot + 1) % l.slots } with
          scanner := scannerAfter s l first true }

/-- Steps 1 to 3 of admission, in order: kind, length, domain and service; the fence; the hub mode. The kinds and the addresses
that the codes of an envelope name, and the recipient lane of an address (R21, R24, R37, R38, R39, TABLE F). -/
def Obligations.AdmissionGate : Prop :=
  (∀ (c : Nat) (k : Kind), Kind.ofCode c = some k ↔ c = match k with | .request => 1 | .notice => 2 | .answer => 3)
  ∧ (∀ (domain service : Nat) (a : Address), Address.decode domain service = some a ↔ match a with
      | .app x => domain = 1 ∧ service = x.val
      | .pay v => domain = 2 ∧ service = v.val
      | .rad v => domain = 3 ∧ service = v.val
      | .hub => domain = 4 ∧ service = 0)
  ∧ (∀ (a : Address) (l : Lane), a.recipient = .board l ↔ match a with
      | .app x => l = .app x
      | .pay _ => l = .pay
      | .rad _ => l = .rad
      | .hub => False)
  ∧ ∀ (s : State) (l : Lane) (m : Slot),
    (m.kind ∉ [1, 2, 3] → s.judge l m = .refuse .badKind)
      ∧ (m.kind ∈ [1, 2, 3] → 496 < m.length ∨ m.domain ∉ [1, 2, 3, 4] ∨ (m.domain = 1 ∧ 8 ≤ m.service)
          ∨ (m.domain = 4 ∧ 1 ≤ m.service) ∨ 16 ≤ m.service → s.judge l m = .refuse .malformed)
      ∧ ∀ (k : Kind) (a : Address), Kind.ofCode m.kind = some k → m.length ≤ 496 →
          Address.decode m.domain m.service = some a →
          ((s.lane l).fenced = true → s.judge l m = .refuse .fenced)
            ∧ ((s.lane l).fenced = false → s.hub.mode = .boot → ¬(k = .request ∧ a = .hub) →
                s.judge l m = .refuse .notReady)
            ∧ ((s.lane l).fenced = false → s.hub.mode = .lockdown →
                l.isApp = true ∨ (k ≠ .answer ∧ m.domain = 1) → s.judge l m = .refuse .lockdown)

/-- Steps 5 to 7 of admission for a REQUEST or NOTICE that has passed the gate, whose step 3 lets pass everything in OPEN, a
REQUEST to HUB in BOOT, and in LOCKDOWN what PAY and RAD send to another domain than APP: a NOTICE to HUB is refused BAD_KIND;
for APP, PAY and RAD the route (an exact entry before an A* entry, and A* for application lanes alone), the kind, the request
limit and the target, whose domain must be UP and, in APP alone, its lane not fenced; for a REQUEST the lane's open-request
limit and the room in the exchange table; and the budget (R35, R37, R39, R41, R42, R43). -/
def Obligations.RouteSteps : Prop :=
  ((∀ x, (Lane.app x).requestLimit = 4) ∧ Lane.pay.requestLimit = 16 ∧ Lane.rad.requestLimit = 12)
  ∧ (∀ e : Route, e.allows .request = e.requestAllowed ∧ e.allows .notice = e.noticeAllowed)
  ∧ (∀ (s : State) (l : Lane), s.openRequests l = (List.finRange 48).countP fun i => match (s.entry i).state with
      | .posted x | .awaited x | .closing x _ _ => decide (x.requester = l)
      | .free | .lapsed _ => false)
  ∧ ∀ (s : State) (l : Lane) (m : Slot) (k : Kind) (a : Address) (down : Prop),
    (down ↔ (∃ x, a = .app x ∧ ((s.dom .app).status ≠ .up ∨ (s.lane (.app x)).fenced = true))
      ∨ (∃ v, a = .pay v ∧ (s.dom .pay).status ≠ .up) ∨ ∃ v, a = .rad v ∧ (s.dom .rad).status ≠ .up) →
    Kind.ofCode m.kind = some k → k ≠ .answer → m.length ≤ 496 → Address.decode m.domain m.service = some a →
    (s.lane l).fenced = false → (s.hub.mode = .boot → k = .request ∧ a = .hub) →
    (s.hub.mode = .lockdown → l.isApp = false ∧ m.domain ≠ 1) →
    (a = .hub → k = .notice → s.judge l m = .refuse .badKind)
      ∧ (a = .hub → k = .request → l.requestLimit ≤ s.openRequests l → s.judge l m = .refuse .limit)
      ∧ (a = .hub → k = .request → s.openRequests l < l.requestLimit →
          ((∃ n, (s.entry n).state = .free ∨ ∃ x, (s.entry n).state = .lapsed x) → s.judge l m = .request .hub none)
            ∧ ((∀ n, (s.entry n).state ≠ .free ∧ ∀ x, (s.entry n).state ≠ .lapsed x) →
                s.judge l m = .refuse .noExchange))
      ∧ (a ≠ .hub → (∀ e ∈ s.routes, e.target = a → e.source ≠ .lane l ∧ ¬(l.isApp = true ∧ e.source = .anyApp)) →
          s.judge l m = .refuse .noRoute)
      ∧ ∀ (i : Nat) (e : Route), a ≠ .hub → s.routes[i]? = some e → e.target = a →
          (∀ j f, j < i → s.routes[j]? = some f → ¬(f.source = e.source ∧ f.target = a)) →
          (e.source = .lane l ∨ (e.source = .anyApp ∧ l.isApp = true
            ∧ ∀ f ∈ s.routes, ¬(f.source = .lane l ∧ f.target = a))) →
          (e.allows k = false → s.judge l m = .refuse .badKind)
            ∧ (e.allows k = true → e.requestLimit < m.length → s.judge l m = .refuse .tooLong)
            ∧ (e.allows k = true → m.length ≤ e.requestLimit → down →
                s.judge l m = .refuse .targetDown)
            ∧ (e.allows k = true → m.length ≤ e.requestLimit → ¬down →
                (k = .request → l.requestLimit ≤ s.openRequests l → s.judge l m = .refuse .limit)
                  ∧ (k = .request → s.openRequests l < l.requestLimit →
                      (∀ n, (s.entry n).state ≠ .free ∧ ∀ x, (s.entry n).state ≠ .lapsed x) →
                      s.judge l m = .refuse .noExchange)
                  ∧ ((k = .request → s.openRequests l < l.requestLimit
                        ∧ ∃ n, (s.entry n).state = .free ∨ ∃ x, (s.entry n).state = .lapsed x) →
                      (∀ g, e.budget = some g → g.level = 0 → s.judge l m = .refuse .budget)
                        ∧ ((∀ g, e.budget = some g → 1 ≤ g.level) →
                            s.judge l m = if k = .request then .request a (some i) else .notice a i)))

/-- Admission judges an ANSWER that passes its envelope, fence and mode tests by the answer matching alone; and answer matching
itself, with the length test of a match against the exchange's answer limit (R37, R39, R40, R83). -/
def Obligations.AnswerMatching : Prop :=
  ∀ (s : State) (l : Lane) (m : Slot),
    (∀ a, m.kind = 3 → m.length ≤ 496 → Address.decode m.domain m.service = some a → (s.lane l).fenced = false →
        s.hub.mode ≠ .boot → (s.hub.mode = .lockdown → l.isApp = false) → s.judge l m = s.judgeAnswer l m)
      ∧ ((∀ i : Fin 48, i.val = m.tag % 64 → (s.entry i).generation.toNat ≠ m.tag / 64) →
        s.judgeAnswer l m = .refuse .stale)
      ∧ ∀ i : Fin 48, i.val = m.tag % 64 → (s.entry i).generation.toNat = m.tag / 64 →
          ((s.entry i).state = .free → s.judgeAnswer l m = .refuse .stale)
            ∧ (∀ x, (s.entry i).state = .posted x → s.judgeAnswer l m = .refuse .stale)
            ∧ (∀ x, (s.entry i).state = .awaited x → x.responder.recipient = .board l →
                s.judgeAnswer l m = if m.length ≤ x.answerLimit then .answer i x else .refuse .tooLong)
            ∧ (∀ x c late, (s.entry i).state = .closing x c late → x.responder.recipient = .board l →
                s.judgeAnswer l m = .refuse (if c = .expired then .late else .stale)
                  ∧ (c = .expired → s.lateSeen m.tag = s.setExchange i (.closing x c true)))
            ∧ (∀ x, (s.entry i).state = .lapsed x → x.responder.recipient = .board l →
                s.judgeAnswer l m = .refuse .late
                  ∧ s.lateSeen m.tag = s.setEntry i ⟨(s.entry i).generation + 1, .free⟩)
            ∧ (∀ x, x.responder.recipient ≠ .board l →
                (s.entry i).state = .awaited x ∨ (∃ c late, (s.entry i).state = .closing x c late)
                  ∨ (s.entry i).state = .lapsed x → s.judgeAnswer l m = .refuse .forged)

/-! ## Delivery, timed events and input events -/

/-- A delivery of the head of a lane's FIFO into the first FREE slot at or after the put cursor: the 512 bytes of the slot hold
the envelope, the payload and zeros, every other byte stands, the lane's delivery number is stamped and rises, the cursor passes
the slot, the entry leaves the FIFO, a released buffer clears every buffer-wait mark, INBOUND is raised, the gap mark given
clears, and the exchange table is told. With no FREE slot the lane gets room-wait (R12, R17, R62, R66, R67, R80, R86). -/
def Obligations.DeliveryOfTheHead : Prop :=
  ∀ (s : State) (l : Lane) (e : Entry) (rest : List Entry),
    s.inReset = false → (s.dom l.domain).status = .up → (s.lane l).roomWait = false → (s.lane l).fifo = e :: rest →
    ((∀ i, i < l.slots → Memory.read (s.window l.domain) (l.inSlot i) ≠ 0x00#8) →
        exec (.delivery l) s = .next (s.updLane l fun r => { r with roomWait := true }))
      ∧ ∀ k slot, k < l.slots → slot = ((s.lane l).putCursor + k) % l.slots →
          Memory.read (s.window l.domain) (l.inSlot slot) = 0x00#8 →
          (∀ j, j < k → Memory.read (s.window l.domain) (l.inSlot (((s.lane l).putCursor + j) % l.slots)) ≠ 0x00#8) →
          (s.envelopeOf l e).payload.length ≤ 496 →
          ∃ (w : Memory) (t u : State), exec (.delivery l) s = .next u
            ∧ Memory.readBytes w (l.inSlot slot) 512 = (s.envelopeOf l e).bytes (s.lane l).deliveryNumber
            ∧ (∀ a, a < l.inSlot slot ∨ l.inSlot slot + 512 ≤ a → Memory.read w a = Memory.read (s.window l.domain) a)
            ∧ t = State.raise
                ((fun q => if e.holdsBuffer then State.clearBufferWait q else q)
                  ((s.updDom l.domain fun r => { r with window := w }).updLane l fun r => { r with
                    deliveryNumber := r.deliveryNumber + 1
                    putCursor := (slot + 1) % l.slots
                    gapPending := r.gapPending && !(match e with
                      | .cell event _ => event.hasGap
                      | .message _ | .reply _ | .conclusion _ => false)
                    fifo := rest }))
                l.domain (.inbound l)
            ∧ (∀ h i x, e = .message h → h.message.kind = .request → s.findTag h.message.tag = some i →
                (s.entry i).state = .posted x → u = t.setExchange i (.awaited x))
            ∧ (∀ i x c late, e = .conclusion i → (s.entry i).state = .closing x c late →
                u = if c = .expired ∧ late = false then t.setExchange i (.lapsed x)
                  else t.setEntry i ⟨(s.entry i).generation + 1, .free⟩)
            ∧ ((∀ h, e = .message h → h.message.kind ≠ .request) → (∀ i, e ≠ .conclusion i) → u = t)

/-- What the 512 bytes of an inbound slot hold: the header of TABLE F, the payload, and zero beyond the length; and what the
envelope of each kind of entry says: a message's sender by its lane code, a conclusion and a hub reply as ANSWERs, an input
event with its gap mark (R22, R26, R27, R28, R62, TABLE F, TABLE L). -/
def Obligations.InboundEnvelopes : Prop :=
  (∀ (v : Envelope) (n : Half), v.bytes n =
      [0x01#8, BitVec.ofNat 8 v.kind, BitVec.ofNat 8 v.domain, BitVec.ofNat 8 v.service,
        BitVec.ofNat 8 v.payload.length, BitVec.ofNat 8 (v.payload.length / 256),
        BitVec.ofNat 8 v.outcome, BitVec.ofNat 8 v.mark, BitVec.ofNat 8 v.tag, BitVec.ofNat 8 (v.tag / 256),
        v.reference.extractLsb' 0 8, v.reference.extractLsb' 8 8, v.reference.extractLsb' 16 8,
        v.reference.extractLsb' 24 8, n.extractLsb' 0 8, n.extractLsb' 8 8]
      ++ v.payload ++ List.replicate (496 - v.payload.length) 0#8)
    ∧ ∀ (s : State) (l : Lane),
        (∀ h : Held, s.envelopeOf l (.message h) =
            ⟨match h.message.kind with | .request => 1 | .notice => 2 | .answer => 3,
              match h.message.sender with | .app _ => 1 | .pay => 2 | .rad => 3,
              match h.message.address with | .app x => x.val | .pay v => v.val | .rad v => v.val | .hub => 0,
              if h.message.kind = .answer then 1 else 0,
              match h.message.sender with | .app x => x.val | .pay => 8 | .rad => 9,
              h.message.tag, h.message.reference, h.message.payload⟩)
          ∧ (∀ r : Reply, s.envelopeOf l (.reply r) = ⟨3, 4, 0, 1, 10, r.tag, r.reference, r.payload⟩)
          ∧ (∀ (i : Fin 48) (x : Exchange) (c : Conclusion) (late : Bool), (s.entry i).state = .closing x c late →
              s.envelopeOf l (.conclusion i) =
                ⟨3, x.responder.domainCode, x.responder.service,
                  match c with | .expired => 2 | .undelivered => 3 | .targetDown => 4 | .lockdown => 5,
                  match x.responder with | .app y => y.val | .pay _ => 8 | .rad _ => 9 | .hub => 10,
                  (s.entry i).generation.toNat * 64 + i.val, x.reference, []⟩)
          ∧ (∀ (id : Fin 2) (phase : TouchPhase) (p : Placement) (j : Nat),
              s.envelopeOf l (.cell (.touch id phase p) j) =
                ⟨0x11, 4, 0, 0, if (s.lane l).gapPending then 1 else 0, 0xFFFF, 0#32,
                  [BitVec.ofNat 8 id.val,
                    match phase with | .down => 1#8 | .move => 2#8 | .up => 3#8 | .cancel => 4#8,
                    BitVec.ofNat 8 p.x, BitVec.ofNat 8 (p.x / 256), BitVec.ofNat 8 p.y, BitVec.ofNat 8 (p.y / 256),
                    BitVec.ofNat 8 p.pane,
                    BitVec.ofNat 8 ((if (s.lane l).gapPending then 1 else 0) + if p.stored then 2 else 0),
                    BitVec.ofNat 8 p.row, BitVec.ofNat 8 (p.row / 256),
                    BitVec.ofNat 8 p.storeLine, BitVec.ofNat 8 (p.storeLine / 256)]⟩)
          ∧ (∀ (k : Fin 16) (action : KeyAction) (j : Nat), s.envelopeOf l (.cell (.key k action) j) =
              ⟨0x12, 4, 0, 0, if (s.lane l).gapPending then 1 else 0, 0xFFFF, 0#32,
                [BitVec.ofNat 8 k.val, match action with | .down => 1#8 | .up => 2#8 | .cancel => 3#8,
                  if (s.lane l).gapPending then 1#8 else 0#8, 0#8]⟩)
          ∧ ∀ (tag : Byte) (n : Fin 12) (level mismatch : Bool) (j : Nat),
              s.envelopeOf l (.cell (.line tag n level mismatch) j) =
                ⟨0x13, 4, 0, 0, 0, 0xFFFF, 0#32,
                  [tag, BitVec.ofNat 8 n.val, if level then 1#8 else 0#8, if mismatch then 1#8 else 0#8]⟩

/-- A refill raises a budget's level by 1 up to the burst and starts its timer again; a NOTICE, a real ANSWER or a hub reply
that has stood 1,000 ms is dropped wherever it stands, and counted DROPPED; an event cell that has stood 250 ms is dropped and
lost (R17, R46, R62, R71, R72). That a time is reached at or after it, in microseconds, is the model's choice
(notes/assumptions/10). -/
def Obligations.RefillsAndHoldLimits : Prop :=
  ∀ s : State,
    (∀ (k : Nat) (r : Route) (b : Budget), s.routes[k]? = some r → r.budget = some b →
        b.timerZero + b.interval * 1000 ≤ s.now →
        exec (.refill k) s = .next { s with
          routes := s.routes.set k
            ({ r with budget := some { b with level := min (b.level + 1) b.burst, timerZero := s.now } }) })
      ∧ ∀ (l : Lane) (place : Nat),
          (∀ h : Held, (s.lane l).fifo[place]? = some (.message h) → h.message.kind ≠ .request →
              h.joined + 1000 * 1000 ≤ s.now →
              exec (.holdLimitDrop l place) s = .next (State.clearBufferWait (s.updLane l fun r =>
                { r with fifo := r.fifo.eraseIdx place, dropped := min (r.dropped + 1) 65535 })))
            ∧ (∀ h : Reply, (s.lane l).fifo[place]? = some (.reply h) → h.joined + 1000 * 1000 ≤ s.now →
                exec (.holdLimitDrop l place) s = .next (State.clearBufferWait (s.updLane l fun r =>
                  { r with fifo := r.fifo.eraseIdx place, dropped := min (r.dropped + 1) 65535 })))
            ∧ ∀ (e : InputEvent) (joined : Nat), (s.lane l).fifo[place]? = some (.cell e joined) →
                joined + 250 * 1000 ≤ s.now →
                exec (.eventCellDrop l place) s = .next ((s.updLane l fun r =>
                  { r with
                    fifo := r.fifo.eraseIdx place
                    inputLost := min (r.inputLost + 1) 65535
                    gapPending := r.gapPending || e.hasGap }).raise l.domain .inputLost)

/-- An entry that is POSTED or AWAITED at its deadline time goes to CLOSING, and a conclusion reference joins the requester's
FIFO: UNDELIVERED for a REQUEST still in a board lane's FIFO, which is removed, the release of its buffer clearing every
buffer-wait mark, and EXPIRED otherwise. For a requester that is fenced, or an application lane in LOCKDOWN, the reference is
discarded and the entry goes FREE, as at every conclusion. An entry in another state, or before its deadline time, does not
expire (R17, R58, R64, R73, R74, R81, R86). The DROPPED count of a reference for a fenced requester is the model's reading
(notes/assumptions/19), and that a time is reached at or after it, in microseconds, its choice (notes/assumptions/10). -/
def Obligations.ExpiryConcludes : Prop :=
  (∀ (s : State) (i : Fin 48), (∀ x : Exchange, (s.entry i).state = .posted x ∨ (s.entry i).state = .awaited x →
      s.now < x.deadline) → exec (.expiry i) s = .next s)
  ∧ (∀ (q : State) (i : Fin 48) (x : Exchange) (c : Conclusion),
      (∀ e, q.setExchange i e = q.setEntry i ⟨(q.entry i).generation, e⟩)
        ∧ ((q.lane x.requester).fenced = true → q.conclude i x c =
            (q.setEntry i ⟨(q.entry i).generation + 1, .free⟩).updLane x.requester fun r =>
              { r with dropped := min (r.dropped + 1) 65535 })
        ∧ ((q.lane x.requester).fenced = false → x.requester.isApp = true → q.hub.mode = .lockdown →
            q.conclude i x c = q.setEntry i ⟨(q.entry i).generation + 1, .free⟩)
        ∧ ((q.lane x.requester).fenced = false → ¬(x.requester.isApp = true ∧ q.hub.mode = .lockdown) →
            q.conclude i x c = (q.setExchange i (.closing x c false)).updLane x.requester fun r =>
              { r with fifo := r.fifo ++ [.conclusion i] }))
  ∧ ∀ (s : State) (i : Fin 48) (x : Exchange) (released : Bool), x.deadline ≤ s.now →
    (s.entry i).state = .posted x ∨ (s.entry i).state = .awaited x →
    (released = true ↔ ∃ l, ∃ e ∈ (s.lane l).fifo, e.isRequest (fun m => decide (m.tag = s.tagOf i)) = true) →
    ∃ (q : State) (c : Conclusion),
      ((s.entry i).state = .posted x ∧ x.responder ≠ .hub → c = .undelivered
          ∧ q = s.updLanes fun _ r => { r with
              fifo := r.fifo.filter fun e => !e.isRequest fun m => decide (m.tag = s.tagOf i)
              bufferWait := r.bufferWait && !released })
        ∧ ((s.entry i).state = .awaited x ∨ x.responder = .hub → c = .expired ∧ q = s)
        ∧ ((s.lane x.requester).fenced = true → exec (.expiry i) s =
            .next ((q.setEntry i ⟨(s.entry i).generation + 1, .free⟩).updLane x.requester fun r =>
              { r with dropped := min (r.dropped + 1) 65535 }))
        ∧ ((s.lane x.requester).fenced = false → x.requester.isApp = true → s.hub.mode = .lockdown →
            exec (.expiry i) s = .next (q.setEntry i ⟨(s.entry i).generation + 1, .free⟩))
        ∧ ((s.lane x.requester).fenced = false → ¬(x.requester.isApp = true ∧ s.hub.mode = .lockdown) →
            exec (.expiry i) s = .next ((q.setExchange i (.closing x c false)).updLane x.requester fun r =>
              { r with fifo := r.fifo ++ [.conclusion i] }))

/-- What becomes of an input event that a producer has for a lane: discarded and counted for a fenced lane, discarded for an
application lane in LOCKDOWN, coalesced into the last TOUCH cell of its contact where that is a MOVE as it is, placed in a free
cell at the tail, or lost for want of one (R60, R61, R62, R65, R73, R74). -/
def Obligations.InputEventsPlaced : Prop :=
  ∀ (s : State) (l : Lane) (e : InputEvent),
    (s.cellsUsed = (allLanes.flatMap fun k => (s.lane k).fifo).countP (fun f => match f with
        | .cell _ _ => true
        | .message _ | .reply _ | .conclusion _ => false))
    ∧ (e.hasGap = match e with | .touch _ _ _ | .key _ _ => true | .line _ _ _ _ => false)
    ∧ ((s.lane l).fenced = true → s.placeEvent l e = s.updLane l fun r => { r with dropped := min (r.dropped + 1) 65535 })
      ∧ ((s.lane l).fenced = false → l.isApp = true → s.hub.mode = .lockdown → s.placeEvent l e = s)
      ∧ ((s.lane l).fenced = false → ¬(l.isApp = true ∧ s.hub.mode = .lockdown) →
          (∀ id p old j before behind, e = .touch id .move p →
              (s.lane l).fifo = before ++ .cell (.touch id .move old) j :: behind →
              (∀ phase place k, .cell (.touch id phase place) k ∉ behind) →
              s.placeEvent l e = s.updLane l fun r =>
                { r with fifo := before ++ .cell (.touch id .move p) j :: behind })
            ∧ ((∀ id p old j before behind, e = .touch id .move p →
                  (s.lane l).fifo = before ++ .cell (.touch id .move old) j :: behind →
                  ∃ phase place k, .cell (.touch id phase place) k ∈ behind) →
                (s.cellsUsed < 24 → s.placeEvent l e = s.updLane l fun r => { r with fifo := r.fifo ++ [.cell e s.now] })
                  ∧ (24 ≤ s.cellsUsed → s.placeEvent l e = (s.updLane l fun r =>
                      { r with
                        inputLost := min (r.inputLost + 1) 65535
                        gapPending := r.gapPending || e.hasGap }).raise l.domain .inputLost)))

/-! ## Hub requests -/

/-- What the take of a hub request and its completion do beside the request's own effect: the request leaves the HUB FIFO, its
buffer's release clears every buffer-wait mark, and the completion is judged as an answer from HUB: accepted, with the reply in
the lower-numbered free reserved buffer at the tail of the requester's FIFO; late; or discarded. A job that an event completes
leaves the list of outstanding requests, and its completion is judged with the result, the detail and the request code of the
job. A request that its take does not complete stands on that list (R58, R80, R85, R94, R95, R97, TABLE M). -/
def Obligations.HubReplies : Prop :=
  (∀ (s : State) (m : Message), ∃ p : State,
      p = State.clearBufferWait { s with hub := { s.hub with fifo := s.hub.fifo.tail } }
        ∧ p = { s.updLanes fun _ r => { r with bufferWait := false } with hub := { s.hub with fifo := s.hub.fifo.tail } }
        ∧ (∀ (i : Fin 48) (x : Exchange), i.val = m.tag % 64 → (s.entry i).generation.toNat = m.tag / 64 →
            (s.entry i).state = .posted x → x.responder = .hub → s.hubTake m = p.setExchange i (.awaited x))
        ∧ ((∀ (i : Fin 48) (x : Exchange), i.val = m.tag % 64 → (s.entry i).generation.toNat = m.tag / 64 →
            (s.entry i).state = .posted x → x.responder ≠ .hub) → s.hubTake m = p)
        ∧ (∀ reply, s.answered m reply = (s.hubTake m).complete m.tag reply)
        ∧ ∀ job, s.awaits m job = (s.hubTake m).addOutstanding job m ∧ s.addOutstanding job m =
            { s with hub := { s.hub with outstanding := s.hub.outstanding ++ [⟨job, m.sender, m.tag⟩] } })
    ∧ (∀ (q : State) (tag : Nat) (reply : List Byte),
        ((∀ i : Fin 48, i.val = tag % 64 → (q.entry i).generation.toNat ≠ tag / 64) → q.complete tag reply = q)
          ∧ ∀ i : Fin 48, i.val = tag % 64 → (q.entry i).generation.toNat = tag / 64 →
              (∀ x, (q.entry i).state = .awaited x → q.complete tag reply =
                  (q.setEntry i ⟨(q.entry i).generation + 1, .free⟩).updLane x.requester fun r => { r with
                    fifo := r.fifo ++ [.reply ⟨if q.replyFree 0 then 0 else 1, tag, x.reference, reply, q.now⟩] })
                ∧ (∀ x late, (q.entry i).state = .closing x .expired late →
                    q.complete tag reply = q.setExchange i (.closing x .expired true))
                ∧ (∀ x, (q.entry i).state = .lapsed x →
                    q.complete tag reply = q.setEntry i ⟨(q.entry i).generation + 1, .free⟩)
                ∧ ((q.entry i).state = .free ∨ (∃ x, (q.entry i).state = .posted x)
                    ∨ (∃ x c late, (q.entry i).state = .closing x c late ∧ c ≠ .expired) → q.complete tag reply = q))
    ∧ (∀ (s : State) (b : Fin 2), s.replyFree b = true ↔
        ∀ (l : Lane) (r : Reply), .reply r ∈ (s.lane l).fifo → r.buffer ≠ b)
    ∧ (∀ (s : State) (m : Message) (reply : List Byte), ∃ p : State,
     p = State.clearBufferWait { s with hub := { s.hub with fifo := s.hub.fifo.tail } }
       ∧ ((∀ i : Fin 48, i.val = m.tag % 64 → (s.entry i).generation.toNat ≠ m.tag / 64) → s.answered m reply = p)
       ∧ ∀ i : Fin 48, i.val = m.tag % 64 → (s.entry i).generation.toNat = m.tag / 64 →
           (∀ x, ((s.entry i).state = .posted x ∧ x.responder = .hub) ∨ (s.entry i).state = .awaited x →
               s.answered m reply = (p.setEntry i ⟨(s.entry i).generation + 1, .free⟩).updLane x.requester fun r =>
                 { r with fifo := r.fifo
                     ++ [.reply ⟨if s.replyFree 0 then 0 else 1, m.tag, x.reference, reply, s.now⟩] })
             ∧ (∀ x late, (s.entry i).state = .closing x .expired late →
                 s.answered m reply = p.setExchange i (.closing x .expired true))
             ∧ (∀ x, (s.entry i).state = .lapsed x →
                 s.answered m reply = p.setEntry i ⟨(s.entry i).generation + 1, .free⟩)
             ∧ (∀ x c late, (s.entry i).state = .closing x c late → c ≠ .expired → s.answered m reply = p)
             ∧ ((s.entry i).state = .free → s.answered m reply = p)
             ∧ (∀ x, (s.entry i).state = .posted x → x.responder ≠ .hub → s.answered m reply = p))
    ∧ (∀ (s : State) (job : Job) (o : Outstanding) (before behind : List Outstanding) (r : HubResult) (detail : Nat),
         s.hub.outstanding = before ++ o :: behind → o.job = job → (∀ p ∈ before ++ behind, p.job ≠ job) →
         s.completeJobs job r detail =
           State.complete { s with hub := { s.hub with outstanding := before ++ behind } } o.tag
             [match r with
                 | .done => 1#8 | .authority => 2#8 | .mode => 3#8 | .parameter => 4#8 | .busy => 5#8 | .superseded => 6#8
                 | .cancelled => 7#8,
               match job with | .loadRoutes => 0x01#8 | .setPanes => 0x02#8 | .scrollPane => 0x03#8 | .pulse _ => 0x0A#8,
               BitVec.ofNat 8 detail, BitVec.ofNat 8 (detail / 256)])

/-- Checks 1 to 4 of the hub service, in order, for every request of the catalogue: an unknown code is answered PARAMETER with
detail 0xFFFF; a lane that may not issue the request is answered AUTHORITY and charged a violation; a request that the mode
does not allow is answered MODE; and one shorter than its parameters PARAMETER with detail 0xFFFF (R33, R48, R96, TABLE A of The
Hub Service and Hub Modes, TABLE N). Which row takes a request with a bad action is the model's choice (notes/assumptions/23). -/
def Obligations.HubChecks : Prop :=
  (∀ (s : State) (m : Message), HubTakes s m →
      (m.payload = [] → exec .unknownRequestCode s = .next (s.answered m [4#8, 0#8, 0xFF#8, 0xFF#8]))
        ∧ ∀ (b : Byte) (rest : List Byte), m.payload = b :: rest → b.toNat = 0 ∨ 0x11 < b.toNat →
            exec .unknownRequestCode s = .next (s.answered m [4#8, b, 0xFF#8, 0xFF#8]))
    ∧ ∀ row ∈ hubCatalogue, ∀ (s : State) (m : Message) (rest : List Byte), HubTakes s m →
        m.payload = BitVec.ofNat 8 row.code :: rest → row.picks m.payload = true →
        (m.sender ∉ row.issuers → exec row.command s =
            .next (((s.hubTake m).violate m.sender).complete m.tag [2#8, BitVec.ofNat 8 row.code, 0#8, 0#8]))
          ∧ (m.sender ∈ row.issuers → s.hub.mode ∉ row.modes → exec row.command s =
              .next (s.answered m [3#8, BitVec.ofNat 8 row.code, 0#8, 0#8]))
          ∧ (m.sender ∈ row.issuers → s.hub.mode ∈ row.modes → m.payload.length < row.length m.payload →
              exec row.command s = .next (s.answered m [4#8, BitVec.ofNat 8 row.code, 0xFF#8, 0xFF#8]))

/-- LOAD ROUTES: the image is read in the event of the take and the service is busy. At the completion a judged image becomes the
table, routes-loaded is set, BOOT gives way to OPEN with the MODE notice, and the request completes with DONE; a faulty image
changes nothing and completes with PARAMETER and the detail. The judgement of an image: the count, then entry by entry its
fields and its key; and the entry that a record makes, with its deadline clamped, its budget's level at the burst and its timer
at 0 (R34, R52, R53, R54, R55, R99, TABLE I). -/
def Obligations.LoadRoutes : Prop :=
  ((∀ (s : State) (m : Message) (rest : List Byte) (count : Nat) (t : State),
       HubTakes s m → m.payload = 0x01#8 :: rest → 2 ≤ m.payload.length → m.sender = .pay →
       count = natOf (Memory.readBytes s.pay.window 0x4000 4) → t = s.awaits m .loadRoutes →
       exec .loadRoutes s = .next { t with hub := { t.hub with
         loading := some (⟨⟨count, if count ≤ 64 then
           (List.range count).map fun k => Memory.readBytes s.pay.window (0x4020 + 32 * k) 32 else []⟩, s.now⟩) } })
     ∧ ∀ (s : State) (job : Loading), s.hub.loading = some job →
         (∀ table, job.image.judge s.now = .ok table → ∃ t : State,
             t = { s with
               routes := table
               hub := { s.hub with
                 loading := none
                 routesLoaded := true
                 mode := if s.hub.mode = .boot then .openMode else s.hub.mode } }
               ∧ exec .loadRoutesCompletion s =
                 .next ((if s.hub.mode = .boot then t.raiseAll .mode else t).completeJobs .loadRoutes .done 0))
           ∧ ∀ detail, job.image.judge s.now = .error detail → exec .loadRoutesCompletion s =
               .next (State.completeJobs { s with hub := { s.hub with loading := none } } .loadRoutes .parameter detail))
    ∧ ((∀ (image : RouteImage) (now : Nat),
           (64 < image.count → image.judge now = .error 0xFFFF)
             ∧ (image.count ≤ 64 → ∀ table, image.judge now = .ok table ↔
                 image.entries.map (fun e => imageRoute e now) = table.map some
                   ∧ table.Pairwise fun r r' => ¬(r.source = r'.source ∧ r.target = r'.target))
             ∧ (image.count ≤ 64 → ∀ (before behind : List (List Byte)) (e : List Byte) (table : List Route),
                 image.entries = before ++ e :: behind → before.map (fun e => imageRoute e now) = table.map some →
                 table.Pairwise (fun r r' => ¬(r.source = r'.source ∧ r.target = r'.target)) →
                 (imageRoute e now = none ∨ ∃ r, imageRoute e now = some r
                   ∧ ∃ r' ∈ table, r'.source = r.source ∧ r'.target = r.target) →
                 image.judge now = .error before.length))
         ∧ ∀ (e : List Byte) (now : Nat) (r : Route), imageRoute e now = some r ↔
             ((byteAt e 0 = 15 ∧ r.source = .anyApp) ∨ (∃ l, Lane.ofCode (byteAt e 0) = some l ∧ r.source = .lane l))
               ∧ (Address.decode (byteAt e 1) (byteAt e 2) = some r.target ∧ r.target ≠ .hub)
               ∧ (r.requestAllowed = (byteAt e 3).testBit 0 ∧ r.noticeAllowed = (byteAt e 3).testBit 1)
               ∧ (r.requestAllowed = true ∨ r.noticeAllowed = true)
               ∧ (r.requestLimit = byteAt e 4 + 256 * byteAt e 5 ∧ r.requestLimit ≤ 496)
               ∧ (r.answerLimit = byteAt e 6 + 256 * byteAt e 7 ∧ r.answerLimit ≤ 496)
               ∧ r.deadline = max 10 (min (byteAt e 8 + 256 * byteAt e 9) 60000)
               ∧ ((byteAt e 10 = 0 ∧ r.budget = none) ∨ (byteAt e 10 = 1 ∧ 1 ≤ byteAt e 11
                   ∧ 1 ≤ byteAt e 12 + 256 * byteAt e 13
                   ∧ r.budget = some ⟨byteAt e 11, byteAt e 12 + 256 * byteAt e 13, byteAt e 11, now⟩)))

/-- SET PANES stages its table, and the SET PANES whose table it replaces completes with SUPERSEDED; SCROLL PANE puts its scroll
at the end of the pending list. Both join the list of outstanding requests, and leave the active table. The pane records of a
payload stand at offset 6 + 8 × k, and the first of them that makes no pane is the one at fault. Which pane lists pass the
checks of SET PANES, and which index is the detail where one fails: the first pane that fails a test of its own, or else the
pane count. The pane that a record of TABLE J makes (R33, R121, R122, R123, R127, TABLE N). -/
def Obligations.PaneRequests : Prop :=
  (∀ (s : State) (m : Message) (rest : List Byte), HubTakes s m → m.sender = .pay → s.hub.mode ≠ .lockdown →
     (∀ panes, m.payload = 0x02#8 :: rest → 1 ≤ byteAt m.payload 2 → byteAt m.payload 2 ≤ 4 →
         6 + 8 * byteAt m.payload 2 ≤ m.payload.length → panesFrom m.payload 0 (byteAt m.payload 2) = .ok panes →
         ∃ t : State,
           t = { s.hubTake m with panel := { s.panel with
               staged := some ⟨BitVec.ofNat 16 (byteAt m.payload 4 + 256 * byteAt m.payload 5), panes⟩ } }
             ∧ (panesRefused panes = none →
                 exec .setPanes s = .next ((t.completeJobs .setPanes .superseded 0).addOutstanding .setPanes m))
             ∧ ∀ k, panesRefused panes = some k → exec .setPanes s =
                 .next (s.answered m (replyBytes .parameter 0x02 k [])))
       ∧ (∀ k, m.payload = 0x02#8 :: rest → 1 ≤ byteAt m.payload 2 → byteAt m.payload 2 ≤ 4 →
           6 + 8 * byteAt m.payload 2 ≤ m.payload.length → panesFrom m.payload 0 (byteAt m.payload 2) = .error k →
           exec .setPanes s = .next (s.answered m (replyBytes .parameter 0x02 k [])))
       ∧ (m.payload = 0x02#8 :: rest → byteAt m.payload 2 = 0 ∨ 4 < byteAt m.payload 2 →
           6 + 8 * byteAt m.payload 2 ≤ m.payload.length →
           exec .setPanes s = .next (s.answered m (replyBytes .parameter 0x02 0xFFFF [])))
       ∧ (m.payload = 0x03#8 :: rest → 6 ≤ m.payload.length →
           ∀ offset, offset = byteAt m.payload 4 + 256 * byteAt m.payload 5 →
           (∀ p, s.panel.active.panes[byteAt m.payload 2]? = some p → byteAt m.payload 2 ≤ 3 → offset ≤ 319 →
               p.source = .secure → offset < p.height →
               exec .scrollPane s = .next { s.awaits m .scrollPane with
                 panel := { s.panel with scrolls := s.panel.scrolls ++ [⟨byteAt m.payload 2, offset⟩] } })
             ∧ ((3 < byteAt m.payload 2 ∨ 319 < offset ∨ s.panel.active.panes[byteAt m.payload 2]? = none
                 ∨ ∃ p, s.panel.active.panes[byteAt m.payload 2]? = some p ∧ (p.source ≠ .secure ∨ p.height ≤ offset)) →
               exec .scrollPane s = .next (s.answered m [4#8, 3#8, 0#8, 0#8]))))
    ∧ ((∀ panes : List Pane, panesRefused panes = none ↔
           (panes.map Pane.height).sum = 320 ∧ panes.countP Pane.capture ≤ 1 ∧ ∀ p ∈ panes,
             (p.ownerPay = false ↔ p.source = .appVideo) ∧ (p.capture = true ∨ p.shade = true → p.ownerPay = true)
               ∧ (p.shade = true → p.capture = true)
               ∧ (p.source = .secure → p.height ≤ 256 ∧ p.base + p.height ≤ 256 ∧ p.offset < p.height))
         ∧ (∀ (panes : List Pane) (k : Nat) (fails : Nat → Pane → Prop),
             (∀ j p, fails j p ↔ ¬(p.ownerPay = false ↔ p.source = .appVideo)
               ∨ (p.ownerPay = false ∧ (p.capture = true ∨ p.shade = true)) ∨ (p.shade = true ∧ p.capture = false)
               ∨ (p.capture = true ∧ ∃ i q, i < j ∧ panes[i]? = some q ∧ q.capture = true)
               ∨ (p.source = .secure ∧ (256 < p.height ∨ 256 < p.base + p.height ∨ p.height ≤ p.offset))) →
             (panesRefused panes = some k ↔
               (∃ p, panes[k]? = some p ∧ fails k p ∧ ∀ j q, j < k → panes[j]? = some q → ¬fails j q)
               ∨ (k = panes.length ∧ (panes.map Pane.height).sum ≠ 320 ∧ ∀ j q, panes[j]? = some q → ¬fails j q)))
         ∧ (∀ (p : List Byte) (n : Nat) (record : Nat → Option Pane),
             (∀ k, record k = paneOf ((p.drop (6 + 8 * k)).take 8)) →
             (∀ panes, panesFrom p 0 n = .ok panes ↔ (List.range n).map record = panes.map some)
               ∧ ∀ k, panesFrom p 0 n = .error k ↔ k < n ∧ record k = none ∧ ∀ j, j < k → record j ≠ none)
         ∧ (∀ (r : List Byte) (p : Pane), paneOf r = some p ↔
             (p.height = byteAt r 0 + 256 * byteAt r 1 ∧ 1 ≤ p.height ∧ p.height ≤ 320)
               ∧ ((byteAt r 2 = 1 ∧ p.ownerPay = false) ∨ (byteAt r 2 = 2 ∧ p.ownerPay = true))
               ∧ ((byteAt r 3 = 1 ∧ p.source = .appVideo) ∨ (byteAt r 3 = 2 ∧ p.source = .secure)
                   ∨ (byteAt r 3 = 3 ∧ p.source = .fill))
               ∧ (p.capture = (byteAt r 4).testBit 0 ∧ p.shade = (byteAt r 4).testBit 1)
               ∧ (p.source = .secure → p.base = byteAt r 5 ∧ p.offset = byteAt r 6 + 256 * byteAt r 7 ∧ p.offset ≤ 319)
               ∧ (p.source ≠ .secure → p.base = 0 ∧ p.offset = 0)))

/-- SET CALIBRATION, SET FOCUS, SET NOTICES and SET VIOLATION LIMIT replace what they name in the event of the take and complete
with DONE; with a value out of its range they change nothing and complete with PARAMETER, detail 0 (R120, R140, R147, R164). -/
def Obligations.SettingRequests : Prop :=
  ∀ (s : State) (m : Message) (rest p : List Byte), HubTakes s m → m.payload = p →
    (∀ c : Calibration, p = 0x04#8 :: rest → 14 ≤ p.length → m.sender = .pay →
        c = ⟨byteAt p 2 + 256 * byteAt p 3, byteAt p 4 + 256 * byteAt p 5, byteAt p 6 + 256 * byteAt p 7,
          byteAt p 8 + 256 * byteAt p 9, (byteAt p 10).testBit 0, (byteAt p 10).testBit 1, (byteAt p 10).testBit 2⟩ →
        exec .setCalibration s =
          if c.xmin ≤ 4095 ∧ c.xmax ≤ 4095 ∧ c.ymin ≤ 4095 ∧ c.ymax ≤ 4095 ∧ c.xmin + 256 ≤ c.xmax ∧ c.ymin + 256 ≤ c.ymax
          then .next (State.answered { s with touch := { s.touch with calibration := c } } m [1#8, 4#8, 0#8, 0#8])
          else .next (s.answered m [4#8, 4#8, 0#8, 0#8]))
      ∧ (p = 0x05#8 :: rest → 3 ≤ p.length → m.sender = .app 0 →
          (∀ x : Fin 8, byteAt p 2 = x.val → exec .setFocus s =
              .next (State.answered { s with touch := { s.touch with focus := x } } m [1#8, 5#8, 0#8, 0#8]))
            ∧ (7 < byteAt p 2 → exec .setFocus s = .next (s.answered m [4#8, 5#8, 0#8, 0#8])))
      ∧ (p = 0x09#8 :: rest → 8 ≤ p.length → m.sender ∈ [.app 0, .pay, .rad] →
          (byteAt p 6 ≤ 1 → ∃ groups : Half,
              (∀ b, groups.getLsbD b = decide (b < if m.sender = .pay then 11 else 8))
                ∧ exec .setNotices s = .next (State.answered (s.updDom m.sender.domain fun r => { r with
                    enables := BitVec.ofNat 16 (byteAt p 2 + 256 * byteAt p 3) &&& groups
                    urgent := BitVec.ofNat 16 (byteAt p 4 + 256 * byteAt p 5) &&& groups
                    split := decide (byteAt p 6 = 1) }) m [1#8, 9#8, 0#8, 0#8]))
            ∧ (1 < byteAt p 6 → exec .setNotices s = .next (s.answered m [4#8, 9#8, 0#8, 0#8])))
      ∧ (p = 0x0D#8 :: rest → 4 ≤ p.length → m.sender = .pay →
          (∀ l : Lane, Lane.ofCode (byteAt p 2) = some l → exec .setViolationLimit s =
              .next (State.answered (s.updLane l fun r => { r with limit := byteAt p 3, tally := 0 }) m
                [1#8, 0x0D#8, 0#8, 0#8]))
            ∧ (9 < byteAt p 2 → exec .setViolationLimit s = .next (s.answered m [4#8, 0x0D#8, 0#8, 0#8])))

/-- SET LINE MAP replaces a line's entry: the line rests; as an IN line it begins settling and keeps its mismatch state, as an OUT
line it has no filter and no mismatch, and the combiner is evaluated where the mismatch changed. SET COMBINER replaces every
setting and evaluates the output anew. Both complete with DONE (R150, R157, R158, R160). -/
def Obligations.LineAndCombinerSettings : Prop :=
  ∀ (s v : State) (m : Message) (rest p : List Byte), HubTakes s m → m.payload = p → m.sender = .pay → v = s.hubTake m →
    (∀ (n : Fin 12) (e : LineEntry), p = 0x06#8 :: rest → 12 ≤ p.length → byteAt p 2 = n.val →
        (byteAt p 4 = 0 ∧ e.out = false ∨ byteAt p 4 = 1 ∧ e.out = true) →
        (byteAt p 5 = 0 ∧ e.owner = none ∨ byteAt p 5 = 1 ∧ e.owner = some .app ∨ byteAt p 5 = 2 ∧ e.owner = some .pay
          ∨ byteAt p 5 = 3 ∧ e.owner = some .rad) →
        (byteAt p 6 = 1 ∧ e.edge = .rise ∨ byteAt p 6 = 2 ∧ e.edge = .fall ∨ byteAt p 6 = 3 ∧ e.edge = .both) →
        (byteAt p 7 = 0 ∧ e.expected = false ∨ byteAt p 7 = 1 ∧ e.expected = true) →
        (byteAt p 8 = 0 ∧ e.rest = false ∨ byteAt p 8 = 1 ∧ e.rest = true) → e.tag.toNat = byteAt p 9 →
        (byteAt p 10 = 0 ∧ e.deliver = false ∨ byteAt p 10 = 1 ∧ e.deliver = true) →
        (e.out = false → exec .setLineMap s = .next (State.complete
            (v.setLine n ⟨e, .settling none, (s.line n).mismatch, .resting⟩) m.tag [1#8, 6#8, 0#8, 0#8]))
          ∧ (e.out = true → ∃ t : State, t = v.setLine n ⟨e, .off, false, .resting⟩
              ∧ exec .setLineMap s =
                .next ((if (s.line n).mismatch then t.evaluate else t).complete m.tag [1#8, 6#8, 0#8, 0#8])))
      ∧ (p = 0x06#8 :: rest → 12 ≤ p.length →
          11 < byteAt p 2 ∨ 1 < byteAt p 4 ∨ 3 < byteAt p 5 ∨ byteAt p 6 = 0 ∨ 3 < byteAt p 6 ∨ 1 < byteAt p 7
            ∨ 1 < byteAt p 8 ∨ 1 < byteAt p 10 →
          exec .setLineMap s = .next (s.answered m [4#8, 6#8, 0#8, 0#8]))
      ∧ (p = 0x07#8 :: rest → 8 ≤ p.length → exec .setCombiner s = .next (State.complete
          (State.evaluate { v with combiner := ⟨BitVec.ofNat 14 (byteAt p 2 + 256 * byteAt p 3),
            BitVec.ofNat 14 (byteAt p 4 + 256 * byteAt p 5), (byteAt p 6).testBit 0, (byteAt p 6).testBit 1,
            (byteAt p 6).testBit 2, s.combiner.output⟩ }) m.tag [1#8, 7#8, 0#8, 0#8]))

/-- DRIVE LINE sets the output state of an OUT line that the requester's domain owns, to a driven level or to a pulse with its
end time; of a line that another domain or none owns it is answered AUTHORITY, a violation, and of an IN line PARAMETER. A pulse
ends at its end time. An OUT line shows its rest level while RESTING, the driven level while DRIVEN and the level opposite its
rest level while PULSING, and the part drives no IN line. A line above 11, an unlisted action and a length outside 1 to 1000 are
answered PARAMETER (R48, R155, R156). That DRIVE_LINE, and not DRIVE_LINE_PULSE, takes a request whose action is not listed is
the model's choice (notes/assumptions/23), and so is the end time in microseconds (notes/assumptions/10). -/
def Obligations.LinesDriven : Prop :=
  (∀ (s : State) (m : Message) (rest p : List Byte) (n : Fin 12),
      HubTakes s m → m.payload = p → m.sender ∈ [.app 0, .pay, .rad] → p = 0x08#8 :: rest → 6 ≤ p.length →
      byteAt p 2 = n.val →
      ((s.line n).entry.owner = some m.sender.domain → (s.line n).entry.out = true →
          (byteAt p 3 = 1 → exec .driveLine s = .next (State.answered
              (s.setLine n { s.line n with output := .driven true }) m [1#8, 8#8, 0#8, 0#8]))
            ∧ (byteAt p 3 = 2 → exec .driveLine s = .next (State.answered
                (s.setLine n { s.line n with output := .driven false }) m [1#8, 8#8, 0#8, 0#8]))
            ∧ (∀ length, byteAt p 3 = 3 → length = byteAt p 4 + 256 * byteAt p 5 → 1 ≤ length → length ≤ 1000 →
                exec .driveLinePulse s = .next (State.answered
                  (s.setLine n { s.line n with output := .pulsing (s.now + length * 1000) }) m [1#8, 8#8, 0#8, 0#8])))
        ∧ ∀ c : Instr, (c = .driveLine ∧ (byteAt p 3 = 1 ∨ byteAt p 3 = 2)
              ∨ c = .driveLinePulse ∧ byteAt p 3 = 3 ∧ 1 ≤ byteAt p 4 + 256 * byteAt p 5
                ∧ byteAt p 4 + 256 * byteAt p 5 ≤ 1000) →
            ((s.line n).entry.owner ≠ some m.sender.domain →
                exec c s = .next (((s.hubTake m).violate m.sender).complete m.tag [2#8, 8#8, 0#8, 0#8]))
              ∧ ((s.line n).entry.owner = some m.sender.domain → (s.line n).entry.out = false →
                  exec c s = .next (s.answered m [4#8, 8#8, 0#8, 0#8])))
    ∧ (∀ (s : State) (m : Message) (rest p : List Byte),
        HubTakes s m → m.payload = p → m.sender ∈ [.app 0, .pay, .rad] → p = 0x08#8 :: rest → 6 ≤ p.length →
        (byteAt p 3 ≠ 3 → 11 < byteAt p 2 ∨ byteAt p 3 = 0 ∨ 3 < byteAt p 3 →
            exec .driveLine s = .next (s.answered m [4#8, 8#8, 0#8, 0#8]))
          ∧ (byteAt p 3 = 3 → 11 < byteAt p 2 ∨ byteAt p 4 + 256 * byteAt p 5 = 0 ∨ 1000 < byteAt p 4 + 256 * byteAt p 5 →
              exec .driveLinePulse s = .next (s.answered m [4#8, 8#8, 0#8, 0#8])))
    ∧ (∀ (s : State) (n : Fin 12) (ends : Nat), (s.line n).output = .pulsing ends → ends ≤ s.now →
        exec (.pulseEnd n) s = .next (s.setLine n { s.line n with output := .resting }))
    ∧ ∀ n : Line, (n.entry.out = false → n.driven = none)
        ∧ (n.entry.out = true → n.driven = some (match n.output with
            | .resting => n.entry.rest
            | .driven level => level
            | .pulsing _ => !n.entry.rest))

/-- DOMAIN RESET of APP or RAD: a HOLD or a PULSE of a domain that is not HELD makes it HELD, abandons a board initialisation
and removes the domain; the PULSE also schedules the release for 20 ms later and waits. A HOLD of a HELD domain cancels a
pending release, and the PULSE that waits completes with CANCELLED; a PULSE of one is answered PARAMETER. The release, by a
RELEASE or when a PULSE's release falls: no release is pending, the domain is WAITING, its board initialisation begins, DOMAIN
is raised in PAY, and a PULSE that waits completes with DONE, before the RELEASE does; a RELEASE of a domain that is not HELD is
answered PARAMETER. So is a DOMAIN RESET of another domain or with another action, which the command of its action takes, or
else that of HOLD (notes/assumptions/23). The reset output of APP or RAD is asserted while its domain is HELD and while the part
is in reset, and at no other time (R19, R33, R97, R106, R108, R109, R111, R112, R113, R114). That a HOLD of a HELD domain
cancels a release whose PULSE a RESTART HUB took off the list is the model's reading (notes/assumptions/20), and the time of the
release in microseconds its choice (notes/assumptions/10). -/
def Obligations.DomainResets : Prop :=
  (∀ (s v h : State) (m : Message) (rest p : List Byte) (d : Domain),
     HubTakes s m → m.payload = p → m.sender = .pay → p = 0x0A#8 :: rest → 4 ≤ p.length →
     (byteAt p 2 = 1 ∧ d = .app ∨ byteAt p 2 = 3 ∧ d = .rad) → v = s.hubTake m →
     h = (v.updDom d fun r => { r with status := .held, initialising := none, remembered := 0#8 }).removeDomain d →
     (byteAt p 3 = 1 → (s.dom d).status ≠ .held →
         exec .domainResetHold s = .next (h.complete m.tag [1#8, 0x0A#8, 0#8, 0#8]))
       ∧ (byteAt p 3 = 1 → (s.dom d).status = .held → exec .domainResetHold s =
           .next (((v.updDom d fun r => { r with release := none }).completeJobs (.pulse d) .cancelled 0).complete m.tag
             [1#8, 0x0A#8, 0#8, 0#8]))
       ∧ (byteAt p 3 = 3 → (s.dom d).status ≠ .held → exec .domainResetPulse s = .next (State.addOutstanding
           (h.updDom d fun r => { r with release := some (s.now + 20 * 1000) }) (.pulse d) m))
       ∧ (byteAt p 3 = 3 → (s.dom d).status = .held →
           exec .domainResetPulse s = .next (s.answered m [4#8, 0x0A#8, 0#8, 0#8])))
    ∧ (∀ (s : State) (d : Domain) (released : State → State),
         (∀ q, released q = State.completeJobs (((q.updDom d fun r =>
             { r with
               release := none
               status := .waiting
               initialising := some q.now
               remembered := 0#8
               stray := 0 }).updLanes fun l r =>
                 if l.domain = d then { r with scanWanted := false, bufferWait := false, roomWait := false } else r).raise
                   .pay .domain) (.pulse d) .done 0) →
         (∀ t, d ≠ .pay → (s.dom d).release = some t → t ≤ s.now → exec (.pulseRelease d) s = .next (released s))
           ∧ ∀ (m : Message) (rest p : List Byte), HubTakes s m → m.payload = p → m.sender = .pay → p = 0x0A#8 :: rest →
               4 ≤ p.length → (byteAt p 2 = 1 ∧ d = .app ∨ byteAt p 2 = 3 ∧ d = .rad) → byteAt p 3 = 2 →
               ((s.dom d).status = .held → exec .domainResetRelease s =
                   .next ((released (s.hubTake m)).complete m.tag [1#8, 0x0A#8, 0#8, 0#8]))
                 ∧ ((s.dom d).status ≠ .held →
                     exec .domainResetRelease s = .next (s.answered m [4#8, 0x0A#8, 0#8, 0#8])))
    ∧ (∀ (s : State) (m : Message) (rest p : List Byte) (c : Instr), HubTakes s m → m.payload = p → m.sender = .pay →
         p = 0x0A#8 :: rest → 4 ≤ p.length → byteAt p 2 ∉ [1, 3] ∨ byteAt p 3 ∉ [1, 2, 3] →
         c = (if byteAt p 3 = 2 then .domainResetRelease else if byteAt p 3 = 3 then .domainResetPulse else .domainResetHold) →
         exec c s = .next (s.answered m [4#8, 0x0A#8, 0#8, 0#8]))
    ∧ ∀ (s : State) (d : Domain), d ≠ .pay → (s.resetOutput d = true ↔ s.inReset = true ∨ (s.dom d).status = .held)

/-- FENCE LANE fences a lane that is not fenced and changes nothing of one that is; PAY's lane is answered PARAMETER. RESTORE LANE
lifts a fence with its marks, raises FENCE in the lane's domain and in PAY, and evaluates the combiner where VIOL changes; it
sets the tally to 0 in any case. A lane code above 9 is answered PARAMETER (R117, R118, R119, R158). -/
def Obligations.FenceRequests : Prop :=
  ∀ (s v : State) (m : Message) (rest p : List Byte), HubTakes s m → m.payload = p → m.sender = .pay → v = s.hubTake m →
    3 ≤ p.length →
    (p = 0x0B#8 :: rest →
        (∀ l : Lane, Lane.ofCode (byteAt p 2) = some l → l ≠ .pay → (s.lane l).fenced = false →
            exec .fenceLane s = .next ((v.fenceLane l).complete m.tag [1#8, 0x0B#8, 0#8, 0#8]))
          ∧ (∀ l : Lane, Lane.ofCode (byteAt p 2) = some l → l ≠ .pay → (s.lane l).fenced = true →
              exec .fenceLane s = .next (s.answered m [1#8, 0x0B#8, 0#8, 0#8]))
          ∧ (8 = byteAt p 2 ∨ 9 < byteAt p 2 → exec .fenceLane s = .next (s.answered m [4#8, 0x0B#8, 0#8, 0#8])))
      ∧ (p = 0x0C#8 :: rest →
          (∀ l : Lane, Lane.ofCode (byteAt p 2) = some l → (s.lane l).fenced = true →
              exec .restoreLane s = .next (State.complete (State.evaluateViol v
                (((v.updLane l fun r => { r with fenced := false, autoFenced := false, tally := 0 }).raise
                  l.domain .fence).raise .pay .fence)) m.tag [1#8, 0x0C#8, 0#8, 0#8]))
            ∧ (∀ l : Lane, Lane.ofCode (byteAt p 2) = some l → (s.lane l).fenced = false →
                exec .restoreLane s = .next (State.answered (s.updLane l fun r => { r with tally := 0 }) m
                  [1#8, 0x0C#8, 0#8, 0#8]))
            ∧ (9 < byteAt p 2 → exec .restoreLane s = .next (s.answered m [4#8, 0x0C#8, 0#8, 0#8])))

/-- READ COUNTERS returns the five counters, the tally, the limit and the marks of a lane within the requester's reach, and sets
the counters to 0; of a lane outside it, it is answered AUTHORITY, a violation, and of a lane code above 9, PARAMETER. STATUS
returns the values of TABLE O and changes no state (R33, R48, R51, R102, R103). -/
def Obligations.CountersAndStatus : Prop :=
  ∀ (s v : State) (m : Message) (rest p : List Byte), HubTakes s m → m.payload = p → v = s.hubTake m →
    (∀ (l : Lane) (r : LaneState), p = 0x0E#8 :: rest → 3 ≤ p.length → m.sender ∈ [.app 0, .pay, .rad] →
        Lane.ofCode (byteAt p 2) = some l → r = s.lane l →
        (m.sender = .pay ∨ l.domain = m.sender.domain → exec .readCounters s = .next (State.answered
            (s.updLane l fun r =>
              { r with admitted := 0, refused := 0, violations := 0, dropped := 0, inputLost := 0 }) m
            [1#8, 0x0E#8, 0#8, 0#8,
              BitVec.ofNat 8 r.admitted, BitVec.ofNat 8 (r.admitted / 256),
              BitVec.ofNat 8 r.refused, BitVec.ofNat 8 (r.refused / 256),
              BitVec.ofNat 8 r.violations, BitVec.ofNat 8 (r.violations / 256),
              BitVec.ofNat 8 r.dropped, BitVec.ofNat 8 (r.dropped / 256),
              BitVec.ofNat 8 r.inputLost, BitVec.ofNat 8 (r.inputLost / 256),
              BitVec.ofNat 8 r.tally, BitVec.ofNat 8 r.limit,
              BitVec.ofNat 8 ((if r.fenced then 1 else 0) + if r.autoFenced then 2 else 0)]))
          ∧ (m.sender ≠ .pay → l.domain ≠ m.sender.domain → exec .readCounters s =
              .next ((v.violate m.sender).complete m.tag [2#8, 0x0E#8, 0#8, 0#8])))
      ∧ (p = 0x0E#8 :: rest → 3 ≤ p.length → m.sender ∈ [.app 0, .pay, .rad] → 9 < byteAt p 2 →
          exec .readCounters s = .next (s.answered m [4#8, 0x0E#8, 0#8, 0#8]))
      ∧ (p = 0x0F#8 :: rest → 2 ≤ p.length → ∃ fences : BitVec 16,
          (∀ l : Lane, fences.getLsbD l.code.val = (s.lane l).fenced) ∧ (∀ b, 10 ≤ b → fences.getLsbD b = false)
            ∧ exec .status s = .next (s.answered m
                [1#8, 0x0F#8, 0#8, 0#8,
                  match s.hub.mode with | .boot => 1#8 | .openMode => 2#8 | .lockdown => 3#8,
                  match s.app.status with | .held => 1#8 | .waiting => 2#8 | .up => 3#8,
                  match s.pay.status with | .held => 1#8 | .waiting => 2#8 | .up => 3#8,
                  match s.rad.status with | .held => 1#8 | .waiting => 2#8 | .up => 3#8,
                  fences.extractLsb' 0 8, fences.extractLsb' 8 8,
                  if s.combiner.output then 1#8 else 0#8,
                  match s.panel.mode with | .following => 1#8 | .freeRun => 2#8,
                  if s.panel.active.panes.any Pane.capture then 1#8 else 0#8,
                  BitVec.ofNat 8 v.freeBuffers,
                  BitVec.ofNat 8 ((List.finRange 48).countP fun i => decide ((s.entry i).state = .free))]))

/-- RESUME in LOCKDOWN: BUSY while the combiner output is true; else the mode becomes OPEN or BOOT by routes-loaded and MODE is
raised in every domain. RESTART HUB clears what TABLE C lists and keeps the rest, enters LOCKDOWN where the lockdown condition
stands, raises MODE, and places its reply (R75, R93, R99, R101, R104, R126, R146). -/
def Obligations.ResumeAndRestart : Prop :=
  ∀ (s v : State) (m : Message) (rest p : List Byte),
    HubTakes s m → m.payload = p → m.sender = .pay → 2 ≤ p.length → v = s.hubTake m →
    (p = 0x10#8 :: rest → s.hub.mode = .lockdown →
        (s.combiner.output = true → exec .resume s = .next (s.answered m [5#8, 0x10#8, 0#8, 0#8]))
          ∧ (s.combiner.output = false → exec .resume s = .next (State.answered
              (State.raiseAll { s with hub := { s.hub with
                mode := if s.hub.routesLoaded then .openMode else .boot } } .mode) m [1#8, 0x10#8, 0#8, 0#8])))
      ∧ (p = 0x11#8 :: rest → ∃ c : State,
          exec .restartHub s = .next (((c.evaluate).raiseAll .mode).updLane .pay fun r => { r with
              fifo := r.fifo ++ [.reply ⟨0, m.tag, m.reference, [1#8, 0x11#8, 0#8, 0#8], s.now⟩] })
            ∧ c.hub = ⟨.boot, false, none, [], []⟩ ∧ c.routes = []
            ∧ (∀ i, c.entry i = ⟨(s.entry i).generation, .free⟩)
            ∧ (∀ l, c.lane l = { s.lane l with
                fifo := [], bufferWait := false, gapPending := false, fenced := false, autoFenced := false, tally := 0
                admitted := 0, refused := 0, violations := 0, dropped := 0, inputLost := 0 })
            ∧ c.panel = { s.panel with
                active := ⟨0x0000#16, [⟨320, false, .appVideo, false, false, 0, 0⟩]⟩
                staged := none
                scrolls := [] }
            ∧ (c.touch.link = s.touch.link ∧ c.touch.readPending = s.touch.readPending
                ∧ c.touch.calibration = s.touch.calibration ∧ c.touch.focus = 0)
            ∧ (∀ i, c.contact i = (s.contact i).map fun q => { q with owner := none })
            ∧ (∀ k, c.key k = { s.key k with owner := none })
            ∧ (c.lines = s.lines ∧ c.combiner = s.combiner ∧ c.scanner = { s.scanner with visit := none })
            ∧ (∀ d, c.dom d = { s.dom d with
                flags := if s.capture then (s.dom d).flags ||| Flag.capture.mask else (s.dom d).flags })
            ∧ (c.inReset = s.inReset ∧ c.now = s.now ∧ c.pending = s.pending))

/-! ## Removal, fences, LOCKDOWN and the combiner -/

/-- The removal of a domain, before the combiner's evaluation where VIOL changes: its lanes' FIFOs are emptied, their fences,
tallies and gap marks cleared; its REQUESTs elsewhere leave, and its NOTICEs and ANSWERs stay; its exchanges are freed as
requester and concluded TARGET_DOWN as responder, the references joining in ascending order; its contacts and keys end silently;
its output lines rest; its flags are cleared; and DOMAIN is raised in PAY for APP and RAD. Every buffer-wait mark is cleared
where a buffer is released, and stands otherwise; a reference discarded for a fenced lane is counted DROPPED
(notes/assumptions/19). Where the one event removes a domain and by VIOL brings the entry into LOCKDOWN, the references of both
join the FIFO of a lane in ascending order, and the removal is made before the entry, so that exchanges with its lanes conclude
TARGET_DOWN: the model's choice (notes/assumptions/36; R17, R18, R58, R73, R75, R86, R88, R90, R91, R108, R109, R146, R157,
R165). -/
def Obligations.DomainRemoval : Prop :=
  (∀ (s : State) (d : Domain) (released : Bool),
    (released = true ↔ (∃ k, ∃ e ∈ (s.lane k).fifo, e.holdsBuffer = true
        ∧ (k.domain = d ∨ e.isRequest (fun m => decide (m.sender.domain = d)) = true))
      ∨ ∃ h ∈ s.hub.fifo, h.message.sender.domain = d) →
    ∃ r : State, s.removeDomain d = State.evaluateViol s r
    ∧ (∀ l, l.domain = d → r.lane l = { s.lane l with
        fifo := [], gapPending := false, fenced := false, autoFenced := false, tally := 0
        bufferWait := (s.lane l).bufferWait && !released })
    ∧ (∀ l, l.domain ≠ d → r.lane l = { s.lane l with
        fifo := ((s.lane l).fifo.filter fun e => !e.isRequest fun m => decide (m.sender.domain = d))
          ++ (s.concludedFor (fun k => decide (k.domain = d)) l).map .conclusion
        bufferWait := (s.lane l).bufferWait && !released
        dropped := counterAfter (s.lane l).dropped (s.discardedFor (fun k => decide (k.domain = d)) l) })
    ∧ (∀ i, r.entry i = s.entryRemoved (fun k => decide (k.domain = d)) false (s.entry i))
    ∧ r.hub = { s.hub with fifo := s.hub.fifo.filter fun h => decide (h.message.sender.domain ≠ d) }
    ∧ (∀ i, r.contact i = (s.contact i).map fun c =>
        { c with owner := c.owner.filter fun l => decide (l.domain ≠ d) })
    ∧ (∀ k, r.key k = { s.key k with owner := (s.key k).owner.filter fun l => decide (l.domain ≠ d) })
    ∧ (r.touch.focus = if d = .app then 0 else s.touch.focus)
    ∧ (∀ n, r.line n = if (s.line n).entry.owner = some d then { s.line n with output := .resting } else s.line n)
    ∧ (∀ d', r.dom d' = { s.dom d' with
        flags := if d' = d then 0#32 else if d' = .pay then (s.dom d').flags ||| Flag.domain.mask else (s.dom d').flags })
    ∧ r.scanner = { s.scanner with visit := s.scanner.visit.filter fun l => decide (l.domain ≠ d) }
    ∧ (r.touch.link = s.touch.link ∧ r.touch.readPending = s.touch.readPending
        ∧ r.touch.calibration = s.touch.calibration)
    ∧ (r.routes = s.routes ∧ r.panel = s.panel ∧ r.combiner = s.combiner ∧ r.now = s.now ∧ r.inReset = s.inReset
        ∧ r.pending = s.pending))
    ∧ ∀ (s u : State) (d : Domain) (k : Lane), u = s.removeDomain d → ConclusionsSound s →
        s.hub.mode ≠ .lockdown → u.hub.mode = .lockdown → (∀ o ∈ s.hub.outstanding, o.job ≠ .setPanes) →
        k.isApp = false → k.domain ≠ d →
        (u.lane k).fifo =
          ((s.lane k).fifo.filter fun e => !e.fromApp && !e.isRequest fun m => decide (m.sender.domain = d))
            ++ (s.concludedFor (fun j => decide (j.domain = d) || j.isApp) k).map .conclusion

/-- The fence of a lane that is not fenced: every entry of its FIFO but hub replies is removed and counted DROPPED, and so is each
CANCEL of a contact or key it held; its exchanges are closed on both sides, an entry AWAITED with HUB being kept; its REQUESTs
elsewhere leave; and FENCE is raised in its domain and in PAY. Every buffer-wait mark is cleared where a buffer is released, and
stands otherwise; a reference discarded for another fenced lane is counted DROPPED there (notes/assumptions/19; R17, R58, R73,
R86, R89, R90, R117, R146). -/
def Obligations.LaneFence : Prop :=
  ∀ (s r : State) (l : Lane) (released : Bool), (s.lane l).fenced = false → r = s.fenceLane l →
    (released = true ↔ (∃ k, ∃ e ∈ (s.lane k).fifo, e.holdsBuffer = true
        ∧ if k = l then e.isReply = false else e.isRequest (fun m => decide (m.sender = l)) = true)
      ∨ ∃ h ∈ s.hub.fifo, h.message.sender = l) →
    r.lane l = { s.lane l with
        fenced := true
        fifo := (s.lane l).fifo.filter Entry.isReply
        bufferWait := (s.lane l).bufferWait && !released
        dropped := min ((s.lane l).dropped + (s.lane l).fifo.countP (fun e => !e.isReply) + s.inputsOf l) 65535 }
      ∧ (∀ k, k ≠ l → r.lane k = { s.lane k with
          fifo := ((s.lane k).fifo.filter fun e => !e.isRequest fun m => decide (m.sender = l))
            ++ (s.concludedFor (fun k => decide (k = l)) k).map .conclusion
          bufferWait := (s.lane k).bufferWait && !released
          dropped := counterAfter (s.lane k).dropped (s.discardedFor (fun k => decide (k = l)) k) })
      ∧ (∀ i, r.entry i = s.entryRemoved (fun k => decide (k = l)) true (s.entry i))
      ∧ r.hub = { s.hub with fifo := s.hub.fifo.filter fun h => decide (h.message.sender ≠ l) }
      ∧ (∀ i, r.contact i = (s.contact i).map fun c => { c with owner := c.owner.filter fun k => decide (k ≠ l) })
      ∧ (∀ k, r.key k = { s.key k with owner := (s.key k).owner.filter fun k => decide (k ≠ l) })
      ∧ (∀ d, r.dom d = { s.dom d with
          flags := if d = l.domain ∨ d = .pay then (s.dom d).flags ||| Flag.fence.mask else (s.dom d).flags })
      ∧ (r.touch.link = s.touch.link ∧ r.touch.readPending = s.touch.readPending
          ∧ r.touch.calibration = s.touch.calibration ∧ r.touch.focus = s.touch.focus)
      ∧ (r.lines = s.lines ∧ r.scanner = s.scanner ∧ r.routes = s.routes ∧ r.panel = s.panel ∧ r.combiner = s.combiner
          ∧ r.now = s.now ∧ r.inReset = s.inReset ∧ r.pending = s.pending)

/-- The entry into LOCKDOWN: the mode; the lockdown table at once, with nothing staged; the capture that ends; APP's lines at
rest; application lanes' contacts and keys unrouted; application lanes' messages gone from every FIFO, and all but hub replies
from theirs; every exchange that touches the application domain closed; and MODE in all three domains. Of a lane, nothing but
its FIFO, its buffer-wait mark, which the release of a buffer clears, and what a fenced lane's discards count changes
(notes/assumptions/18 and 19). The SET PANES that waits completes with CANCELLED: its exchange, as the closing leaves it, goes
FREE and its reply joins behind the references (notes/assumptions/33), or the reply is discarded (R17, R58, R74, R85, R92, R97,
R100, R125, R137, R145, R157). -/
def Obligations.LockdownEntry : Prop :=
  ∀ (s r : State) (released : Bool) (kept : Lane → LaneState), r = s.enterLockdown →
    (released = true ↔ (∃ k, ∃ e ∈ (s.lane k).fifo, e.holdsBuffer = true
        ∧ if k.isApp then e.isReply = false else e.fromApp = true)
      ∨ ∃ h ∈ s.hub.fifo, h.message.sender.isApp = true) →
    (∀ l, kept l = { s.lane l with
      fifo := if l.isApp then (s.lane l).fifo.filter Entry.isReply
        else ((s.lane l).fifo.filter fun e => !e.fromApp) ++ (s.concludedFor Lane.isApp l).map .conclusion
      bufferWait := (s.lane l).bufferWait && !released
      dropped := counterAfter (s.lane l).dropped
        (if l.isApp then (if (s.lane l).fenced then s.inputsOf l else 0) else s.discardedFor Lane.isApp l) }) →
    (r.hub.mode = .lockdown ∧ r.hub.routesLoaded = s.hub.routesLoaded ∧ r.hub.loading = s.hub.loading
        ∧ r.hub.outstanding = (s.hub.outstanding.filter fun o => decide (o.job ≠ .setPanes))
        ∧ r.hub.fifo = s.hub.fifo.filter fun h => !h.message.sender.isApp)
      ∧ r.panel = { s.panel with active := ⟨0x0000#16, [⟨320, true, .fill, false, false, 0, 0⟩]⟩, staged := none }
      ∧ (∀ n, r.line n = if (s.line n).entry.owner = some .app then { s.line n with output := .resting } else s.line n)
      ∧ (∀ i, r.contact i = (s.contact i).map fun c => { c with owner := c.owner.filter fun l => !l.isApp })
      ∧ (∀ k, r.key k = { s.key k with owner := (s.key k).owner.filter fun l => !l.isApp })
      ∧ (∀ d, r.dom d = { s.dom d with
          flags := (if s.capture then (s.dom d).flags ||| Flag.capture.mask else (s.dom d).flags) ||| Flag.mode.mask })
      ∧ (r.routes = s.routes ∧ r.combiner = s.combiner ∧ r.scanner = s.scanner ∧ r.now = s.now ∧ r.inReset = s.inReset
          ∧ r.pending = s.pending)
      ∧ (r.touch.link = s.touch.link ∧ r.touch.readPending = s.touch.readPending
          ∧ r.touch.calibration = s.touch.calibration ∧ r.touch.focus = s.touch.focus)
      ∧ ((∀ o ∈ s.hub.outstanding, o.job ≠ .setPanes) →
          (∀ i, r.entry i = s.entryLocked (s.entry i)) ∧ ∀ l, r.lane l = kept l)
      ∧ ∀ o : Outstanding, (s.hub.outstanding.filter fun o => decide (o.job = .setPanes)) = [o] →
          ((∀ i : Fin 48, i.val = o.tag % 64 → (s.entryLocked (s.entry i)).generation.toNat ≠ o.tag / 64) →
            (∀ i, r.entry i = s.entryLocked (s.entry i)) ∧ ∀ l, r.lane l = kept l)
          ∧ ∀ (i : Fin 48) (e : ExchangeEntry), i.val = o.tag % 64 → e = s.entryLocked (s.entry i) →
              e.generation.toNat = o.tag / 64 →
              (∀ j, j ≠ i → r.entry j = s.entryLocked (s.entry j))
                ∧ (∀ x, e.state = .awaited x → r.entry i = e.freed
                    ∧ ∀ l, r.lane l = if l = x.requester then { kept l with fifo := (kept l).fifo
                        ++ [.reply ⟨if s.replyFree 0 then 0 else 1, o.tag, x.reference, [7#8, 2#8, 0#8, 0#8], s.now⟩] }
                      else kept l)
                ∧ ((∀ x, e.state ≠ .awaited x) → (∀ l, r.lane l = kept l)
                    ∧ r.entry i = match e.state with
                      | .closing x .expired _ => ⟨e.generation, .closing x .expired true⟩
                      | .lapsed _ => e.freed
                      | _ => e)

/-- The combiner output is formed from the included inputs, each negated where its invert is set, and negated as a whole where the
output invert is set; at a change ALARM is raised in PAY; and with the output true and the arm set the hub enters LOCKDOWN
where it is not in it. The ALERT pin is high while the output is true and the alert enable is set, but during a reset. At a fence,
its lifting or a removal the evaluation takes place where VIOL changes, and the references of the entries that the whole event
takes to CLOSING stand in ascending order, every other entry of a FIFO in its place (R86, R158, R159). -/
def Obligations.CombinerEvaluation : Prop :=
  ∀ (s t : State) (input : Fin 14 → Bool) (out : Bool),
    (∀ n : Fin 12, input ⟨n.val, by omega⟩ = (s.line n).mismatch) →
    (input 12 = true ↔ ∃ l, (s.lane l).autoFenced = true) → (input 13 = true ↔ s.panel.mode = .freeRun) →
    (out = true ↔ ((∃ n : Fin 14, s.combiner.includes.getLsbD n.val = true
      ∧ input n ≠ s.combiner.inverts.getLsbD n.val) ↔ s.combiner.outputInvert = false)) →
    t = (if out = s.combiner.output then s
      else State.raise { s with combiner := { s.combiner with output := out } } .pay .alarm) →
    (out = true → s.combiner.arm = true → s.hub.mode ≠ .lockdown → s.evaluate = t.enterLockdown)
      ∧ (out = false ∨ s.combiner.arm = false ∨ s.hub.mode = .lockdown → s.evaluate = t)
      ∧ (s.alertPin = true ↔ s.inReset = false ∧ s.combiner.alertEnable = true ∧ s.combiner.output = true)
      ∧ ∀ (was : State),
          ((∃ l, (s.lane l).autoFenced = true) ↔ ∃ l, (was.lane l).autoFenced = true) ∧ State.evaluateViol was s = s
          ∨ ¬((∃ l, (s.lane l).autoFenced = true) ↔ ∃ l, (was.lane l).autoFenced = true)
            ∧ ∃ (joined : Fin 48 → Bool) (fifo : Lane → List Entry),
                State.evaluateViol was s = s.evaluate.updLanes (fun l r => { r with fifo := fifo l })
                  ∧ (∀ i, joined i = true ↔ (∃ x c late, (s.evaluate.entry i).state = .closing x c late)
                      ∧ ∀ x c late, (was.entry i).state ≠ .closing x c late)
                  ∧ ∀ l, ∃ before behind : List Entry, before <+: (s.evaluate.lane l).fifo
                      ∧ fifo l = before ++ ((List.finRange 48).filter fun i =>
                          joined i && decide (.conclusion i ∈ (s.evaluate.lane l).fifo)).map .conclusion ++ behind
                      ∧ (s.evaluate.lane l).fifo.filter (fun e => match e with
                          | .conclusion i => !joined i
                          | .message _ | .reply _ | .cell _ _ => true) = before ++ behind

/-! ## The panel -/

/-- A panel frame start: the pending scrolls move the offsets of SECURE panes of the active table in their order, a staged table
then takes its place with PANES raised in PAY, their requests leave the list and complete with DONE, those of the scrolls first,
capture changes with CAPTURE in every domain, contacts and keys of application lanes being unrouted where it begins, and the
first row slot is 0. After the replies, a beginning of capture places a CANCEL for each of these contacts, with its latest
placement, in order of contact id, and then for each of these keys, in order of key number. The secure lamp is lit while the
active table holds a capture pane (R124, R128, R136, R137, R145). -/
def Obligations.FrameStart : Prop :=
  ∀ (s r : State) (panes : List Pane) (cancels : List (Lane × InputEvent)), r = s.frameStart →
    cancels = ((List.finRange 2).filterMap fun i => match s.contact i with
        | some ⟨some l, place⟩ => if l.isApp then some (l, .touch i .cancel place) else none
        | some ⟨none, _⟩ | none => none)
      ++ ((List.finRange 16).filterMap fun k => match (s.key k).owner with
        | some l => if l.isApp then some (l, .key k .cancel) else none
        | none => none) →
    panes = s.panel.scrolls.foldl (fun ps c => ps.modify c.pane fun p =>
      if p.source = .secure ∧ c.offset < p.height then { p with offset := c.offset } else p) s.panel.active.panes →
    r.panel = { s.panel with
        active := (s.panel.staged).getD { s.panel.active with panes := panes }
        staged := none
        scrolls := []
        nextSlot := 0
        sent := s.panel.sent ++ [.frameStart] }
      ∧ r.hub = { s.hub with outstanding :=
          (s.hub.outstanding.filter fun o =>
            decide (o.job ≠ .scrollPane) && (decide (o.job ≠ .setPanes) || s.panel.staged.isNone)) }
      ∧ (∀ i, r.contact i = if s.capture = false ∧ r.capture = true then
            (s.contact i).map fun c => { c with owner := c.owner.filter fun l => !l.isApp }
          else s.contact i)
      ∧ (∀ k, r.key k = if s.capture = false ∧ r.capture = true then
            { s.key k with owner := (s.key k).owner.filter fun l => !l.isApp }
          else s.key k)
      ∧ (∀ d b, b ≠ Flag.inputLost.bit → (r.dom d).flags.getLsbD b =
          ((s.dom d).flags.getLsbD b || decide (d = .pay ∧ s.panel.staged.isSome = true ∧ b = Flag.panes.bit)
            || decide (r.capture ≠ s.capture ∧ b = Flag.capture.bit)))
      ∧ (∃ q u : State,
          q = (s.hub.outstanding.filter fun o => decide (o.job = .scrollPane)).foldl
            (fun q o => q.complete o.tag [1#8, 3#8, 0#8, 0#8]) s
          ∧ u = (if s.panel.staged.isSome then (s.hub.outstanding.filter fun o => decide (o.job = .setPanes)).foldl
            (fun q o => q.complete o.tag [1#8, 2#8, 0#8, 0#8]) q else q)
          ∧ (∀ i, r.entry i = u.entry i)
          ∧ ∀ l, r.lane l = (if s.capture = false ∧ r.capture = true then
              cancels.foldl (fun v c => v.placeEvent c.1 c.2) u else u).lane l)
      ∧ (∀ q : State, q.secureLamp = true ↔ ∃ p ∈ q.panel.active.panes, p.capture = true)
      ∧ (r.lines = s.lines ∧ r.combiner = s.combiner ∧ r.routes = s.routes ∧ r.scanner = s.scanner ∧ r.now = s.now
          ∧ r.inReset = s.inReset ∧ r.pending = s.pending)

/-- What makes a panel frame start: an APP frame start, which in FOLLOWING mode first outputs the slots that remain of a short
frame without APP video, and in FREE-RUN mode abandons the frame and ends FREE-RUN; the loss of video at 100 ms, which outputs
what remains and enters FREE-RUN; and the free-run timer at 16,667 µs (R129, R130, R131, R132). The order of mode and frame
start in one event is the model's reading (notes/assumptions/24). Times in microseconds are the model's choice
(notes/assumptions/10). -/
def Obligations.FramesBegin : Prop :=
  ∀ (s : State) (rows : List PanelSignal),
    rows = ((List.range (320 - s.panel.nextSlot)).map fun k =>
      .row (s.panel.nextSlot + k) (s.compose none (s.panel.nextSlot + k))) →
    (s.inReset = false → s.panel.mode = .following → exec .appFrameStart s = .next (State.frameStart { s with
        panel := { s.panel with
          sent := rows, nextSlot := s.panel.nextSlot + (320 - s.panel.nextSlot), videoZero := s.now } }))
      ∧ (s.inReset = false → s.panel.mode = .freeRun → ∃ t : State,
          t = (State.raiseAll { s with panel := { s.panel with sent := [], mode := .following } } .video).evaluate
            ∧ exec .appFrameStart s =
              .next (State.frameStart { t with panel := { t.panel with videoZero := s.now } }))
      ∧ (s.panel.mode = .following → s.panel.videoZero + 100 * 1000 ≤ s.now → ∃ t : State,
          t = State.frameStart (State.raiseAll { s with panel := { s.panel with
              sent := rows, nextSlot := s.panel.nextSlot + (320 - s.panel.nextSlot), mode := .freeRun } } .video).evaluate
            ∧ exec .videoLoss s = .next { t with panel := { t.panel with frameZero := s.now } })
      ∧ (s.inReset = false → s.panel.mode = .freeRun → s.panel.frameZero + 16667 ≤ s.now → ∃ t : State,
          t = State.frameStart { s with panel := { s.panel with sent := [] } }
            ∧ exec .freeRunFrameEnd s = .next { t with panel := { t.panel with frameZero := s.now } })

/-- A row slot is output from the active table as it stands: an APP row as it arrives in FOLLOWING mode, shaded where a capture
pane with shade is active, the fill colour where none arrives, the store line of a SECURE pane, or the fill colour; free-run
slot r falls at r × 52 µs. An arriving row beyond the frame, in FREE-RUN mode or during a reset is disregarded (R129, R130,
R131, R132, R133, R134, R135). -/
def Obligations.RowSlots : Prop :=
  (∀ (s : State) (pixels : List Pixel),
    s.inReset = true ∨ s.panel.mode = .freeRun ∨ (s.panel.mode = .following ∧ 320 ≤ s.panel.nextSlot) →
    exec (.appInputRow pixels) s = .next s)
  ∧ ∀ (s : State) (pixels : List Pixel) (k i : Nat) (p : Pane) (fill row : List Pixel),
    s.panel.nextSlot < 320 → s.inReset = false →
    s.panel.active.panes[k]? = some p →
    s.panel.nextSlot = ((s.panel.active.panes.take k).map Pane.height).sum + i → i < p.height →
    fill = List.replicate 240 s.panel.active.fill →
    row = pixels.take 240 ++ List.replicate (240 - pixels.length) s.panel.active.fill →
    ∀ (out : List Pixel → State), (∀ q, out q = { s with panel := { s.panel with
        sent := [.row s.panel.nextSlot q], nextSlot := s.panel.nextSlot + 1 } }) →
    (s.panel.mode = .following →
        (p.source = .appVideo → (∀ q ∈ s.panel.active.panes, ¬(q.capture = true ∧ q.shade = true)) →
            exec (.appInputRow pixels) s = .next (out row))
          ∧ (p.source = .appVideo → (∃ q ∈ s.panel.active.panes, q.capture = true ∧ q.shade = true) →
              exec (.appInputRow pixels) s = .next (out (row.map fun c => BitVec.ofNat 16
                ((if c.getLsbD 15 then 0xF800 else 0) + (if c.getLsbD 10 then 0x07E0 else 0)
                  + if c.getLsbD 4 then 0x001F else 0))))
          ∧ (p.source = .secure → exec (.appInputRow pixels) s =
              .next (out ((List.range 240).map fun x =>
                Memory.read s.pay.window (0x5000 + (p.base + (i + p.offset) % p.height) * 480 + 2 * x + 1)
                  ++ Memory.read s.pay.window (0x5000 + (p.base + (i + p.offset) % p.height) * 480 + 2 * x))))
          ∧ (p.source = .fill → exec (.appInputRow pixels) s = .next (out fill)))
      ∧ (s.panel.mode = .freeRun → s.panel.frameZero + s.panel.nextSlot * 52 ≤ s.now →
          (p.source ≠ .secure → exec .freeRunRowSlot s = .next (out fill))
            ∧ (p.source = .secure → exec .freeRunRowSlot s =
                .next (out ((List.range 240).map fun x =>
                  Memory.read s.pay.window (0x5000 + (p.base + (i + p.offset) % p.height) * 480 + 2 * x + 1)
                    ++ Memory.read s.pay.window (0x5000 + (p.base + (i + p.offset) % p.height) * 480 + 2 * x)))))

/-- No row that belongs to a PAY-owned pane is composed from APP video: what the panel is sent for it, and everything else the
part does, is the same whatever pixels arrive (R133). -/
def Obligations.PayRowsHideAppVideo : Prop :=
  ∀ (s : State) (k i : Nat) (p : Pane) (pixels pixels' : List Pixel),
    PanelSound s → s.panel.active.panes[k]? = some p → p.ownerPay = true →
    s.panel.nextSlot = ((s.panel.active.panes.take k).map Pane.height).sum + i → i < p.height →
    exec (.appInputRow pixels) s = exec (.appInputRow pixels') s

/-! ## Touch and keys -/

/-- The touch link: a fall of the report-ready line begins a read in IDLE and is remembered during one; an unacknowledged read is
made once more, and then its report is dropped, PAY's INPUT_LOST being counted and flagged; a report is handled contact by
contact, the first two listed, and a new read follows where one is pending or the line is low. What a contact of a report does:
a DOWN begins a contact for PAY while capture is active or the hub is in LOCKDOWN, or in a pane of PAY's, else for the focus
lane where APP is UP and the lane is not fenced, else for no lane; a MOVE and an UP go to the owner decided then, and the UP
ends the contact; a DOWN of an active contact cancels it first. Where a raw contact is placed: the pane whose rows include its
calibrated y, the row within it, and the store line shown there, in a SECURE pane alone (R138, R139, R142, R143, R144). -/
def Obligations.TouchRouted : Prop :=
  (∀ (s : State) (report : List RawContact) (low : Bool),
     (s.inReset = false → s.touch.link = .idle →
         exec .reportReadyFall s = .next { s with touch := { s.touch with link := .reading } })
       ∧ (s.inReset = false → s.touch.link ≠ .idle →
           exec .reportReadyFall s = .next { s with touch := { s.touch with readPending := true } })
       ∧ (s.touch.link = .reading → exec (.touchReadCompletion none low) s =
           .next { s with touch := { s.touch with link := .retrying } })
       ∧ (s.touch.link = .retrying → ∃ t : State,
           t = (s.updLane .pay fun r => { r with inputLost := min (r.inputLost + 1) 65535 }).raise .pay .inputLost
             ∧ exec (.touchReadCompletion none low) s = .next { t with touch := { s.touch with
                 link := if s.touch.readPending || low then .reading else .idle, readPending := false } })
       ∧ (s.touch.link ≠ .idle → ∃ t : State,
           t = (report.take 2).foldl (fun q c => if h : c.id < 2 then
               q.touchContact ⟨c.id, h⟩ c.phase (s.placementOf c.x c.y) else q) s
             ∧ exec (.touchReadCompletion (some report) low) s = .next { t with touch := { t.touch with
                 link := if s.touch.readPending || low then .reading else .idle, readPending := false } }))
    ∧ (∀ (s : State) (i : Fin 2) (p : Placement) (own : Option Lane),
         own = (if s.capture = true ∨ s.hub.mode = .lockdown
             ∨ (∃ q, s.panel.active.panes[p.pane]? = some q ∧ q.ownerPay = true) then some .pay
           else if s.app.status = .up ∧ (s.lane (.app s.touch.focus)).fenced = false then some (.app s.touch.focus) else none) →
         ∀ (tell : State → Option Lane → TouchPhase → Placement → State),
           (∀ q phase place, tell q none phase place = q) →
           (∀ q l phase place, tell q (some l) phase place = q.placeEvent l (.touch i phase place)) →
           (s.contact i = none → s.touchContact i .down p = (tell s own .down p).setContact i (some ⟨own, p⟩))
             ∧ (∀ phase, s.contact i = none → phase ≠ .down → s.touchContact i phase p = s)
             ∧ ∀ c : Contact, s.contact i = some c →
                 s.touchContact i .move p = (tell s c.owner .move p).setContact i (some ⟨c.owner, p⟩)
                   ∧ s.touchContact i .up p = (tell s c.owner .up p).setContact i none
                   ∧ s.touchContact i .down p =
                       (tell (tell s c.owner .cancel c.place) own .down p).setContact i (some ⟨own, p⟩)
                   ∧ s.touchContact i .other p = s)
    ∧ ∀ (s : State) (rawX rawY k i : Nat) (p : Pane), s.panel.active.panes[k]? = some p →
        s.touch.calibration.y rawX rawY = ((s.panel.active.panes.take k).map Pane.height).sum + i → i < p.height →
        s.placementOf rawX rawY =
          { x := s.touch.calibration.x rawX rawY
            y := s.touch.calibration.y rawX rawY
            pane := k
            row := i
            storeLine := if p.source = .secure then p.base + (i + p.offset) % p.height else 0
            stored := decide (p.source = .secure) }

/-- A raw contact is calibrated by swap, clamp, scale with halves rounded up, and flip; every calibrated coordinate lies within
0-239 in x and 0-319 in y (R141). -/
def Obligations.CalibratedCoordinates : Prop :=
  ∀ (c : Calibration) (rawX rawY a b : Nat), c.xmin < c.xmax → c.ymin < c.ymax →
    a = max c.xmin (min (if c.swap then rawY else rawX) c.xmax) →
    b = max c.ymin (min (if c.swap then rawX else rawY) c.ymax) →
    (c.flipX = false → c.x rawX rawY = ((a - c.xmin) * 478 + (c.xmax - c.xmin)) / (2 * (c.xmax - c.xmin)))
      ∧ (c.flipX = true → c.x rawX rawY = 239 - ((a - c.xmin) * 478 + (c.xmax - c.xmin)) / (2 * (c.xmax - c.xmin)))
      ∧ (c.flipY = false → c.y rawX rawY = ((b - c.ymin) * 638 + (c.ymax - c.ymin)) / (2 * (c.ymax - c.ymin)))
      ∧ (c.flipY = true → c.y rawX rawY = 319 - ((b - c.ymin) * 638 + (c.ymax - c.ymin)) / (2 * (c.ymax - c.ymin)))
      ∧ c.x rawX rawY ≤ 239 ∧ c.y rawX rawY ≤ 319

/-- A sensing sets the timer of a key that stands as accepted to 0, raises the others' by 1 ms, and at 20 ms accepts the change: a
press takes an owner by the rule of R143 without the pane test, and sends it a KEY DOWN; a release sends its owner a KEY UP and
clears it. The sensing is the shares of the sixteen keys in key number order, and changes nothing else; where no change is
accepted, the key records alone change (R148, R149). A single key's acceptance is its share of a sensing (notes/assumptions/11
and 13). -/
def Obligations.KeysSensed : Prop :=
  ∀ (s : State) (down : BitVec 16) (own : Option Lane) (tell : State → Option Lane → InputEvent → State)
    (accept share : State → Fin 16 → State), s.inReset = false →
    own = (if s.capture = true ∨ s.hub.mode = .lockdown then some .pay
      else if s.app.status = .up ∧ (s.lane (.app s.touch.focus)).fenced = false then some (.app s.touch.focus) else none) →
    (∀ q e, tell q none e = q) → (∀ q l e, tell q (some l) e = q.placeEvent l e) →
    (∀ q k, accept q k =
      if (q.key k).pressed then (tell q (q.key k).owner (.key k .up)).setKey k ⟨false, 0, none⟩
      else (tell q own (.key k .down)).setKey k ⟨true, 0, own⟩) →
    (∀ q k, share q k =
      if down.getLsbD k.val = (q.key k).pressed then q.setKey k { q.key k with timer := 0 }
      else if (q.key k).timer + 1 < 20 then q.setKey k { q.key k with timer := (q.key k).timer + 1 }
      else accept q k) →
    (∃ t, exec (.keySense down) s = .next t
        ∧ t = (List.finRange 16).foldl share s
        ∧ (∀ k, t.key k =
            if down.getLsbD k.val = (s.key k).pressed then { s.key k with timer := 0 }
            else if (s.key k).timer + 1 < 20 then { s.key k with timer := (s.key k).timer + 1 }
            else ⟨down.getLsbD k.val, 0, if down.getLsbD k.val then own else none⟩)
        ∧ ((∀ k, down.getLsbD k.val ≠ (s.key k).pressed → (s.key k).timer + 1 < 20) → t = { s with keys := t.keys }))
      ∧ ∀ k : Fin 16, (s.key k).timer = 19 → exec (.keyChangeAccepted k) s = .next (accept s k)

/-! ## Lines and notices -/

/-- The filters of the input lines: a filtered change at the third differing sample, a settling's end at the third equal one. A
filtered change sets the mismatch state and, where the line has an owner and the edge matches, raises LINE and, with
deliver-events, gives the owner's first lane a LINE event; a settling's end tells no one; the combiner is evaluated where the
mismatch state changes. A sampling is the shares of the twelve lines in line number order, and changes nothing else; where no
filtered change and no settling's end falls, the line records alone change (R151, R152, R153, R154, R158). One line's change is
its share of a sampling, and its LINE event is placed before the combiner's evaluation (the model's choices: notes/assumptions/11,
13 and 35). -/
def Obligations.LinesSampled : Prop :=
  ∀ (s : State) (levels : BitVec 12) (take tell change settle : State → Fin 12 → Bool → State)
    (filtered share : State → Fin 12 → State) (judge : State → State → Fin 12 → State), s.inReset = false →
    (∀ q n level, take q n level = q.setLine n
      { q.line n with filter := .settled level 0, mismatch := level != (q.line n).entry.expected }) →
    (∀ q n level (e : LineEntry), e = (q.line n).entry →
      (∀ d, e.owner = some d → e.edge = .both ∨ (e.edge = .rise ∧ level = true) ∨ (e.edge = .fall ∧ level = false) →
          tell q n level = if e.deliver then
              (q.raise d .line).placeEvent (match d with | .app => .app 0 | .pay => .pay | .rad => .rad)
                (.line e.tag n level (q.line n).mismatch)
            else q.raise d .line)
        ∧ (e.owner = none ∨ (e.edge = .rise ∧ level = false) ∨ (e.edge = .fall ∧ level = true) → tell q n level = q)) →
    (∀ q r n, judge q r n = if (r.line n).mismatch = (q.line n).mismatch then r else r.evaluate) →
    (∀ q n level, change q n level = judge q (tell (take q n level) n level) n) →
    (∀ q n level, settle q n level = judge q (take q n level) n) →
    (∀ q n, filtered q n = q.setLine n { q.line n with filter := match (q.line n).filter with
      | .off => .off
      | .settling none => .settling (some (levels.getLsbD n.val, 1))
      | .settling (some (candidate, run)) =>
        if levels.getLsbD n.val ≠ candidate then .settling (some (levels.getLsbD n.val, 1))
        else .settling (some (candidate, run + 1))
      | .settled level count => if levels.getLsbD n.val = level then .settled level 0 else .settled level (count + 1) }) →
    (∀ q n, share q n = match (q.line n).filter with
      | .settling (some (candidate, run)) =>
        if levels.getLsbD n.val = candidate ∧ 2 ≤ run then settle q n candidate else filtered q n
      | .settled level count =>
        if levels.getLsbD n.val ≠ level ∧ 2 ≤ count then change q n (levels.getLsbD n.val) else filtered q n
      | .off | .settling none => filtered q n) →
    (∃ t, exec (.lineSample levels) s = .next t
        ∧ t = (List.finRange 12).foldl share s
        ∧ ((∀ n, match (s.line n).filter with
            | .settling (some (candidate, run)) => levels.getLsbD n.val = candidate → run < 2
            | .settled level count => levels.getLsbD n.val ≠ level → count < 2
            | .off | .settling none => True) → t = { s with lines := t.lines })
        ∧ ∀ n : Fin 12, (t.line n).entry = (s.line n).entry
          ∧ (t.line n).filter = (match (s.line n).filter with
              | .off => .off
              | .settling none => .settling (some (levels.getLsbD n.val, 1))
              | .settling (some (candidate, run)) =>
                if levels.getLsbD n.val ≠ candidate then .settling (some (levels.getLsbD n.val, 1))
                else if run < 2 then .settling (some (candidate, run + 1)) else .settled candidate 0
              | .settled level count =>
                if levels.getLsbD n.val = level then .settled level 0
                else if count < 2 then .settled level (count + 1) else .settled (levels.getLsbD n.val) 0)
          ∧ (t.line n).mismatch = (match (s.line n).filter with
              | .settling (some (candidate, run)) =>
                if levels.getLsbD n.val = candidate ∧ 2 ≤ run then candidate != (s.line n).entry.expected
                else (s.line n).mismatch
              | .settled level count =>
                if levels.getLsbD n.val ≠ level ∧ 2 ≤ count then levels.getLsbD n.val != (s.line n).entry.expected
                else (s.line n).mismatch
              | .off | .settling none => (s.line n).mismatch))
      ∧ ∀ (n : Fin 12) (level : Bool),
          ((s.line n).filter = .settled (!level) 2 → exec (.filteredChange n) s = .next (change s n level))
            ∧ ((s.line n).filter = .settling (some (level, 2)) → exec (.settlingEnd n) s = .next (settle s n level))

/-- The event lines of a domain, from its flags and settings: with split on, URGENT while a set flag belongs to an enabled group
of priority URGENT, and ROUTINE while one belongs to an enabled group of priority ROUTINE; with split off, URGENT while a set
flag belongs to any enabled group, and ROUTINE never; both inactive while the domain is HELD and during the part's reset
(R163). -/
def Obligations.EventLines : Prop :=
  ∀ (s : State) (d : Domain) (group : Nat → Nat),
    (∀ b, group b = if b < 8 then 0 else if b < 16 then 1 else b - 14) →
    (∀ b, 25 ≤ b → (s.dom d).flags.getLsbD b = false) →
    (s.inReset = true ∨ (s.dom d).status = .held → s.urgentLine d = false ∧ s.routineLine d = false)
      ∧ (s.inReset = false → (s.dom d).status ≠ .held →
          (s.urgentLine d = true ↔ ∃ b, (s.dom d).flags.getLsbD b = true ∧ (s.dom d).enables.getLsbD (group b) = true
              ∧ ((s.dom d).split = true → (s.dom d).urgent.getLsbD (group b) = true))
            ∧ (s.routineLine d = true ↔ (s.dom d).split = true ∧ ∃ b, (s.dom d).flags.getLsbD b = true
                ∧ (s.dom d).enables.getLsbD (group b) = true ∧ (s.dom d).urgent.getLsbD (group b) = false))

/-! ## What every step keeps -/

/-- A part that stands in reset as the reset left it, but for the windows and the time, still stands so after every step that
leaves it in reset; and no step of it but a power-on reset writes a window. That the units stand at their values after reset until
the reset ends is the model's reading of the reference (notes/assumptions/5; R3, R4, R129, R148, R151, R163). -/
def Obligations.ResetHoldsKept : Prop :=
  Kept ResetHolds
    ∧ ∀ s t : State, ResetHolds s → s.inReset = true → s.pending.head? ≠ some .powerOnReset → step s = .next t →
        ∀ d, t.window d = s.window d

/-- The windows keep their canonical form, and no step writes beyond a window: no payload exceeds 496 bytes, and the windows hold
nothing beyond their sizes (R1, R22, R67). -/
def Obligations.WindowsKept : Prop :=
  Kept fun s => WindowsCanonical s ∧ WindowsBounded s

/-- The active pane table always consists of 1 to 4 panes whose heights sum to 320, no capture pane is owned by APP, a SECURE pane
stays within its band of the store, and the next row slot lies from 0 to 320 (R121, R122, R128, R129, R133). -/
def Obligations.PanelSoundKept : Prop := Kept PanelSound

/-- The combiner output is at every moment what its inputs and settings form, and while the lockdown condition is true, the hub
mode is LOCKDOWN (R99, R158). -/
def Obligations.CombinerAndLockdownKept : Prop :=
  Kept fun s => ResetHolds s ∧ OutputFormed s ∧ LockdownFollows s

/-- In LOCKDOWN the application lanes' FIFOs hold hub replies alone, no FIFO holds a message of theirs, and their exchanges are
FREE or AWAITED with the hub (R39, R74, R92). -/
def Obligations.AppShutOutKept : Prop := Kept AppShutOut

/-- While a capture pane is active or the hub is in LOCKDOWN, no contact and no key belongs to an application lane (R143, R145,
R149). -/
def Obligations.InputsWithheldKept : Prop := Kept InputsWithheld

/-- While the active table holds a capture pane, no command places a TOUCH or KEY event other than CANCEL into the FIFO of an
application lane (R145). -/
def Obligations.CaptureBlocksInput : Prop :=
  ∀ (c : Instr) (s t : State) (x : Fin 8), InputsWithheld s → s.capture = true → exec c s = .next t →
    ∀ place : Entry → Bool, (∀ e, place e = match e with
      | .cell (.touch _ phase _) _ => decide (phase ≠ .cancel)
      | .cell (.key _ action) _ => decide (action ≠ .cancel)
      | .cell (.line _ _ _ _) _ | .message _ | .reply _ | .conclusion _ => false) →
    ((t.lane (.app x)).fifo.filter place).Sublist ((s.lane (.app x)).fifo.filter place)

/-- An output line stands at its rest level whenever its owner domain is not UP, and, if its owner is APP, whenever the hub is in
LOCKDOWN. A domain whose board initialisation runs is WAITING, one with a release pending is HELD, and PAY is never HELD (R19,
R88, R106, R113, R157). -/
def Obligations.LinesRestKept : Prop :=
  Kept fun s => ResetHolds s ∧ DomainsSound s ∧ LinesSafe s

/-- A REQUEST in a board lane's FIFO belongs to an entry in POSTED, and no two bear one tag; a conclusion reference stands in its
requester's FIFO, once, and names an entry in CLOSING (R63, R77, R80, R86). -/
def Obligations.ReferencesSoundKept : Prop :=
  Kept fun s => RequestsPosted s ∧ ConclusionsSound s

/-- The open requests of a lane never exceed its limit: 4 for an application lane, 16 for PAY, 12 for RAD (R42). -/
def Obligations.RequestsBoundedKept : Prop := Kept RequestsBounded

/-- The buffers of domains' messages are distinct, and those charged to a lane never exceed its quota; the reserved buffers of hub
replies are distinct, and together with the outstanding requests they are no more than two, so every completion finds one; and
at most 24 event cells are in use (R57, R60, R94, R95). -/
def Obligations.StorageBoundedKept : Prop :=
  Kept fun s => BuffersBounded s ∧ RepliesBounded s ∧ CellsBounded s

/-- Every route entry's budget level lies between 0 and its burst; counters, tallies and stray access counts stop at the ends of
their ranges, and cursors name slots of their boards; an auto-fenced lane is fenced, and PAY's lane never is (R3, R18, R46, R48,
R49, R51, R68, R117). -/
def Obligations.RangesKept : Prop :=
  Kept fun s => LevelsBounded s ∧ CountsBounded s ∧ FencesSound s
end

