-- ==== Sys2Proof/Laws/State.lean ====
section
/-! SUPPORT. One lemma per field for each update of State: what the primitive operations of Machine/Ops.lean read after a
write. A state read back through a record update is closed by `rfl`; the lemmas let `simp` do so without unfolding a record. -/

namespace Sys2Proof.Machine

/-! ## Codes of lanes -/

/-- A lane is the lane of its code. -/
@[simp] theorem laneAt_code (l : Lane) : laneAt l.code = l := by
  rcases l with ⟨x, hx⟩ | _ | _
  · simp [laneAt, Lane.code, hx]
  · rfl
  · rfl

/-- Two lanes of one code are one lane. -/
theorem lane_code_inj {l l' : Lane} (h : l.code = l'.code) : l = l' := by
  rw [← laneAt_code l, ← laneAt_code l', h]

/-- The code of a lane is the code that names it. -/
@[simp] theorem code_laneAt (i : Fin 10) : (laneAt i).code = i := by
  revert i; decide

/-! ## Reads through a record update -/

@[simp] theorem State.dom_mk (s : State) (now' : Nat) (inReset' : Bool) (lanes' : Vector LaneState 10) (scanner' : Scanner) (exchanges' : Vector ExchangeEntry 48) (routes' : List Route) (hub' : Hub) (panel' : Panel) (touch' : Touch) (keys' : Vector Key 16) (lines' : Vector Line 12) (combiner' : Combiner) (pending' : List Instr) (d : Domain) :
    State.dom ⟨now', inReset', s.app, s.pay, s.rad, lanes', scanner', exchanges', routes', hub', panel', touch', keys', lines', combiner', pending'⟩ d = s.dom d := by
  cases d <;> rfl

@[simp] theorem State.lane_mk (s : State) (app' pay' rad' : DomainRecord) (now' : Nat) (inReset' : Bool) (scanner' : Scanner) (exchanges' : Vector ExchangeEntry 48) (routes' : List Route) (hub' : Hub) (panel' : Panel) (touch' : Touch) (keys' : Vector Key 16) (lines' : Vector Line 12) (combiner' : Combiner) (pending' : List Instr) (l : Lane) :
    State.lane ⟨now', inReset', app', pay', rad', s.lanes, scanner', exchanges', routes', hub', panel', touch', keys', lines', combiner', pending'⟩ l = s.lane l := rfl

@[simp] theorem State.entry_mk (s : State) (app' pay' rad' : DomainRecord) (now' : Nat) (inReset' : Bool) (lanes' : Vector LaneState 10) (scanner' : Scanner) (routes' : List Route) (hub' : Hub) (panel' : Panel) (touch' : Touch) (keys' : Vector Key 16) (lines' : Vector Line 12) (combiner' : Combiner) (pending' : List Instr) (i : Fin 48) :
    State.entry ⟨now', inReset', app', pay', rad', lanes', scanner', s.exchanges, routes', hub', panel', touch', keys', lines', combiner', pending'⟩ i = s.entry i := rfl

@[simp] theorem State.contact_mk (s : State) (app' pay' rad' : DomainRecord) (now' : Nat) (inReset' : Bool) (lanes' : Vector LaneState 10) (scanner' : Scanner) (exchanges' : Vector ExchangeEntry 48) (routes' : List Route) (hub' : Hub) (panel' : Panel) (keys' : Vector Key 16) (lines' : Vector Line 12) (combiner' : Combiner) (pending' : List Instr) (i : Fin 2) :
    State.contact ⟨now', inReset', app', pay', rad', lanes', scanner', exchanges', routes', hub', panel', s.touch, keys', lines', combiner', pending'⟩ i = s.contact i := rfl

@[simp] theorem State.key_mk (s : State) (app' pay' rad' : DomainRecord) (now' : Nat) (inReset' : Bool) (lanes' : Vector LaneState 10) (scanner' : Scanner) (exchanges' : Vector ExchangeEntry 48) (routes' : List Route) (hub' : Hub) (panel' : Panel) (touch' : Touch) (lines' : Vector Line 12) (combiner' : Combiner) (pending' : List Instr) (k : Fin 16) :
    State.key ⟨now', inReset', app', pay', rad', lanes', scanner', exchanges', routes', hub', panel', touch', s.keys, lines', combiner', pending'⟩ k = s.key k := rfl

@[simp] theorem State.line_mk (s : State) (app' pay' rad' : DomainRecord) (now' : Nat) (inReset' : Bool) (lanes' : Vector LaneState 10) (scanner' : Scanner) (exchanges' : Vector ExchangeEntry 48) (routes' : List Route) (hub' : Hub) (panel' : Panel) (touch' : Touch) (keys' : Vector Key 16) (combiner' : Combiner) (pending' : List Instr) (n : Fin 12) :
    State.line ⟨now', inReset', app', pay', rad', lanes', scanner', exchanges', routes', hub', panel', touch', keys', s.lines, combiner', pending'⟩ n = s.line n := rfl

@[simp] theorem State.contact_mk_touch (s : State) (app' pay' rad' : DomainRecord) (now' : Nat) (inReset' : Bool) (lanes' : Vector LaneState 10) (scanner' : Scanner) (exchanges' : Vector ExchangeEntry 48) (routes' : List Route) (hub' : Hub) (panel' : Panel) (keys' : Vector Key 16) (lines' : Vector Line 12) (combiner' : Combiner) (pending' : List Instr)
    (link : LinkState) (readPending : Bool) (calibration : Calibration) (focus : Fin 8) (i : Fin 2) :
    State.contact ⟨now', inReset', app', pay', rad', lanes', scanner', exchanges', routes', hub', panel', ⟨link, readPending, calibration, focus, s.touch.contacts⟩, keys', lines', combiner', pending'⟩ i = s.contact i := rfl

/-! ## The record of a domain -/

theorem State.dom_setDom (s : State) (d d' : Domain) (r : DomainRecord) :
    (s.setDom d r).dom d' = if d' = d then r else s.dom d' := by
  cases d <;> cases d' <;> simp [State.setDom, State.dom]

theorem State.dom_updDom (s : State) (d d' : Domain) (f : DomainRecord → DomainRecord) :
    (s.updDom d f).dom d' = if d' = d then f (s.dom d) else s.dom d' := by
  simp [State.updDom, State.dom_setDom]

@[simp] theorem State.dom_updDom_same (s : State) (d : Domain) (f : DomainRecord → DomainRecord) :
    (s.updDom d f).dom d = f (s.dom d) := by
  simp [State.dom_updDom]

@[simp] theorem State.dom_updDom_ne (s : State) {d d' : Domain} (h : d' ≠ d) (f : DomainRecord → DomainRecord) :
    (s.updDom d f).dom d' = s.dom d' := by
  simp [State.dom_updDom, h]

/-! A field that the change of a record keeps stands in every record. -/

@[simp] theorem State.updDom_window (s : State) (d d' : Domain) (f : DomainRecord → DomainRecord)
    (h : ∀ r, (f r).window = r.window) : ((s.updDom d f).dom d').window = (s.dom d').window := by
  by_cases e : d' = d <;> simp [e, h]

@[simp] theorem State.updDom_status (s : State) (d d' : Domain) (f : DomainRecord → DomainRecord)
    (h : ∀ r, (f r).status = r.status) : ((s.updDom d f).dom d').status = (s.dom d').status := by
  by_cases e : d' = d <;> simp [e, h]

@[simp] theorem State.updDom_initialising (s : State) (d d' : Domain) (f : DomainRecord → DomainRecord)
    (h : ∀ r, (f r).initialising = r.initialising) : ((s.updDom d f).dom d').initialising = (s.dom d').initialising := by
  by_cases e : d' = d <;> simp [e, h]

@[simp] theorem State.updDom_remembered (s : State) (d d' : Domain) (f : DomainRecord → DomainRecord)
    (h : ∀ r, (f r).remembered = r.remembered) : ((s.updDom d f).dom d').remembered = (s.dom d').remembered := by
  by_cases e : d' = d <;> simp [e, h]

@[simp] theorem State.updDom_stray (s : State) (d d' : Domain) (f : DomainRecord → DomainRecord)
    (h : ∀ r, (f r).stray = r.stray) : ((s.updDom d f).dom d').stray = (s.dom d').stray := by
  by_cases e : d' = d <;> simp [e, h]

@[simp] theorem State.updDom_release (s : State) (d d' : Domain) (f : DomainRecord → DomainRecord)
    (h : ∀ r, (f r).release = r.release) : ((s.updDom d f).dom d').release = (s.dom d').release := by
  by_cases e : d' = d <;> simp [e, h]

@[simp] theorem State.updDom_flags (s : State) (d d' : Domain) (f : DomainRecord → DomainRecord)
    (h : ∀ r, (f r).flags = r.flags) : ((s.updDom d f).dom d').flags = (s.dom d').flags := by
  by_cases e : d' = d <;> simp [e, h]

@[simp] theorem State.updDom_enables (s : State) (d d' : Domain) (f : DomainRecord → DomainRecord)
    (h : ∀ r, (f r).enables = r.enables) : ((s.updDom d f).dom d').enables = (s.dom d').enables := by
  by_cases e : d' = d <;> simp [e, h]

@[simp] theorem State.updDom_urgent (s : State) (d d' : Domain) (f : DomainRecord → DomainRecord)
    (h : ∀ r, (f r).urgent = r.urgent) : ((s.updDom d f).dom d').urgent = (s.dom d').urgent := by
  by_cases e : d' = d <;> simp [e, h]

@[simp] theorem State.updDom_split (s : State) (d d' : Domain) (f : DomainRecord → DomainRecord)
    (h : ∀ r, (f r).split = r.split) : ((s.updDom d f).dom d').split = (s.dom d').split := by
  by_cases e : d' = d <;> simp [e, h]

@[simp] theorem State.updDom_readData (s : State) (d d' : Domain) (f : DomainRecord → DomainRecord)
    (h : ∀ r, (f r).readData = r.readData) : ((s.updDom d f).dom d').readData = (s.dom d').readData := by
  by_cases e : d' = d <;> simp [e, h]

@[simp] theorem State.setDom_now (s : State) (d : Domain) (r : DomainRecord) : (s.setDom d r).now = s.now := by cases d <;> rfl

@[simp] theorem State.setDom_inReset (s : State) (d : Domain) (r : DomainRecord) : (s.setDom d r).inReset = s.inReset := by cases d <;> rfl

@[simp] theorem State.setDom_lanes (s : State) (d : Domain) (r : DomainRecord) : (s.setDom d r).lanes = s.lanes := by cases d <;> rfl

@[simp] theorem State.setDom_scanner (s : State) (d : Domain) (r : DomainRecord) : (s.setDom d r).scanner = s.scanner := by cases d <;> rfl

@[simp] theorem State.setDom_exchanges (s : State) (d : Domain) (r : DomainRecord) : (s.setDom d r).exchanges = s.exchanges := by cases d <;> rfl

@[simp] theorem State.setDom_routes (s : State) (d : Domain) (r : DomainRecord) : (s.setDom d r).routes = s.routes := by cases d <;> rfl

@[simp] theorem State.setDom_hub (s : State) (d : Domain) (r : DomainRecord) : (s.setDom d r).hub = s.hub := by cases d <;> rfl

@[simp] theorem State.setDom_panel (s : State) (d : Domain) (r : DomainRecord) : (s.setDom d r).panel = s.panel := by cases d <;> rfl

@[simp] theorem State.setDom_touch (s : State) (d : Domain) (r : DomainRecord) : (s.setDom d r).touch = s.touch := by cases d <;> rfl

@[simp] theorem State.setDom_keys (s : State) (d : Domain) (r : DomainRecord) : (s.setDom d r).keys = s.keys := by cases d <;> rfl

@[simp] theorem State.setDom_lines (s : State) (d : Domain) (r : DomainRecord) : (s.setDom d r).lines = s.lines := by cases d <;> rfl

@[simp] theorem State.setDom_combiner (s : State) (d : Domain) (r : DomainRecord) : (s.setDom d r).combiner = s.combiner := by cases d <;> rfl

@[simp] theorem State.setDom_pending (s : State) (d : Domain) (r : DomainRecord) : (s.setDom d r).pending = s.pending := by cases d <;> rfl

@[simp] theorem State.setDom_lane (s : State) (d : Domain) (r : DomainRecord) (l' : Lane) : (s.setDom d r).lane l' = s.lane l' := by cases d <;> rfl

@[simp] theorem State.setDom_entry (s : State) (d : Domain) (r : DomainRecord) (j : Fin 48) : (s.setDom d r).entry j = s.entry j := by cases d <;> rfl

@[simp] theorem State.setDom_contact (s : State) (d : Domain) (r : DomainRecord) (j : Fin 2) : (s.setDom d r).contact j = s.contact j := by cases d <;> rfl

@[simp] theorem State.setDom_key (s : State) (d : Domain) (r : DomainRecord) (k' : Fin 16) : (s.setDom d r).key k' = s.key k' := by cases d <;> rfl

@[simp] theorem State.setDom_line (s : State) (d : Domain) (r : DomainRecord) (n' : Fin 12) : (s.setDom d r).line n' = s.line n' := by cases d <;> rfl

@[simp] theorem State.updDom_now (s : State) (d : Domain) (f : DomainRecord → DomainRecord) : (s.updDom d f).now = s.now := by cases d <;> rfl

@[simp] theorem State.updDom_inReset (s : State) (d : Domain) (f : DomainRecord → DomainRecord) : (s.updDom d f).inReset = s.inReset := by cases d <;> rfl

@[simp] theorem State.updDom_lanes (s : State) (d : Domain) (f : DomainRecord → DomainRecord) : (s.updDom d f).lanes = s.lanes := by cases d <;> rfl

@[simp] theorem State.updDom_scanner (s : State) (d : Domain) (f : DomainRecord → DomainRecord) : (s.updDom d f).scanner = s.scanner := by cases d <;> rfl

@[simp] theorem State.updDom_exchanges (s : State) (d : Domain) (f : DomainRecord → DomainRecord) : (s.updDom d f).exchanges = s.exchanges := by cases d <;> rfl

@[simp] theorem State.updDom_routes (s : State) (d : Domain) (f : DomainRecord → DomainRecord) : (s.updDom d f).routes = s.routes := by cases d <;> rfl

@[simp] theorem State.updDom_hub (s : State) (d : Domain) (f : DomainRecord → DomainRecord) : (s.updDom d f).hub = s.hub := by cases d <;> rfl

@[simp] theorem State.updDom_panel (s : State) (d : Domain) (f : DomainRecord → DomainRecord) : (s.updDom d f).panel = s.panel := by cases d <;> rfl

@[simp] theorem State.updDom_touch (s : State) (d : Domain) (f : DomainRecord → DomainRecord) : (s.updDom d f).touch = s.touch := by cases d <;> rfl

@[simp] theorem State.updDom_keys (s : State) (d : Domain) (f : DomainRecord → DomainRecord) : (s.updDom d f).keys = s.keys := by cases d <;> rfl

@[simp] theorem State.updDom_lines (s : State) (d : Domain) (f : DomainRecord → DomainRecord) : (s.updDom d f).lines = s.lines := by cases d <;> rfl

@[simp] theorem State.updDom_combiner (s : State) (d : Domain) (f : DomainRecord → DomainRecord) : (s.updDom d f).combiner = s.combiner := by cases d <;> rfl

@[simp] theorem State.updDom_pending (s : State) (d : Domain) (f : DomainRecord → DomainRecord) : (s.updDom d f).pending = s.pending := by cases d <;> rfl

@[simp] theorem State.updDom_lane (s : State) (d : Domain) (f : DomainRecord → DomainRecord) (l' : Lane) : (s.updDom d f).lane l' = s.lane l' := by cases d <;> rfl

@[simp] theorem State.updDom_entry (s : State) (d : Domain) (f : DomainRecord → DomainRecord) (j : Fin 48) : (s.updDom d f).entry j = s.entry j := by cases d <;> rfl

@[simp] theorem State.updDom_contact (s : State) (d : Domain) (f : DomainRecord → DomainRecord) (j : Fin 2) : (s.updDom d f).contact j = s.contact j := by cases d <;> rfl

@[simp] theorem State.updDom_key (s : State) (d : Domain) (f : DomainRecord → DomainRecord) (k' : Fin 16) : (s.updDom d f).key k' = s.key k' := by cases d <;> rfl

@[simp] theorem State.updDom_line (s : State) (d : Domain) (f : DomainRecord → DomainRecord) (n' : Fin 12) : (s.updDom d f).line n' = s.line n' := by cases d <;> rfl

/-! ## The record of a lane -/

theorem State.lane_setLane (s : State) (l l' : Lane) (r : LaneState) :
    (s.setLane l r).lane l' = if l' = l then r else s.lane l' := by
  by_cases h : l' = l
  · subst h; simp [State.setLane, State.lane]
  · have hc : (l.code : Nat) ≠ l'.code := fun e => h (lane_code_inj (Fin.ext e)).symm
    simp [State.setLane, State.lane, h, hc]

theorem State.lane_updLane (s : State) (l l' : Lane) (f : LaneState → LaneState) :
    (s.updLane l f).lane l' = if l' = l then f (s.lane l) else s.lane l' := by
  simp [State.updLane, State.lane_setLane]

@[simp] theorem State.lane_updLane_same (s : State) (l : Lane) (f : LaneState → LaneState) :
    (s.updLane l f).lane l = f (s.lane l) := by
  simp [State.lane_updLane]

@[simp] theorem State.lane_updLane_ne (s : State) {l l' : Lane} (h : l' ≠ l) (f : LaneState → LaneState) :
    (s.updLane l f).lane l' = s.lane l' := by
  simp [State.lane_updLane, h]

@[simp] theorem State.updLane_takeCursor (s : State) (l l' : Lane) (f : LaneState → LaneState)
    (h : ∀ r, (f r).takeCursor = r.takeCursor) : ((s.updLane l f).lane l').takeCursor = (s.lane l').takeCursor := by
  by_cases e : l' = l <;> simp [e, h]

@[simp] theorem State.updLane_scanWanted (s : State) (l l' : Lane) (f : LaneState → LaneState)
    (h : ∀ r, (f r).scanWanted = r.scanWanted) : ((s.updLane l f).lane l').scanWanted = (s.lane l').scanWanted := by
  by_cases e : l' = l <;> simp [e, h]

@[simp] theorem State.updLane_bufferWait (s : State) (l l' : Lane) (f : LaneState → LaneState)
    (h : ∀ r, (f r).bufferWait = r.bufferWait) : ((s.updLane l f).lane l').bufferWait = (s.lane l').bufferWait := by
  by_cases e : l' = l <;> simp [e, h]

@[simp] theorem State.updLane_putCursor (s : State) (l l' : Lane) (f : LaneState → LaneState)
    (h : ∀ r, (f r).putCursor = r.putCursor) : ((s.updLane l f).lane l').putCursor = (s.lane l').putCursor := by
  by_cases e : l' = l <;> simp [e, h]

@[simp] theorem State.updLane_deliveryNumber (s : State) (l l' : Lane) (f : LaneState → LaneState)
    (h : ∀ r, (f r).deliveryNumber = r.deliveryNumber) : ((s.updLane l f).lane l').deliveryNumber = (s.lane l').deliveryNumber := by
  by_cases e : l' = l <;> simp [e, h]

@[simp] theorem State.updLane_roomWait (s : State) (l l' : Lane) (f : LaneState → LaneState)
    (h : ∀ r, (f r).roomWait = r.roomWait) : ((s.updLane l f).lane l').roomWait = (s.lane l').roomWait := by
  by_cases e : l' = l <;> simp [e, h]

@[simp] theorem State.updLane_gapPending (s : State) (l l' : Lane) (f : LaneState → LaneState)
    (h : ∀ r, (f r).gapPending = r.gapPending) : ((s.updLane l f).lane l').gapPending = (s.lane l').gapPending := by
  by_cases e : l' = l <;> simp [e, h]

@[simp] theorem State.updLane_fifo (s : State) (l l' : Lane) (f : LaneState → LaneState)
    (h : ∀ r, (f r).fifo = r.fifo) : ((s.updLane l f).lane l').fifo = (s.lane l').fifo := by
  by_cases e : l' = l <;> simp [e, h]

@[simp] theorem State.updLane_fenced (s : State) (l l' : Lane) (f : LaneState → LaneState)
    (h : ∀ r, (f r).fenced = r.fenced) : ((s.updLane l f).lane l').fenced = (s.lane l').fenced := by
  by_cases e : l' = l <;> simp [e, h]

@[simp] theorem State.updLane_autoFenced (s : State) (l l' : Lane) (f : LaneState → LaneState)
    (h : ∀ r, (f r).autoFenced = r.autoFenced) : ((s.updLane l f).lane l').autoFenced = (s.lane l').autoFenced := by
  by_cases e : l' = l <;> simp [e, h]

@[simp] theorem State.updLane_tally (s : State) (l l' : Lane) (f : LaneState → LaneState)
    (h : ∀ r, (f r).tally = r.tally) : ((s.updLane l f).lane l').tally = (s.lane l').tally := by
  by_cases e : l' = l <;> simp [e, h]

@[simp] theorem State.updLane_limit (s : State) (l l' : Lane) (f : LaneState → LaneState)
    (h : ∀ r, (f r).limit = r.limit) : ((s.updLane l f).lane l').limit = (s.lane l').limit := by
  by_cases e : l' = l <;> simp [e, h]

@[simp] theorem State.updLane_admitted (s : State) (l l' : Lane) (f : LaneState → LaneState)
    (h : ∀ r, (f r).admitted = r.admitted) : ((s.updLane l f).lane l').admitted = (s.lane l').admitted := by
  by_cases e : l' = l <;> simp [e, h]

@[simp] theorem State.updLane_refused (s : State) (l l' : Lane) (f : LaneState → LaneState)
    (h : ∀ r, (f r).refused = r.refused) : ((s.updLane l f).lane l').refused = (s.lane l').refused := by
  by_cases e : l' = l <;> simp [e, h]

@[simp] theorem State.updLane_violations (s : State) (l l' : Lane) (f : LaneState → LaneState)
    (h : ∀ r, (f r).violations = r.violations) : ((s.updLane l f).lane l').violations = (s.lane l').violations := by
  by_cases e : l' = l <;> simp [e, h]

@[simp] theorem State.updLane_dropped (s : State) (l l' : Lane) (f : LaneState → LaneState)
    (h : ∀ r, (f r).dropped = r.dropped) : ((s.updLane l f).lane l').dropped = (s.lane l').dropped := by
  by_cases e : l' = l <;> simp [e, h]

@[simp] theorem State.updLane_inputLost (s : State) (l l' : Lane) (f : LaneState → LaneState)
    (h : ∀ r, (f r).inputLost = r.inputLost) : ((s.updLane l f).lane l').inputLost = (s.lane l').inputLost := by
  by_cases e : l' = l <;> simp [e, h]

@[simp] theorem State.lane_updLanes (s : State) (f : Lane → LaneState → LaneState) (l : Lane) :
    (s.updLanes f).lane l = f l (s.lane l) := by
  simp [State.updLanes, State.lane]

@[simp] theorem State.setLane_now (s : State) (l : Lane) (r : LaneState) : (s.setLane l r).now = s.now := rfl

@[simp] theorem State.setLane_inReset (s : State) (l : Lane) (r : LaneState) : (s.setLane l r).inReset = s.inReset := rfl

@[simp] theorem State.setLane_app (s : State) (l : Lane) (r : LaneState) : (s.setLane l r).app = s.app := rfl

@[simp] theorem State.setLane_pay (s : State) (l : Lane) (r : LaneState) : (s.setLane l r).pay = s.pay := rfl

@[simp] theorem State.setLane_rad (s : State) (l : Lane) (r : LaneState) : (s.setLane l r).rad = s.rad := rfl

@[simp] theorem State.setLane_scanner (s : State) (l : Lane) (r : LaneState) : (s.setLane l r).scanner = s.scanner := rfl

@[simp] theorem State.setLane_exchanges (s : State) (l : Lane) (r : LaneState) : (s.setLane l r).exchanges = s.exchanges := rfl

@[simp] theorem State.setLane_routes (s : State) (l : Lane) (r : LaneState) : (s.setLane l r).routes = s.routes := rfl

@[simp] theorem State.setLane_hub (s : State) (l : Lane) (r : LaneState) : (s.setLane l r).hub = s.hub := rfl

@[simp] theorem State.setLane_panel (s : State) (l : Lane) (r : LaneState) : (s.setLane l r).panel = s.panel := rfl

@[simp] theorem State.setLane_touch (s : State) (l : Lane) (r : LaneState) : (s.setLane l r).touch = s.touch := rfl

@[simp] theorem State.setLane_keys (s : State) (l : Lane) (r : LaneState) : (s.setLane l r).keys = s.keys := rfl

@[simp] theorem State.setLane_lines (s : State) (l : Lane) (r : LaneState) : (s.setLane l r).lines = s.lines := rfl

@[simp] theorem State.setLane_combiner (s : State) (l : Lane) (r : LaneState) : (s.setLane l r).combiner = s.combiner := rfl

@[simp] theorem State.setLane_pending (s : State) (l : Lane) (r : LaneState) : (s.setLane l r).pending = s.pending := rfl

@[simp] theorem State.setLane_entry (s : State) (l : Lane) (r : LaneState) (j : Fin 48) : (s.setLane l r).entry j = s.entry j := rfl

@[simp] theorem State.setLane_contact (s : State) (l : Lane) (r : LaneState) (j : Fin 2) : (s.setLane l r).contact j = s.contact j := rfl

@[simp] theorem State.setLane_key (s : State) (l : Lane) (r : LaneState) (k' : Fin 16) : (s.setLane l r).key k' = s.key k' := rfl

@[simp] theorem State.setLane_line (s : State) (l : Lane) (r : LaneState) (n' : Fin 12) : (s.setLane l r).line n' = s.line n' := rfl

@[simp] theorem State.setLane_dom (s : State) (l : Lane) (r : LaneState) (d' : Domain) : (s.setLane l r).dom d' = s.dom d' := by cases d' <;> rfl

@[simp] theorem State.updLane_now (s : State) (l : Lane) (f : LaneState → LaneState) : (s.updLane l f).now = s.now := rfl

@[simp] theorem State.updLane_inReset (s : State) (l : Lane) (f : LaneState → LaneState) : (s.updLane l f).inReset = s.inReset := rfl

@[simp] theorem State.updLane_app (s : State) (l : Lane) (f : LaneState → LaneState) : (s.updLane l f).app = s.app := rfl

@[simp] theorem State.updLane_pay (s : State) (l : Lane) (f : LaneState → LaneState) : (s.updLane l f).pay = s.pay := rfl

@[simp] theorem State.updLane_rad (s : State) (l : Lane) (f : LaneState → LaneState) : (s.updLane l f).rad = s.rad := rfl

@[simp] theorem State.updLane_scanner (s : State) (l : Lane) (f : LaneState → LaneState) : (s.updLane l f).scanner = s.scanner := rfl

@[simp] theorem State.updLane_exchanges (s : State) (l : Lane) (f : LaneState → LaneState) : (s.updLane l f).exchanges = s.exchanges := rfl

@[simp] theorem State.updLane_routes (s : State) (l : Lane) (f : LaneState → LaneState) : (s.updLane l f).routes = s.routes := rfl

@[simp] theorem State.updLane_hub (s : State) (l : Lane) (f : LaneState → LaneState) : (s.updLane l f).hub = s.hub := rfl

@[simp] theorem State.updLane_panel (s : State) (l : Lane) (f : LaneState → LaneState) : (s.updLane l f).panel = s.panel := rfl

@[simp] theorem State.updLane_touch (s : State) (l : Lane) (f : LaneState → LaneState) : (s.updLane l f).touch = s.touch := rfl

@[simp] theorem State.updLane_keys (s : State) (l : Lane) (f : LaneState → LaneState) : (s.updLane l f).keys = s.keys := rfl

@[simp] theorem State.updLane_lines (s : State) (l : Lane) (f : LaneState → LaneState) : (s.updLane l f).lines = s.lines := rfl

@[simp] theorem State.updLane_combiner (s : State) (l : Lane) (f : LaneState → LaneState) : (s.updLane l f).combiner = s.combiner := rfl

@[simp] theorem State.updLane_pending (s : State) (l : Lane) (f : LaneState → LaneState) : (s.updLane l f).pending = s.pending := rfl

@[simp] theorem State.updLane_entry (s : State) (l : Lane) (f : LaneState → LaneState) (j : Fin 48) : (s.updLane l f).entry j = s.entry j := rfl

@[simp] theorem State.updLane_contact (s : State) (l : Lane) (f : LaneState → LaneState) (j : Fin 2) : (s.updLane l f).contact j = s.contact j := rfl

@[simp] theorem State.updLane_key (s : State) (l : Lane) (f : LaneState → LaneState) (k' : Fin 16) : (s.updLane l f).key k' = s.key k' := rfl

@[simp] theorem State.updLane_line (s : State) (l : Lane) (f : LaneState → LaneState) (n' : Fin 12) : (s.updLane l f).line n' = s.line n' := rfl

@[simp] theorem State.updLane_dom (s : State) (l : Lane) (f : LaneState → LaneState) (d' : Domain) : (s.updLane l f).dom d' = s.dom d' := by cases d' <;> rfl

@[simp] theorem State.updLanes_now (s : State) (f : Lane → LaneState → LaneState) : (s.updLanes f).now = s.now := rfl

@[simp] theorem State.updLanes_inReset (s : State) (f : Lane → LaneState → LaneState) : (s.updLanes f).inReset = s.inReset := rfl

@[simp] theorem State.updLanes_app (s : State) (f : Lane → LaneState → LaneState) : (s.updLanes f).app = s.app := rfl

@[simp] theorem State.updLanes_pay (s : State) (f : Lane → LaneState → LaneState) : (s.updLanes f).pay = s.pay := rfl

@[simp] theorem State.updLanes_rad (s : State) (f : Lane → LaneState → LaneState) : (s.updLanes f).rad = s.rad := rfl

@[simp] theorem State.updLanes_scanner (s : State) (f : Lane → LaneState → LaneState) : (s.updLanes f).scanner = s.scanner := rfl

@[simp] theorem State.updLanes_exchanges (s : State) (f : Lane → LaneState → LaneState) : (s.updLanes f).exchanges = s.exchanges := rfl

@[simp] theorem State.updLanes_routes (s : State) (f : Lane → LaneState → LaneState) : (s.updLanes f).routes = s.routes := rfl

@[simp] theorem State.updLanes_hub (s : State) (f : Lane → LaneState → LaneState) : (s.updLanes f).hub = s.hub := rfl

@[simp] theorem State.updLanes_panel (s : State) (f : Lane → LaneState → LaneState) : (s.updLanes f).panel = s.panel := rfl

@[simp] theorem State.updLanes_touch (s : State) (f : Lane → LaneState → LaneState) : (s.updLanes f).touch = s.touch := rfl

@[simp] theorem State.updLanes_keys (s : State) (f : Lane → LaneState → LaneState) : (s.updLanes f).keys = s.keys := rfl

@[simp] theorem State.updLanes_lines (s : State) (f : Lane → LaneState → LaneState) : (s.updLanes f).lines = s.lines := rfl

@[simp] theorem State.updLanes_combiner (s : State) (f : Lane → LaneState → LaneState) : (s.updLanes f).combiner = s.combiner := rfl

@[simp] theorem State.updLanes_pending (s : State) (f : Lane → LaneState → LaneState) : (s.updLanes f).pending = s.pending := rfl

@[simp] theorem State.updLanes_entry (s : State) (f : Lane → LaneState → LaneState) (j : Fin 48) : (s.updLanes f).entry j = s.entry j := rfl

@[simp] theorem State.updLanes_contact (s : State) (f : Lane → LaneState → LaneState) (j : Fin 2) : (s.updLanes f).contact j = s.contact j := rfl

@[simp] theorem State.updLanes_key (s : State) (f : Lane → LaneState → LaneState) (k' : Fin 16) : (s.updLanes f).key k' = s.key k' := rfl

@[simp] theorem State.updLanes_line (s : State) (f : Lane → LaneState → LaneState) (n' : Fin 12) : (s.updLanes f).line n' = s.line n' := rfl

@[simp] theorem State.updLanes_dom (s : State) (f : Lane → LaneState → LaneState) (d' : Domain) : (s.updLanes f).dom d' = s.dom d' := by cases d' <;> rfl

/-! ## Exchange entries -/

@[simp] theorem State.entry_setEntry (s : State) (i j : Fin 48) (e : ExchangeEntry) :
    (s.setEntry i e).entry j = if j = i then e else s.entry j := by
  by_cases h : j = i
  · subst h; simp [State.setEntry, State.entry]
  · have hc : (i : Nat) ≠ j := fun e => h (Fin.ext e).symm
    simp [State.setEntry, State.entry, h, hc]

@[simp] theorem State.setEntry_now (s : State) (i : Fin 48) (e : ExchangeEntry) : (s.setEntry i e).now = s.now := rfl

@[simp] theorem State.setEntry_inReset (s : State) (i : Fin 48) (e : ExchangeEntry) : (s.setEntry i e).inReset = s.inReset := rfl

@[simp] theorem State.setEntry_app (s : State) (i : Fin 48) (e : ExchangeEntry) : (s.setEntry i e).app = s.app := rfl

@[simp] theorem State.setEntry_pay (s : State) (i : Fin 48) (e : ExchangeEntry) : (s.setEntry i e).pay = s.pay := rfl

@[simp] theorem State.setEntry_rad (s : State) (i : Fin 48) (e : ExchangeEntry) : (s.setEntry i e).rad = s.rad := rfl

@[simp] theorem State.setEntry_lanes (s : State) (i : Fin 48) (e : ExchangeEntry) : (s.setEntry i e).lanes = s.lanes := rfl

@[simp] theorem State.setEntry_scanner (s : State) (i : Fin 48) (e : ExchangeEntry) : (s.setEntry i e).scanner = s.scanner := rfl

@[simp] theorem State.setEntry_routes (s : State) (i : Fin 48) (e : ExchangeEntry) : (s.setEntry i e).routes = s.routes := rfl

@[simp] theorem State.setEntry_hub (s : State) (i : Fin 48) (e : ExchangeEntry) : (s.setEntry i e).hub = s.hub := rfl

@[simp] theorem State.setEntry_panel (s : State) (i : Fin 48) (e : ExchangeEntry) : (s.setEntry i e).panel = s.panel := rfl

@[simp] theorem State.setEntry_touch (s : State) (i : Fin 48) (e : ExchangeEntry) : (s.setEntry i e).touch = s.touch := rfl

@[simp] theorem State.setEntry_keys (s : State) (i : Fin 48) (e : ExchangeEntry) : (s.setEntry i e).keys = s.keys := rfl

@[simp] theorem State.setEntry_lines (s : State) (i : Fin 48) (e : ExchangeEntry) : (s.setEntry i e).lines = s.lines := rfl

@[simp] theorem State.setEntry_combiner (s : State) (i : Fin 48) (e : ExchangeEntry) : (s.setEntry i e).combiner = s.combiner := rfl

@[simp] theorem State.setEntry_pending (s : State) (i : Fin 48) (e : ExchangeEntry) : (s.setEntry i e).pending = s.pending := rfl

@[simp] theorem State.setEntry_lane (s : State) (i : Fin 48) (e : ExchangeEntry) (l' : Lane) : (s.setEntry i e).lane l' = s.lane l' := rfl

@[simp] theorem State.setEntry_contact (s : State) (i : Fin 48) (e : ExchangeEntry) (j : Fin 2) : (s.setEntry i e).contact j = s.contact j := rfl

@[simp] theorem State.setEntry_key (s : State) (i : Fin 48) (e : ExchangeEntry) (k' : Fin 16) : (s.setEntry i e).key k' = s.key k' := rfl

@[simp] theorem State.setEntry_line (s : State) (i : Fin 48) (e : ExchangeEntry) (n' : Fin 12) : (s.setEntry i e).line n' = s.line n' := rfl

@[simp] theorem State.setEntry_dom (s : State) (i : Fin 48) (e : ExchangeEntry) (d' : Domain) : (s.setEntry i e).dom d' = s.dom d' := by cases d' <;> rfl

/-! ## Contacts, keys and lines -/

@[simp] theorem State.contact_setContact (s : State) (i j : Fin 2) (c : Option Contact) :
    (s.setContact i c).contact j = if j = i then c else s.contact j := by
  by_cases h : j = i
  · subst h; simp [State.setContact, State.contact]
  · have hc : (i : Nat) ≠ j := fun e => h (Fin.ext e).symm
    simp [State.setContact, State.contact, h, hc]

@[simp] theorem State.setContact_link (s : State) (i : Fin 2) (c : Option Contact) :
    (s.setContact i c).touch.link = s.touch.link := rfl

@[simp] theorem State.setContact_readPending (s : State) (i : Fin 2) (c : Option Contact) :
    (s.setContact i c).touch.readPending = s.touch.readPending := rfl

@[simp] theorem State.setContact_calibration (s : State) (i : Fin 2) (c : Option Contact) :
    (s.setContact i c).touch.calibration = s.touch.calibration := rfl

@[simp] theorem State.setContact_focus (s : State) (i : Fin 2) (c : Option Contact) :
    (s.setContact i c).touch.focus = s.touch.focus := rfl

@[simp] theorem State.setContact_now (s : State) (i : Fin 2) (c : Option Contact) : (s.setContact i c).now = s.now := rfl

@[simp] theorem State.setContact_inReset (s : State) (i : Fin 2) (c : Option Contact) : (s.setContact i c).inReset = s.inReset := rfl

@[simp] theorem State.setContact_app (s : State) (i : Fin 2) (c : Option Contact) : (s.setContact i c).app = s.app := rfl

@[simp] theorem State.setContact_pay (s : State) (i : Fin 2) (c : Option Contact) : (s.setContact i c).pay = s.pay := rfl

@[simp] theorem State.setContact_rad (s : State) (i : Fin 2) (c : Option Contact) : (s.setContact i c).rad = s.rad := rfl

@[simp] theorem State.setContact_lanes (s : State) (i : Fin 2) (c : Option Contact) : (s.setContact i c).lanes = s.lanes := rfl

@[simp] theorem State.setContact_scanner (s : State) (i : Fin 2) (c : Option Contact) : (s.setContact i c).scanner = s.scanner := rfl

@[simp] theorem State.setContact_exchanges (s : State) (i : Fin 2) (c : Option Contact) : (s.setContact i c).exchanges = s.exchanges := rfl

@[simp] theorem State.setContact_routes (s : State) (i : Fin 2) (c : Option Contact) : (s.setContact i c).routes = s.routes := rfl

@[simp] theorem State.setContact_hub (s : State) (i : Fin 2) (c : Option Contact) : (s.setContact i c).hub = s.hub := rfl

@[simp] theorem State.setContact_panel (s : State) (i : Fin 2) (c : Option Contact) : (s.setContact i c).panel = s.panel := rfl

@[simp] theorem State.setContact_keys (s : State) (i : Fin 2) (c : Option Contact) : (s.setContact i c).keys = s.keys := rfl

@[simp] theorem State.setContact_lines (s : State) (i : Fin 2) (c : Option Contact) : (s.setContact i c).lines = s.lines := rfl

@[simp] theorem State.setContact_combiner (s : State) (i : Fin 2) (c : Option Contact) : (s.setContact i c).combiner = s.combiner := rfl

@[simp] theorem State.setContact_pending (s : State) (i : Fin 2) (c : Option Contact) : (s.setContact i c).pending = s.pending := rfl

@[simp] theorem State.setContact_lane (s : State) (i : Fin 2) (c : Option Contact) (l' : Lane) : (s.setContact i c).lane l' = s.lane l' := rfl

@[simp] theorem State.setContact_entry (s : State) (i : Fin 2) (c : Option Contact) (j : Fin 48) : (s.setContact i c).entry j = s.entry j := rfl

@[simp] theorem State.setContact_key (s : State) (i : Fin 2) (c : Option Contact) (k' : Fin 16) : (s.setContact i c).key k' = s.key k' := rfl

@[simp] theorem State.setContact_line (s : State) (i : Fin 2) (c : Option Contact) (n' : Fin 12) : (s.setContact i c).line n' = s.line n' := rfl

@[simp] theorem State.setContact_dom (s : State) (i : Fin 2) (c : Option Contact) (d' : Domain) : (s.setContact i c).dom d' = s.dom d' := by cases d' <;> rfl

/-! ## Keys -/

@[simp] theorem State.key_setKey (s : State) (k k' : Fin 16) (r : Key) :
    (s.setKey k r).key k' = if k' = k then r else s.key k' := by
  by_cases h : k' = k
  · subst h; simp [State.setKey, State.key]
  · have hc : (k : Nat) ≠ k' := fun e => h (Fin.ext e).symm
    simp [State.setKey, State.key, h, hc]

@[simp] theorem State.setKey_now (s : State) (k : Fin 16) (r : Key) : (s.setKey k r).now = s.now := rfl

@[simp] theorem State.setKey_inReset (s : State) (k : Fin 16) (r : Key) : (s.setKey k r).inReset = s.inReset := rfl

@[simp] theorem State.setKey_app (s : State) (k : Fin 16) (r : Key) : (s.setKey k r).app = s.app := rfl

@[simp] theorem State.setKey_pay (s : State) (k : Fin 16) (r : Key) : (s.setKey k r).pay = s.pay := rfl

@[simp] theorem State.setKey_rad (s : State) (k : Fin 16) (r : Key) : (s.setKey k r).rad = s.rad := rfl

@[simp] theorem State.setKey_lanes (s : State) (k : Fin 16) (r : Key) : (s.setKey k r).lanes = s.lanes := rfl

@[simp] theorem State.setKey_scanner (s : State) (k : Fin 16) (r : Key) : (s.setKey k r).scanner = s.scanner := rfl

@[simp] theorem State.setKey_exchanges (s : State) (k : Fin 16) (r : Key) : (s.setKey k r).exchanges = s.exchanges := rfl

@[simp] theorem State.setKey_routes (s : State) (k : Fin 16) (r : Key) : (s.setKey k r).routes = s.routes := rfl

@[simp] theorem State.setKey_hub (s : State) (k : Fin 16) (r : Key) : (s.setKey k r).hub = s.hub := rfl

@[simp] theorem State.setKey_panel (s : State) (k : Fin 16) (r : Key) : (s.setKey k r).panel = s.panel := rfl

@[simp] theorem State.setKey_touch (s : State) (k : Fin 16) (r : Key) : (s.setKey k r).touch = s.touch := rfl

@[simp] theorem State.setKey_lines (s : State) (k : Fin 16) (r : Key) : (s.setKey k r).lines = s.lines := rfl

@[simp] theorem State.setKey_combiner (s : State) (k : Fin 16) (r : Key) : (s.setKey k r).combiner = s.combiner := rfl

@[simp] theorem State.setKey_pending (s : State) (k : Fin 16) (r : Key) : (s.setKey k r).pending = s.pending := rfl

@[simp] theorem State.setKey_lane (s : State) (k : Fin 16) (r : Key) (l' : Lane) : (s.setKey k r).lane l' = s.lane l' := rfl

@[simp] theorem State.setKey_entry (s : State) (k : Fin 16) (r : Key) (j : Fin 48) : (s.setKey k r).entry j = s.entry j := rfl

@[simp] theorem State.setKey_contact (s : State) (k : Fin 16) (r : Key) (j : Fin 2) : (s.setKey k r).contact j = s.contact j := rfl

@[simp] theorem State.setKey_line (s : State) (k : Fin 16) (r : Key) (n' : Fin 12) : (s.setKey k r).line n' = s.line n' := rfl

@[simp] theorem State.setKey_dom (s : State) (k : Fin 16) (r : Key) (d' : Domain) : (s.setKey k r).dom d' = s.dom d' := by cases d' <;> rfl

/-! ## Lines -/

@[simp] theorem State.line_setLine (s : State) (n n' : Fin 12) (r : Line) :
    (s.setLine n r).line n' = if n' = n then r else s.line n' := by
  by_cases h : n' = n
  · subst h; simp [State.setLine, State.line]
  · have hc : (n : Nat) ≠ n' := fun e => h (Fin.ext e).symm
    simp [State.setLine, State.line, h, hc]

@[simp] theorem State.line_updLines (s : State) (f : Line → Line) (n : Fin 12) :
    (s.updLines f).line n = f (s.line n) := by
  simp [State.updLines, State.line]

@[simp] theorem State.setLine_now (s : State) (n : Fin 12) (r : Line) : (s.setLine n r).now = s.now := rfl

@[simp] theorem State.setLine_inReset (s : State) (n : Fin 12) (r : Line) : (s.setLine n r).inReset = s.inReset := rfl

@[simp] theorem State.setLine_app (s : State) (n : Fin 12) (r : Line) : (s.setLine n r).app = s.app := rfl

@[simp] theorem State.setLine_pay (s : State) (n : Fin 12) (r : Line) : (s.setLine n r).pay = s.pay := rfl

@[simp] theorem State.setLine_rad (s : State) (n : Fin 12) (r : Line) : (s.setLine n r).rad = s.rad := rfl

@[simp] theorem State.setLine_lanes (s : State) (n : Fin 12) (r : Line) : (s.setLine n r).lanes = s.lanes := rfl

@[simp] theorem State.setLine_scanner (s : State) (n : Fin 12) (r : Line) : (s.setLine n r).scanner = s.scanner := rfl

@[simp] theorem State.setLine_exchanges (s : State) (n : Fin 12) (r : Line) : (s.setLine n r).exchanges = s.exchanges := rfl

@[simp] theorem State.setLine_routes (s : State) (n : Fin 12) (r : Line) : (s.setLine n r).routes = s.routes := rfl

@[simp] theorem State.setLine_hub (s : State) (n : Fin 12) (r : Line) : (s.setLine n r).hub = s.hub := rfl

@[simp] theorem State.setLine_panel (s : State) (n : Fin 12) (r : Line) : (s.setLine n r).panel = s.panel := rfl

@[simp] theorem State.setLine_touch (s : State) (n : Fin 12) (r : Line) : (s.setLine n r).touch = s.touch := rfl

@[simp] theorem State.setLine_keys (s : State) (n : Fin 12) (r : Line) : (s.setLine n r).keys = s.keys := rfl

@[simp] theorem State.setLine_combiner (s : State) (n : Fin 12) (r : Line) : (s.setLine n r).combiner = s.combiner := rfl

@[simp] theorem State.setLine_pending (s : State) (n : Fin 12) (r : Line) : (s.setLine n r).pending = s.pending := rfl

@[simp] theorem State.setLine_lane (s : State) (n : Fin 12) (r : Line) (l' : Lane) : (s.setLine n r).lane l' = s.lane l' := rfl

@[simp] theorem State.setLine_entry (s : State) (n : Fin 12) (r : Line) (j : Fin 48) : (s.setLine n r).entry j = s.entry j := rfl

@[simp] theorem State.setLine_contact (s : State) (n : Fin 12) (r : Line) (j : Fin 2) : (s.setLine n r).contact j = s.contact j := rfl

@[simp] theorem State.setLine_key (s : State) (n : Fin 12) (r : Line) (k' : Fin 16) : (s.setLine n r).key k' = s.key k' := rfl

@[simp] theorem State.setLine_dom (s : State) (n : Fin 12) (r : Line) (d' : Domain) : (s.setLine n r).dom d' = s.dom d' := by cases d' <;> rfl

@[simp] theorem State.updLines_now (s : State) (f : Line → Line) : (s.updLines f).now = s.now := rfl

@[simp] theorem State.updLines_inReset (s : State) (f : Line → Line) : (s.updLines f).inReset = s.inReset := rfl

@[simp] theorem State.updLines_app (s : State) (f : Line → Line) : (s.updLines f).app = s.app := rfl

@[simp] theorem State.updLines_pay (s : State) (f : Line → Line) : (s.updLines f).pay = s.pay := rfl

@[simp] theorem State.updLines_rad (s : State) (f : Line → Line) : (s.updLines f).rad = s.rad := rfl

@[simp] theorem State.updLines_lanes (s : State) (f : Line → Line) : (s.updLines f).lanes = s.lanes := rfl

@[simp] theorem State.updLines_scanner (s : State) (f : Line → Line) : (s.updLines f).scanner = s.scanner := rfl

@[simp] theorem State.updLines_exchanges (s : State) (f : Line → Line) : (s.updLines f).exchanges = s.exchanges := rfl

@[simp] theorem State.updLines_routes (s : State) (f : Line → Line) : (s.updLines f).routes = s.routes := rfl

@[simp] theorem State.updLines_hub (s : State) (f : Line → Line) : (s.updLines f).hub = s.hub := rfl

@[simp] theorem State.updLines_panel (s : State) (f : Line → Line) : (s.updLines f).panel = s.panel := rfl

@[simp] theorem State.updLines_touch (s : State) (f : Line → Line) : (s.updLines f).touch = s.touch := rfl

@[simp] theorem State.updLines_keys (s : State) (f : Line → Line) : (s.updLines f).keys = s.keys := rfl

@[simp] theorem State.updLines_combiner (s : State) (f : Line → Line) : (s.updLines f).combiner = s.combiner := rfl

@[simp] theorem State.updLines_pending (s : State) (f : Line → Line) : (s.updLines f).pending = s.pending := rfl

@[simp] theorem State.updLines_lane (s : State) (f : Line → Line) (l' : Lane) : (s.updLines f).lane l' = s.lane l' := rfl

@[simp] theorem State.updLines_entry (s : State) (f : Line → Line) (j : Fin 48) : (s.updLines f).entry j = s.entry j := rfl

@[simp] theorem State.updLines_contact (s : State) (f : Line → Line) (j : Fin 2) : (s.updLines f).contact j = s.contact j := rfl

@[simp] theorem State.updLines_key (s : State) (f : Line → Line) (k' : Fin 16) : (s.updLines f).key k' = s.key k' := rfl

@[simp] theorem State.updLines_dom (s : State) (f : Line → Line) (d' : Domain) : (s.updLines f).dom d' = s.dom d' := by cases d' <;> rfl

/-! ## Exchange states -/

@[simp] theorem State.entry_setExchange (s : State) (i j : Fin 48) (x : ExchangeState) :
    (s.setExchange i x).entry j = if j = i then ⟨(s.entry i).generation, x⟩ else s.entry j := by
  simp [State.setExchange]

@[simp] theorem State.setExchange_now (s : State) (i : Fin 48) (x : ExchangeState) : (s.setExchange i x).now = s.now := rfl

@[simp] theorem State.setExchange_inReset (s : State) (i : Fin 48) (x : ExchangeState) : (s.setExchange i x).inReset = s.inReset := rfl

@[simp] theorem State.setExchange_app (s : State) (i : Fin 48) (x : ExchangeState) : (s.setExchange i x).app = s.app := rfl

@[simp] theorem State.setExchange_pay (s : State) (i : Fin 48) (x : ExchangeState) : (s.setExchange i x).pay = s.pay := rfl

@[simp] theorem State.setExchange_rad (s : State) (i : Fin 48) (x : ExchangeState) : (s.setExchange i x).rad = s.rad := rfl

@[simp] theorem State.setExchange_lanes (s : State) (i : Fin 48) (x : ExchangeState) : (s.setExchange i x).lanes = s.lanes := rfl

@[simp] theorem State.setExchange_scanner (s : State) (i : Fin 48) (x : ExchangeState) : (s.setExchange i x).scanner = s.scanner := rfl

@[simp] theorem State.setExchange_routes (s : State) (i : Fin 48) (x : ExchangeState) : (s.setExchange i x).routes = s.routes := rfl

@[simp] theorem State.setExchange_hub (s : State) (i : Fin 48) (x : ExchangeState) : (s.setExchange i x).hub = s.hub := rfl

@[simp] theorem State.setExchange_panel (s : State) (i : Fin 48) (x : ExchangeState) : (s.setExchange i x).panel = s.panel := rfl

@[simp] theorem State.setExchange_touch (s : State) (i : Fin 48) (x : ExchangeState) : (s.setExchange i x).touch = s.touch := rfl

@[simp] theorem State.setExchange_keys (s : State) (i : Fin 48) (x : ExchangeState) : (s.setExchange i x).keys = s.keys := rfl

@[simp] theorem State.setExchange_lines (s : State) (i : Fin 48) (x : ExchangeState) : (s.setExchange i x).lines = s.lines := rfl

@[simp] theorem State.setExchange_combiner (s : State) (i : Fin 48) (x : ExchangeState) : (s.setExchange i x).combiner = s.combiner := rfl

@[simp] theorem State.setExchange_pending (s : State) (i : Fin 48) (x : ExchangeState) : (s.setExchange i x).pending = s.pending := rfl

@[simp] theorem State.setExchange_lane (s : State) (i : Fin 48) (x : ExchangeState) (l' : Lane) : (s.setExchange i x).lane l' = s.lane l' := rfl

@[simp] theorem State.setExchange_contact (s : State) (i : Fin 48) (x : ExchangeState) (j : Fin 2) : (s.setExchange i x).contact j = s.contact j := rfl

@[simp] theorem State.setExchange_key (s : State) (i : Fin 48) (x : ExchangeState) (k' : Fin 16) : (s.setExchange i x).key k' = s.key k' := rfl

@[simp] theorem State.setExchange_line (s : State) (i : Fin 48) (x : ExchangeState) (n' : Fin 12) : (s.setExchange i x).line n' = s.line n' := rfl

@[simp] theorem State.setExchange_dom (s : State) (i : Fin 48) (x : ExchangeState) (d' : Domain) : (s.setExchange i x).dom d' = s.dom d' := by cases d' <;> rfl

/-! ## Windows -/

@[simp] theorem State.window_writeWindow (s : State) (d d' : Domain) (a : Nat) (bs : List Byte) :
    (s.writeWindow d a bs).window d' = if d' = d then Memory.write (s.window d) a bs else s.window d' := by
  by_cases h : d' = d <;> simp [State.writeWindow, State.window, h]

@[simp] theorem State.writeWindow_now (s : State) (d : Domain) (a : Nat) (bs : List Byte) : (s.writeWindow d a bs).now = s.now := by cases d <;> rfl

@[simp] theorem State.writeWindow_inReset (s : State) (d : Domain) (a : Nat) (bs : List Byte) : (s.writeWindow d a bs).inReset = s.inReset := by cases d <;> rfl

@[simp] theorem State.writeWindow_lanes (s : State) (d : Domain) (a : Nat) (bs : List Byte) : (s.writeWindow d a bs).lanes = s.lanes := by cases d <;> rfl

@[simp] theorem State.writeWindow_scanner (s : State) (d : Domain) (a : Nat) (bs : List Byte) : (s.writeWindow d a bs).scanner = s.scanner := by cases d <;> rfl

@[simp] theorem State.writeWindow_exchanges (s : State) (d : Domain) (a : Nat) (bs : List Byte) : (s.writeWindow d a bs).exchanges = s.exchanges := by cases d <;> rfl

@[simp] theorem State.writeWindow_routes (s : State) (d : Domain) (a : Nat) (bs : List Byte) : (s.writeWindow d a bs).routes = s.routes := by cases d <;> rfl

@[simp] theorem State.writeWindow_hub (s : State) (d : Domain) (a : Nat) (bs : List Byte) : (s.writeWindow d a bs).hub = s.hub := by cases d <;> rfl

@[simp] theorem State.writeWindow_panel (s : State) (d : Domain) (a : Nat) (bs : List Byte) : (s.writeWindow d a bs).panel = s.panel := by cases d <;> rfl

@[simp] theorem State.writeWindow_touch (s : State) (d : Domain) (a : Nat) (bs : List Byte) : (s.writeWindow d a bs).touch = s.touch := by cases d <;> rfl

@[simp] theorem State.writeWindow_keys (s : State) (d : Domain) (a : Nat) (bs : List Byte) : (s.writeWindow d a bs).keys = s.keys := by cases d <;> rfl

@[simp] theorem State.writeWindow_lines (s : State) (d : Domain) (a : Nat) (bs : List Byte) : (s.writeWindow d a bs).lines = s.lines := by cases d <;> rfl

@[simp] theorem State.writeWindow_combiner (s : State) (d : Domain) (a : Nat) (bs : List Byte) : (s.writeWindow d a bs).combiner = s.combiner := by cases d <;> rfl

@[simp] theorem State.writeWindow_pending (s : State) (d : Domain) (a : Nat) (bs : List Byte) : (s.writeWindow d a bs).pending = s.pending := by cases d <;> rfl

@[simp] theorem State.writeWindow_lane (s : State) (d : Domain) (a : Nat) (bs : List Byte) (l' : Lane) : (s.writeWindow d a bs).lane l' = s.lane l' := by cases d <;> rfl

@[simp] theorem State.writeWindow_entry (s : State) (d : Domain) (a : Nat) (bs : List Byte) (j : Fin 48) : (s.writeWindow d a bs).entry j = s.entry j := by cases d <;> rfl

@[simp] theorem State.writeWindow_contact (s : State) (d : Domain) (a : Nat) (bs : List Byte) (j : Fin 2) : (s.writeWindow d a bs).contact j = s.contact j := by cases d <;> rfl

@[simp] theorem State.writeWindow_key (s : State) (d : Domain) (a : Nat) (bs : List Byte) (k' : Fin 16) : (s.writeWindow d a bs).key k' = s.key k' := by cases d <;> rfl

@[simp] theorem State.writeWindow_line (s : State) (d : Domain) (a : Nat) (bs : List Byte) (n' : Fin 12) : (s.writeWindow d a bs).line n' = s.line n' := by cases d <;> rfl

@[simp] theorem State.writeWindow_status (s : State) (d : Domain) (a : Nat) (bs : List Byte) (d' : Domain) :
    ((s.writeWindow d a bs).dom d').status = (s.dom d').status := by
  by_cases h : d' = d <;> simp [State.writeWindow, h]

@[simp] theorem State.writeWindow_initialising (s : State) (d : Domain) (a : Nat) (bs : List Byte) (d' : Domain) :
    ((s.writeWindow d a bs).dom d').initialising = (s.dom d').initialising := by
  by_cases h : d' = d <;> simp [State.writeWindow, h]

@[simp] theorem State.writeWindow_remembered (s : State) (d : Domain) (a : Nat) (bs : List Byte) (d' : Domain) :
    ((s.writeWindow d a bs).dom d').remembered = (s.dom d').remembered := by
  by_cases h : d' = d <;> simp [State.writeWindow, h]

@[simp] theorem State.writeWindow_stray (s : State) (d : Domain) (a : Nat) (bs : List Byte) (d' : Domain) :
    ((s.writeWindow d a bs).dom d').stray = (s.dom d').stray := by
  by_cases h : d' = d <;> simp [State.writeWindow, h]

@[simp] theorem State.writeWindow_release (s : State) (d : Domain) (a : Nat) (bs : List Byte) (d' : Domain) :
    ((s.writeWindow d a bs).dom d').release = (s.dom d').release := by
  by_cases h : d' = d <;> simp [State.writeWindow, h]

@[simp] theorem State.writeWindow_flags (s : State) (d : Domain) (a : Nat) (bs : List Byte) (d' : Domain) :
    ((s.writeWindow d a bs).dom d').flags = (s.dom d').flags := by
  by_cases h : d' = d <;> simp [State.writeWindow, h]

@[simp] theorem State.writeWindow_enables (s : State) (d : Domain) (a : Nat) (bs : List Byte) (d' : Domain) :
    ((s.writeWindow d a bs).dom d').enables = (s.dom d').enables := by
  by_cases h : d' = d <;> simp [State.writeWindow, h]

@[simp] theorem State.writeWindow_urgent (s : State) (d : Domain) (a : Nat) (bs : List Byte) (d' : Domain) :
    ((s.writeWindow d a bs).dom d').urgent = (s.dom d').urgent := by
  by_cases h : d' = d <;> simp [State.writeWindow, h]

@[simp] theorem State.writeWindow_split (s : State) (d : Domain) (a : Nat) (bs : List Byte) (d' : Domain) :
    ((s.writeWindow d a bs).dom d').split = (s.dom d').split := by
  by_cases h : d' = d <;> simp [State.writeWindow, h]

@[simp] theorem State.writeWindow_readData (s : State) (d : Domain) (a : Nat) (bs : List Byte) (d' : Domain) :
    ((s.writeWindow d a bs).dom d').readData = (s.dom d').readData := by
  by_cases h : d' = d <;> simp [State.writeWindow, h]

end Sys2Proof.Machine
end

