-- ==== Sys2Proof/Laws/Frames.lean ====
section
/-! SUPPORT. What each shared operation leaves as it was: one lemma for each, a conjunction that `simp` reads as its parts. The
state that a lemma does not name is the state that the operation can change. -/

namespace Sys2Proof.Machine

/-! ## Notices and counters -/

/-- What `State.raise` leaves as it was. -/
@[simp] theorem State.raise_frame (s : State) (d : Domain) (f : Flag) :
    (s.raise d f).now = s.now ∧
    (s.raise d f).inReset = s.inReset ∧
    (s.raise d f).lanes = s.lanes ∧ (∀ l', (s.raise d f).lane l' = s.lane l') ∧
    (s.raise d f).scanner = s.scanner ∧
    (s.raise d f).exchanges = s.exchanges ∧
    (∀ j, (s.raise d f).entry j = s.entry j) ∧
    (s.raise d f).routes = s.routes ∧
    (s.raise d f).hub = s.hub ∧
    (s.raise d f).panel = s.panel ∧
    (s.raise d f).touch = s.touch ∧
    (∀ j, (s.raise d f).contact j = s.contact j) ∧
    (s.raise d f).keys = s.keys ∧
    (∀ k', (s.raise d f).key k' = s.key k') ∧
    (s.raise d f).lines = s.lines ∧
    (∀ n', (s.raise d f).line n' = s.line n') ∧
    (s.raise d f).combiner = s.combiner ∧
    (s.raise d f).pending = s.pending ∧
    (∀ d', ((s.raise d f).dom d').window = (s.dom d').window) ∧
    (∀ d', ((s.raise d f).dom d').status = (s.dom d').status) ∧
    (∀ d', ((s.raise d f).dom d').initialising = (s.dom d').initialising) ∧
    (∀ d', ((s.raise d f).dom d').remembered = (s.dom d').remembered) ∧
    (∀ d', ((s.raise d f).dom d').stray = (s.dom d').stray) ∧
    (∀ d', ((s.raise d f).dom d').release = (s.dom d').release) ∧
    (∀ d', ((s.raise d f).dom d').enables = (s.dom d').enables) ∧
    (∀ d', ((s.raise d f).dom d').urgent = (s.dom d').urgent) ∧
    (∀ d', ((s.raise d f).dom d').split = (s.dom d').split) ∧
    (∀ d', ((s.raise d f).dom d').readData = (s.dom d').readData) := by
  simp [State.raise]

/-- What `State.raiseAll` leaves as it was. -/
@[simp] theorem State.raiseAll_frame (s : State) (f : Flag) :
    (s.raiseAll f).now = s.now ∧
    (s.raiseAll f).inReset = s.inReset ∧
    (s.raiseAll f).lanes = s.lanes ∧ (∀ l', (s.raiseAll f).lane l' = s.lane l') ∧
    (s.raiseAll f).scanner = s.scanner ∧
    (s.raiseAll f).exchanges = s.exchanges ∧
    (∀ j, (s.raiseAll f).entry j = s.entry j) ∧
    (s.raiseAll f).routes = s.routes ∧
    (s.raiseAll f).hub = s.hub ∧
    (s.raiseAll f).panel = s.panel ∧
    (s.raiseAll f).touch = s.touch ∧
    (∀ j, (s.raiseAll f).contact j = s.contact j) ∧
    (s.raiseAll f).keys = s.keys ∧
    (∀ k', (s.raiseAll f).key k' = s.key k') ∧
    (s.raiseAll f).lines = s.lines ∧
    (∀ n', (s.raiseAll f).line n' = s.line n') ∧
    (s.raiseAll f).combiner = s.combiner ∧
    (s.raiseAll f).pending = s.pending ∧
    (∀ d', ((s.raiseAll f).dom d').window = (s.dom d').window) ∧
    (∀ d', ((s.raiseAll f).dom d').status = (s.dom d').status) ∧
    (∀ d', ((s.raiseAll f).dom d').initialising = (s.dom d').initialising) ∧
    (∀ d', ((s.raiseAll f).dom d').remembered = (s.dom d').remembered) ∧
    (∀ d', ((s.raiseAll f).dom d').stray = (s.dom d').stray) ∧
    (∀ d', ((s.raiseAll f).dom d').release = (s.dom d').release) ∧
    (∀ d', ((s.raiseAll f).dom d').enables = (s.dom d').enables) ∧
    (∀ d', ((s.raiseAll f).dom d').urgent = (s.dom d').urgent) ∧
    (∀ d', ((s.raiseAll f).dom d').split = (s.dom d').split) ∧
    (∀ d', ((s.raiseAll f).dom d').readData = (s.dom d').readData) := by
  simp [State.raiseAll]

/-- What `State.clearFlags` leaves as it was. -/
@[simp] theorem State.clearFlags_frame (s : State) (d : Domain) (v : Word) :
    (s.clearFlags d v).now = s.now ∧
    (s.clearFlags d v).inReset = s.inReset ∧
    (s.clearFlags d v).lanes = s.lanes ∧ (∀ l', (s.clearFlags d v).lane l' = s.lane l') ∧
    (s.clearFlags d v).scanner = s.scanner ∧
    (s.clearFlags d v).exchanges = s.exchanges ∧
    (∀ j, (s.clearFlags d v).entry j = s.entry j) ∧
    (s.clearFlags d v).routes = s.routes ∧
    (s.clearFlags d v).hub = s.hub ∧
    (s.clearFlags d v).panel = s.panel ∧
    (s.clearFlags d v).touch = s.touch ∧
    (∀ j, (s.clearFlags d v).contact j = s.contact j) ∧
    (s.clearFlags d v).keys = s.keys ∧
    (∀ k', (s.clearFlags d v).key k' = s.key k') ∧
    (s.clearFlags d v).lines = s.lines ∧
    (∀ n', (s.clearFlags d v).line n' = s.line n') ∧
    (s.clearFlags d v).combiner = s.combiner ∧
    (s.clearFlags d v).pending = s.pending ∧
    (∀ d', ((s.clearFlags d v).dom d').window = (s.dom d').window) ∧
    (∀ d', ((s.clearFlags d v).dom d').status = (s.dom d').status) ∧
    (∀ d', ((s.clearFlags d v).dom d').initialising = (s.dom d').initialising) ∧
    (∀ d', ((s.clearFlags d v).dom d').remembered = (s.dom d').remembered) ∧
    (∀ d', ((s.clearFlags d v).dom d').stray = (s.dom d').stray) ∧
    (∀ d', ((s.clearFlags d v).dom d').release = (s.dom d').release) ∧
    (∀ d', ((s.clearFlags d v).dom d').enables = (s.dom d').enables) ∧
    (∀ d', ((s.clearFlags d v).dom d').urgent = (s.dom d').urgent) ∧
    (∀ d', ((s.clearFlags d v).dom d').split = (s.dom d').split) ∧
    (∀ d', ((s.clearFlags d v).dom d').readData = (s.dom d').readData) := by
  simp [State.clearFlags]

/-- What `State.countDropped` leaves as it was. -/
@[simp] theorem State.countDropped_frame (s : State) (l : Lane) (k : Nat) :
    (s.countDropped l k).now = s.now ∧
    (s.countDropped l k).inReset = s.inReset ∧
    (∀ l', ((s.countDropped l k).lane l').takeCursor = (s.lane l').takeCursor) ∧
    (∀ l', ((s.countDropped l k).lane l').scanWanted = (s.lane l').scanWanted) ∧
    (∀ l', ((s.countDropped l k).lane l').bufferWait = (s.lane l').bufferWait) ∧
    (∀ l', ((s.countDropped l k).lane l').putCursor = (s.lane l').putCursor) ∧
    (∀ l', ((s.countDropped l k).lane l').deliveryNumber = (s.lane l').deliveryNumber) ∧
    (∀ l', ((s.countDropped l k).lane l').roomWait = (s.lane l').roomWait) ∧
    (∀ l', ((s.countDropped l k).lane l').gapPending = (s.lane l').gapPending) ∧
    (∀ l', ((s.countDropped l k).lane l').fifo = (s.lane l').fifo) ∧
    (∀ l', ((s.countDropped l k).lane l').fenced = (s.lane l').fenced) ∧
    (∀ l', ((s.countDropped l k).lane l').autoFenced = (s.lane l').autoFenced) ∧
    (∀ l', ((s.countDropped l k).lane l').tally = (s.lane l').tally) ∧
    (∀ l', ((s.countDropped l k).lane l').limit = (s.lane l').limit) ∧
    (∀ l', ((s.countDropped l k).lane l').admitted = (s.lane l').admitted) ∧
    (∀ l', ((s.countDropped l k).lane l').refused = (s.lane l').refused) ∧
    (∀ l', ((s.countDropped l k).lane l').violations = (s.lane l').violations) ∧
    (∀ l', ((s.countDropped l k).lane l').inputLost = (s.lane l').inputLost) ∧
    (s.countDropped l k).scanner = s.scanner ∧
    (s.countDropped l k).exchanges = s.exchanges ∧
    (∀ j, (s.countDropped l k).entry j = s.entry j) ∧
    (s.countDropped l k).routes = s.routes ∧
    (s.countDropped l k).hub = s.hub ∧
    (s.countDropped l k).panel = s.panel ∧
    (s.countDropped l k).touch = s.touch ∧
    (∀ j, (s.countDropped l k).contact j = s.contact j) ∧
    (s.countDropped l k).keys = s.keys ∧
    (∀ k', (s.countDropped l k).key k' = s.key k') ∧
    (s.countDropped l k).lines = s.lines ∧
    (∀ n', (s.countDropped l k).line n' = s.line n') ∧
    (s.countDropped l k).combiner = s.combiner ∧
    (s.countDropped l k).pending = s.pending ∧
    (∀ d', (s.countDropped l k).dom d' = s.dom d') := by
  simp [State.countDropped]

/-! ## The holding queue -/

/-- What `State.clearBufferWait` leaves as it was. -/
@[simp] theorem State.clearBufferWait_frame (s : State)  :
    (s.clearBufferWait).now = s.now ∧
    (s.clearBufferWait).inReset = s.inReset ∧
    (∀ l', ((s.clearBufferWait).lane l').takeCursor = (s.lane l').takeCursor) ∧
    (∀ l', ((s.clearBufferWait).lane l').scanWanted = (s.lane l').scanWanted) ∧
    (∀ l', ((s.clearBufferWait).lane l').putCursor = (s.lane l').putCursor) ∧
    (∀ l', ((s.clearBufferWait).lane l').deliveryNumber = (s.lane l').deliveryNumber) ∧
    (∀ l', ((s.clearBufferWait).lane l').roomWait = (s.lane l').roomWait) ∧
    (∀ l', ((s.clearBufferWait).lane l').gapPending = (s.lane l').gapPending) ∧
    (∀ l', ((s.clearBufferWait).lane l').fifo = (s.lane l').fifo) ∧
    (∀ l', ((s.clearBufferWait).lane l').fenced = (s.lane l').fenced) ∧
    (∀ l', ((s.clearBufferWait).lane l').autoFenced = (s.lane l').autoFenced) ∧
    (∀ l', ((s.clearBufferWait).lane l').tally = (s.lane l').tally) ∧
    (∀ l', ((s.clearBufferWait).lane l').limit = (s.lane l').limit) ∧
    (∀ l', ((s.clearBufferWait).lane l').admitted = (s.lane l').admitted) ∧
    (∀ l', ((s.clearBufferWait).lane l').refused = (s.lane l').refused) ∧
    (∀ l', ((s.clearBufferWait).lane l').violations = (s.lane l').violations) ∧
    (∀ l', ((s.clearBufferWait).lane l').dropped = (s.lane l').dropped) ∧
    (∀ l', ((s.clearBufferWait).lane l').inputLost = (s.lane l').inputLost) ∧
    (s.clearBufferWait).scanner = s.scanner ∧
    (s.clearBufferWait).exchanges = s.exchanges ∧
    (∀ j, (s.clearBufferWait).entry j = s.entry j) ∧
    (s.clearBufferWait).routes = s.routes ∧
    (s.clearBufferWait).hub = s.hub ∧
    (s.clearBufferWait).panel = s.panel ∧
    (s.clearBufferWait).touch = s.touch ∧
    (∀ j, (s.clearBufferWait).contact j = s.contact j) ∧
    (s.clearBufferWait).keys = s.keys ∧
    (∀ k', (s.clearBufferWait).key k' = s.key k') ∧
    (s.clearBufferWait).lines = s.lines ∧
    (∀ n', (s.clearBufferWait).line n' = s.line n') ∧
    (s.clearBufferWait).combiner = s.combiner ∧
    (s.clearBufferWait).pending = s.pending ∧
    (∀ d', (s.clearBufferWait).dom d' = s.dom d') := by
  simp [State.clearBufferWait]

/-- What `State.filterFifos` leaves as it was. -/
@[simp] theorem State.filterFifos_frame (s : State) (keep : Lane → Entry → Bool) (keepHub : Held → Bool) :
    (s.filterFifos keep keepHub).now = s.now ∧
    (s.filterFifos keep keepHub).inReset = s.inReset ∧
    (∀ l', ((s.filterFifos keep keepHub).lane l').takeCursor = (s.lane l').takeCursor) ∧
    (∀ l', ((s.filterFifos keep keepHub).lane l').scanWanted = (s.lane l').scanWanted) ∧
    (∀ l', ((s.filterFifos keep keepHub).lane l').putCursor = (s.lane l').putCursor) ∧
    (∀ l', ((s.filterFifos keep keepHub).lane l').deliveryNumber = (s.lane l').deliveryNumber) ∧
    (∀ l', ((s.filterFifos keep keepHub).lane l').roomWait = (s.lane l').roomWait) ∧
    (∀ l', ((s.filterFifos keep keepHub).lane l').gapPending = (s.lane l').gapPending) ∧
    (∀ l', ((s.filterFifos keep keepHub).lane l').fenced = (s.lane l').fenced) ∧
    (∀ l', ((s.filterFifos keep keepHub).lane l').autoFenced = (s.lane l').autoFenced) ∧
    (∀ l', ((s.filterFifos keep keepHub).lane l').tally = (s.lane l').tally) ∧
    (∀ l', ((s.filterFifos keep keepHub).lane l').limit = (s.lane l').limit) ∧
    (∀ l', ((s.filterFifos keep keepHub).lane l').admitted = (s.lane l').admitted) ∧
    (∀ l', ((s.filterFifos keep keepHub).lane l').refused = (s.lane l').refused) ∧
    (∀ l', ((s.filterFifos keep keepHub).lane l').violations = (s.lane l').violations) ∧
    (∀ l', ((s.filterFifos keep keepHub).lane l').dropped = (s.lane l').dropped) ∧
    (∀ l', ((s.filterFifos keep keepHub).lane l').inputLost = (s.lane l').inputLost) ∧
    (s.filterFifos keep keepHub).scanner = s.scanner ∧
    (s.filterFifos keep keepHub).exchanges = s.exchanges ∧
    (∀ j, (s.filterFifos keep keepHub).entry j = s.entry j) ∧
    (s.filterFifos keep keepHub).routes = s.routes ∧
    (s.filterFifos keep keepHub).hub.mode = s.hub.mode ∧
    (s.filterFifos keep keepHub).hub.routesLoaded = s.hub.routesLoaded ∧
    (s.filterFifos keep keepHub).hub.loading = s.hub.loading ∧
    (s.filterFifos keep keepHub).hub.outstanding = s.hub.outstanding ∧
    (s.filterFifos keep keepHub).panel = s.panel ∧
    (s.filterFifos keep keepHub).touch = s.touch ∧
    (∀ j, (s.filterFifos keep keepHub).contact j = s.contact j) ∧
    (s.filterFifos keep keepHub).keys = s.keys ∧
    (∀ k', (s.filterFifos keep keepHub).key k' = s.key k') ∧
    (s.filterFifos keep keepHub).lines = s.lines ∧
    (∀ n', (s.filterFifos keep keepHub).line n' = s.line n') ∧
    (s.filterFifos keep keepHub).combiner = s.combiner ∧
    (s.filterFifos keep keepHub).pending = s.pending ∧
    (∀ d', (s.filterFifos keep keepHub).dom d' = s.dom d') := by
  simp only [State.filterFifos]
  (repeat' split) <;> simp

/-- What `State.removeAt` leaves as it was. -/
@[simp] theorem State.removeAt_frame (s : State) (l : Lane) (place : Nat) :
    (s.removeAt l place).now = s.now ∧
    (s.removeAt l place).inReset = s.inReset ∧
    (∀ l', ((s.removeAt l place).lane l').takeCursor = (s.lane l').takeCursor) ∧
    (∀ l', ((s.removeAt l place).lane l').scanWanted = (s.lane l').scanWanted) ∧
    (∀ l', ((s.removeAt l place).lane l').putCursor = (s.lane l').putCursor) ∧
    (∀ l', ((s.removeAt l place).lane l').deliveryNumber = (s.lane l').deliveryNumber) ∧
    (∀ l', ((s.removeAt l place).lane l').roomWait = (s.lane l').roomWait) ∧
    (∀ l', ((s.removeAt l place).lane l').gapPending = (s.lane l').gapPending) ∧
    (∀ l', ((s.removeAt l place).lane l').fenced = (s.lane l').fenced) ∧
    (∀ l', ((s.removeAt l place).lane l').autoFenced = (s.lane l').autoFenced) ∧
    (∀ l', ((s.removeAt l place).lane l').tally = (s.lane l').tally) ∧
    (∀ l', ((s.removeAt l place).lane l').limit = (s.lane l').limit) ∧
    (∀ l', ((s.removeAt l place).lane l').admitted = (s.lane l').admitted) ∧
    (∀ l', ((s.removeAt l place).lane l').refused = (s.lane l').refused) ∧
    (∀ l', ((s.removeAt l place).lane l').violations = (s.lane l').violations) ∧
    (∀ l', ((s.removeAt l place).lane l').dropped = (s.lane l').dropped) ∧
    (∀ l', ((s.removeAt l place).lane l').inputLost = (s.lane l').inputLost) ∧
    (s.removeAt l place).scanner = s.scanner ∧
    (s.removeAt l place).exchanges = s.exchanges ∧
    (∀ j, (s.removeAt l place).entry j = s.entry j) ∧
    (s.removeAt l place).routes = s.routes ∧
    (s.removeAt l place).hub = s.hub ∧
    (s.removeAt l place).panel = s.panel ∧
    (s.removeAt l place).touch = s.touch ∧
    (∀ j, (s.removeAt l place).contact j = s.contact j) ∧
    (s.removeAt l place).keys = s.keys ∧
    (∀ k', (s.removeAt l place).key k' = s.key k') ∧
    (s.removeAt l place).lines = s.lines ∧
    (∀ n', (s.removeAt l place).line n' = s.line n') ∧
    (s.removeAt l place).combiner = s.combiner ∧
    (s.removeAt l place).pending = s.pending ∧
    (∀ d', (s.removeAt l place).dom d' = s.dom d') := by
  simp only [State.removeAt]
  (repeat' split) <;> simp

/-- What `State.join` leaves as it was. -/
@[simp] theorem State.join_frame (s : State) (l : Lane) (e : Entry) :
    (s.join l e).now = s.now ∧
    (s.join l e).inReset = s.inReset ∧
    (∀ l', ((s.join l e).lane l').takeCursor = (s.lane l').takeCursor) ∧
    (∀ l', ((s.join l e).lane l').scanWanted = (s.lane l').scanWanted) ∧
    (∀ l', ((s.join l e).lane l').bufferWait = (s.lane l').bufferWait) ∧
    (∀ l', ((s.join l e).lane l').putCursor = (s.lane l').putCursor) ∧
    (∀ l', ((s.join l e).lane l').deliveryNumber = (s.lane l').deliveryNumber) ∧
    (∀ l', ((s.join l e).lane l').roomWait = (s.lane l').roomWait) ∧
    (∀ l', ((s.join l e).lane l').gapPending = (s.lane l').gapPending) ∧
    (∀ l', ((s.join l e).lane l').fenced = (s.lane l').fenced) ∧
    (∀ l', ((s.join l e).lane l').autoFenced = (s.lane l').autoFenced) ∧
    (∀ l', ((s.join l e).lane l').tally = (s.lane l').tally) ∧
    (∀ l', ((s.join l e).lane l').limit = (s.lane l').limit) ∧
    (∀ l', ((s.join l e).lane l').admitted = (s.lane l').admitted) ∧
    (∀ l', ((s.join l e).lane l').refused = (s.lane l').refused) ∧
    (∀ l', ((s.join l e).lane l').violations = (s.lane l').violations) ∧
    (∀ l', ((s.join l e).lane l').dropped = (s.lane l').dropped) ∧
    (∀ l', ((s.join l e).lane l').inputLost = (s.lane l').inputLost) ∧
    (s.join l e).scanner = s.scanner ∧
    (s.join l e).exchanges = s.exchanges ∧
    (∀ j, (s.join l e).entry j = s.entry j) ∧
    (s.join l e).routes = s.routes ∧
    (s.join l e).hub = s.hub ∧
    (s.join l e).panel = s.panel ∧
    (s.join l e).touch = s.touch ∧
    (∀ j, (s.join l e).contact j = s.contact j) ∧
    (s.join l e).keys = s.keys ∧
    (∀ k', (s.join l e).key k' = s.key k') ∧
    (s.join l e).lines = s.lines ∧
    (∀ n', (s.join l e).line n' = s.line n') ∧
    (s.join l e).combiner = s.combiner ∧
    (s.join l e).pending = s.pending ∧
    (∀ d', (s.join l e).dom d' = s.dom d') := by
  simp [State.join]

/-- What `State.loseEvent` leaves as it was. -/
@[simp] theorem State.loseEvent_frame (s : State) (l : Lane) (e : InputEvent) :
    (s.loseEvent l e).now = s.now ∧
    (s.loseEvent l e).inReset = s.inReset ∧
    (∀ l', ((s.loseEvent l e).lane l').takeCursor = (s.lane l').takeCursor) ∧
    (∀ l', ((s.loseEvent l e).lane l').scanWanted = (s.lane l').scanWanted) ∧
    (∀ l', ((s.loseEvent l e).lane l').bufferWait = (s.lane l').bufferWait) ∧
    (∀ l', ((s.loseEvent l e).lane l').putCursor = (s.lane l').putCursor) ∧
    (∀ l', ((s.loseEvent l e).lane l').deliveryNumber = (s.lane l').deliveryNumber) ∧
    (∀ l', ((s.loseEvent l e).lane l').roomWait = (s.lane l').roomWait) ∧
    (∀ l', ((s.loseEvent l e).lane l').fifo = (s.lane l').fifo) ∧
    (∀ l', ((s.loseEvent l e).lane l').fenced = (s.lane l').fenced) ∧
    (∀ l', ((s.loseEvent l e).lane l').autoFenced = (s.lane l').autoFenced) ∧
    (∀ l', ((s.loseEvent l e).lane l').tally = (s.lane l').tally) ∧
    (∀ l', ((s.loseEvent l e).lane l').limit = (s.lane l').limit) ∧
    (∀ l', ((s.loseEvent l e).lane l').admitted = (s.lane l').admitted) ∧
    (∀ l', ((s.loseEvent l e).lane l').refused = (s.lane l').refused) ∧
    (∀ l', ((s.loseEvent l e).lane l').violations = (s.lane l').violations) ∧
    (∀ l', ((s.loseEvent l e).lane l').dropped = (s.lane l').dropped) ∧
    (s.loseEvent l e).scanner = s.scanner ∧
    (s.loseEvent l e).exchanges = s.exchanges ∧
    (∀ j, (s.loseEvent l e).entry j = s.entry j) ∧
    (s.loseEvent l e).routes = s.routes ∧
    (s.loseEvent l e).hub = s.hub ∧
    (s.loseEvent l e).panel = s.panel ∧
    (s.loseEvent l e).touch = s.touch ∧
    (∀ j, (s.loseEvent l e).contact j = s.contact j) ∧
    (s.loseEvent l e).keys = s.keys ∧
    (∀ k', (s.loseEvent l e).key k' = s.key k') ∧
    (s.loseEvent l e).lines = s.lines ∧
    (∀ n', (s.loseEvent l e).line n' = s.line n') ∧
    (s.loseEvent l e).combiner = s.combiner ∧
    (s.loseEvent l e).pending = s.pending ∧
    (∀ d', ((s.loseEvent l e).dom d').window = (s.dom d').window) ∧
    (∀ d', ((s.loseEvent l e).dom d').status = (s.dom d').status) ∧
    (∀ d', ((s.loseEvent l e).dom d').initialising = (s.dom d').initialising) ∧
    (∀ d', ((s.loseEvent l e).dom d').remembered = (s.dom d').remembered) ∧
    (∀ d', ((s.loseEvent l e).dom d').stray = (s.dom d').stray) ∧
    (∀ d', ((s.loseEvent l e).dom d').release = (s.dom d').release) ∧
    (∀ d', ((s.loseEvent l e).dom d').enables = (s.dom d').enables) ∧
    (∀ d', ((s.loseEvent l e).dom d').urgent = (s.dom d').urgent) ∧
    (∀ d', ((s.loseEvent l e).dom d').split = (s.dom d').split) ∧
    (∀ d', ((s.loseEvent l e).dom d').readData = (s.dom d').readData) := by
  simp [State.loseEvent]

/-- What `State.placeEvent` leaves as it was. -/
@[simp] theorem State.placeEvent_frame (s : State) (l : Lane) (e : InputEvent) :
    (s.placeEvent l e).now = s.now ∧
    (s.placeEvent l e).inReset = s.inReset ∧
    (∀ l', ((s.placeEvent l e).lane l').takeCursor = (s.lane l').takeCursor) ∧
    (∀ l', ((s.placeEvent l e).lane l').scanWanted = (s.lane l').scanWanted) ∧
    (∀ l', ((s.placeEvent l e).lane l').bufferWait = (s.lane l').bufferWait) ∧
    (∀ l', ((s.placeEvent l e).lane l').putCursor = (s.lane l').putCursor) ∧
    (∀ l', ((s.placeEvent l e).lane l').deliveryNumber = (s.lane l').deliveryNumber) ∧
    (∀ l', ((s.placeEvent l e).lane l').roomWait = (s.lane l').roomWait) ∧
    (∀ l', ((s.placeEvent l e).lane l').fenced = (s.lane l').fenced) ∧
    (∀ l', ((s.placeEvent l e).lane l').autoFenced = (s.lane l').autoFenced) ∧
    (∀ l', ((s.placeEvent l e).lane l').tally = (s.lane l').tally) ∧
    (∀ l', ((s.placeEvent l e).lane l').limit = (s.lane l').limit) ∧
    (∀ l', ((s.placeEvent l e).lane l').admitted = (s.lane l').admitted) ∧
    (∀ l', ((s.placeEvent l e).lane l').refused = (s.lane l').refused) ∧
    (∀ l', ((s.placeEvent l e).lane l').violations = (s.lane l').violations) ∧
    (s.placeEvent l e).scanner = s.scanner ∧
    (s.placeEvent l e).exchanges = s.exchanges ∧
    (∀ j, (s.placeEvent l e).entry j = s.entry j) ∧
    (s.placeEvent l e).routes = s.routes ∧
    (s.placeEvent l e).hub = s.hub ∧
    (s.placeEvent l e).panel = s.panel ∧
    (s.placeEvent l e).touch = s.touch ∧
    (∀ j, (s.placeEvent l e).contact j = s.contact j) ∧
    (s.placeEvent l e).keys = s.keys ∧
    (∀ k', (s.placeEvent l e).key k' = s.key k') ∧
    (s.placeEvent l e).lines = s.lines ∧
    (∀ n', (s.placeEvent l e).line n' = s.line n') ∧
    (s.placeEvent l e).combiner = s.combiner ∧
    (s.placeEvent l e).pending = s.pending ∧
    (∀ d', ((s.placeEvent l e).dom d').window = (s.dom d').window) ∧
    (∀ d', ((s.placeEvent l e).dom d').status = (s.dom d').status) ∧
    (∀ d', ((s.placeEvent l e).dom d').initialising = (s.dom d').initialising) ∧
    (∀ d', ((s.placeEvent l e).dom d').remembered = (s.dom d').remembered) ∧
    (∀ d', ((s.placeEvent l e).dom d').stray = (s.dom d').stray) ∧
    (∀ d', ((s.placeEvent l e).dom d').release = (s.dom d').release) ∧
    (∀ d', ((s.placeEvent l e).dom d').enables = (s.dom d').enables) ∧
    (∀ d', ((s.placeEvent l e).dom d').urgent = (s.dom d').urgent) ∧
    (∀ d', ((s.placeEvent l e).dom d').split = (s.dom d').split) ∧
    (∀ d', ((s.placeEvent l e).dom d').readData = (s.dom d').readData) := by
  simp only [State.placeEvent]
  (repeat' split) <;> simp

/-! ## The exchange table -/

/-- What `State.freeEntry` leaves as it was. -/
@[simp] theorem State.freeEntry_frame (s : State) (i : Fin 48) :
    (s.freeEntry i).now = s.now ∧
    (s.freeEntry i).inReset = s.inReset ∧
    (s.freeEntry i).lanes = s.lanes ∧ (∀ l', (s.freeEntry i).lane l' = s.lane l') ∧
    (s.freeEntry i).scanner = s.scanner ∧
    (s.freeEntry i).routes = s.routes ∧
    (s.freeEntry i).hub = s.hub ∧
    (s.freeEntry i).panel = s.panel ∧
    (s.freeEntry i).touch = s.touch ∧
    (∀ j, (s.freeEntry i).contact j = s.contact j) ∧
    (s.freeEntry i).keys = s.keys ∧
    (∀ k', (s.freeEntry i).key k' = s.key k') ∧
    (s.freeEntry i).lines = s.lines ∧
    (∀ n', (s.freeEntry i).line n' = s.line n') ∧
    (s.freeEntry i).combiner = s.combiner ∧
    (s.freeEntry i).pending = s.pending ∧
    (∀ d', (s.freeEntry i).dom d' = s.dom d') := by
  simp [State.freeEntry]

/-- What `State.claim` leaves as it was. -/
@[simp] theorem State.claim_frame (s : State) (i : Fin 48) (x : Exchange) :
    (s.claim i x).now = s.now ∧
    (s.claim i x).inReset = s.inReset ∧
    (s.claim i x).lanes = s.lanes ∧ (∀ l', (s.claim i x).lane l' = s.lane l') ∧
    (s.claim i x).scanner = s.scanner ∧
    (s.claim i x).routes = s.routes ∧
    (s.claim i x).hub = s.hub ∧
    (s.claim i x).panel = s.panel ∧
    (s.claim i x).touch = s.touch ∧
    (∀ j, (s.claim i x).contact j = s.contact j) ∧
    (s.claim i x).keys = s.keys ∧
    (∀ k', (s.claim i x).key k' = s.key k') ∧
    (s.claim i x).lines = s.lines ∧
    (∀ n', (s.claim i x).line n' = s.line n') ∧
    (s.claim i x).combiner = s.combiner ∧
    (s.claim i x).pending = s.pending ∧
    (∀ d', (s.claim i x).dom d' = s.dom d') := by
  simp only [State.claim]
  (repeat' split) <;> simp

/-- What `State.conclude` leaves as it was. -/
@[simp] theorem State.conclude_frame (s : State) (i : Fin 48) (x : Exchange) (c : Conclusion) :
    (s.conclude i x c).now = s.now ∧
    (s.conclude i x c).inReset = s.inReset ∧
    (∀ l', ((s.conclude i x c).lane l').takeCursor = (s.lane l').takeCursor) ∧
    (∀ l', ((s.conclude i x c).lane l').scanWanted = (s.lane l').scanWanted) ∧
    (∀ l', ((s.conclude i x c).lane l').bufferWait = (s.lane l').bufferWait) ∧
    (∀ l', ((s.conclude i x c).lane l').putCursor = (s.lane l').putCursor) ∧
    (∀ l', ((s.conclude i x c).lane l').deliveryNumber = (s.lane l').deliveryNumber) ∧
    (∀ l', ((s.conclude i x c).lane l').roomWait = (s.lane l').roomWait) ∧
    (∀ l', ((s.conclude i x c).lane l').gapPending = (s.lane l').gapPending) ∧
    (∀ l', ((s.conclude i x c).lane l').fenced = (s.lane l').fenced) ∧
    (∀ l', ((s.conclude i x c).lane l').autoFenced = (s.lane l').autoFenced) ∧
    (∀ l', ((s.conclude i x c).lane l').tally = (s.lane l').tally) ∧
    (∀ l', ((s.conclude i x c).lane l').limit = (s.lane l').limit) ∧
    (∀ l', ((s.conclude i x c).lane l').admitted = (s.lane l').admitted) ∧
    (∀ l', ((s.conclude i x c).lane l').refused = (s.lane l').refused) ∧
    (∀ l', ((s.conclude i x c).lane l').violations = (s.lane l').violations) ∧
    (∀ l', ((s.conclude i x c).lane l').inputLost = (s.lane l').inputLost) ∧
    (s.conclude i x c).scanner = s.scanner ∧
    (s.conclude i x c).routes = s.routes ∧
    (s.conclude i x c).hub = s.hub ∧
    (s.conclude i x c).panel = s.panel ∧
    (s.conclude i x c).touch = s.touch ∧
    (∀ j, (s.conclude i x c).contact j = s.contact j) ∧
    (s.conclude i x c).keys = s.keys ∧
    (∀ k', (s.conclude i x c).key k' = s.key k') ∧
    (s.conclude i x c).lines = s.lines ∧
    (∀ n', (s.conclude i x c).line n' = s.line n') ∧
    (s.conclude i x c).combiner = s.combiner ∧
    (s.conclude i x c).pending = s.pending ∧
    (∀ d', (s.conclude i x c).dom d' = s.dom d') := by
  simp only [State.conclude]
  (repeat' split) <;> simp

/-- What `State.concluded` leaves as it was. -/
@[simp] theorem State.concluded_frame (s : State) (i : Fin 48) :
    (s.concluded i).now = s.now ∧
    (s.concluded i).inReset = s.inReset ∧
    (s.concluded i).lanes = s.lanes ∧ (∀ l', (s.concluded i).lane l' = s.lane l') ∧
    (s.concluded i).scanner = s.scanner ∧
    (s.concluded i).routes = s.routes ∧
    (s.concluded i).hub = s.hub ∧
    (s.concluded i).panel = s.panel ∧
    (s.concluded i).touch = s.touch ∧
    (∀ j, (s.concluded i).contact j = s.contact j) ∧
    (s.concluded i).keys = s.keys ∧
    (∀ k', (s.concluded i).key k' = s.key k') ∧
    (s.concluded i).lines = s.lines ∧
    (∀ n', (s.concluded i).line n' = s.line n') ∧
    (s.concluded i).combiner = s.combiner ∧
    (s.concluded i).pending = s.pending ∧
    (∀ d', (s.concluded i).dom d' = s.dom d') := by
  simp only [State.concluded]
  (repeat' split) <;> simp

/-- What `State.removeRequest` leaves as it was. -/
@[simp] theorem State.removeRequest_frame (s : State) (tag : Nat) :
    (s.removeRequest tag).now = s.now ∧
    (s.removeRequest tag).inReset = s.inReset ∧
    (∀ l', ((s.removeRequest tag).lane l').takeCursor = (s.lane l').takeCursor) ∧
    (∀ l', ((s.removeRequest tag).lane l').scanWanted = (s.lane l').scanWanted) ∧
    (∀ l', ((s.removeRequest tag).lane l').putCursor = (s.lane l').putCursor) ∧
    (∀ l', ((s.removeRequest tag).lane l').deliveryNumber = (s.lane l').deliveryNumber) ∧
    (∀ l', ((s.removeRequest tag).lane l').roomWait = (s.lane l').roomWait) ∧
    (∀ l', ((s.removeRequest tag).lane l').gapPending = (s.lane l').gapPending) ∧
    (∀ l', ((s.removeRequest tag).lane l').fenced = (s.lane l').fenced) ∧
    (∀ l', ((s.removeRequest tag).lane l').autoFenced = (s.lane l').autoFenced) ∧
    (∀ l', ((s.removeRequest tag).lane l').tally = (s.lane l').tally) ∧
    (∀ l', ((s.removeRequest tag).lane l').limit = (s.lane l').limit) ∧
    (∀ l', ((s.removeRequest tag).lane l').admitted = (s.lane l').admitted) ∧
    (∀ l', ((s.removeRequest tag).lane l').refused = (s.lane l').refused) ∧
    (∀ l', ((s.removeRequest tag).lane l').violations = (s.lane l').violations) ∧
    (∀ l', ((s.removeRequest tag).lane l').dropped = (s.lane l').dropped) ∧
    (∀ l', ((s.removeRequest tag).lane l').inputLost = (s.lane l').inputLost) ∧
    (s.removeRequest tag).scanner = s.scanner ∧
    (s.removeRequest tag).exchanges = s.exchanges ∧
    (∀ j, (s.removeRequest tag).entry j = s.entry j) ∧
    (s.removeRequest tag).routes = s.routes ∧
    (s.removeRequest tag).hub.mode = s.hub.mode ∧
    (s.removeRequest tag).hub.routesLoaded = s.hub.routesLoaded ∧
    (s.removeRequest tag).hub.loading = s.hub.loading ∧
    (s.removeRequest tag).hub.outstanding = s.hub.outstanding ∧
    (s.removeRequest tag).panel = s.panel ∧
    (s.removeRequest tag).touch = s.touch ∧
    (∀ j, (s.removeRequest tag).contact j = s.contact j) ∧
    (s.removeRequest tag).keys = s.keys ∧
    (∀ k', (s.removeRequest tag).key k' = s.key k') ∧
    (s.removeRequest tag).lines = s.lines ∧
    (∀ n', (s.removeRequest tag).line n' = s.line n') ∧
    (s.removeRequest tag).combiner = s.combiner ∧
    (s.removeRequest tag).pending = s.pending ∧
    (∀ d', (s.removeRequest tag).dom d' = s.dom d') := by
  simp [State.removeRequest]

/-- What `State.expire` leaves as it was. -/
@[simp] theorem State.expire_frame (s : State) (i : Fin 48) :
    (s.expire i).now = s.now ∧
    (s.expire i).inReset = s.inReset ∧
    (∀ l', ((s.expire i).lane l').takeCursor = (s.lane l').takeCursor) ∧
    (∀ l', ((s.expire i).lane l').scanWanted = (s.lane l').scanWanted) ∧
    (∀ l', ((s.expire i).lane l').putCursor = (s.lane l').putCursor) ∧
    (∀ l', ((s.expire i).lane l').deliveryNumber = (s.lane l').deliveryNumber) ∧
    (∀ l', ((s.expire i).lane l').roomWait = (s.lane l').roomWait) ∧
    (∀ l', ((s.expire i).lane l').gapPending = (s.lane l').gapPending) ∧
    (∀ l', ((s.expire i).lane l').fenced = (s.lane l').fenced) ∧
    (∀ l', ((s.expire i).lane l').autoFenced = (s.lane l').autoFenced) ∧
    (∀ l', ((s.expire i).lane l').tally = (s.lane l').tally) ∧
    (∀ l', ((s.expire i).lane l').limit = (s.lane l').limit) ∧
    (∀ l', ((s.expire i).lane l').admitted = (s.lane l').admitted) ∧
    (∀ l', ((s.expire i).lane l').refused = (s.lane l').refused) ∧
    (∀ l', ((s.expire i).lane l').violations = (s.lane l').violations) ∧
    (∀ l', ((s.expire i).lane l').inputLost = (s.lane l').inputLost) ∧
    (s.expire i).scanner = s.scanner ∧
    (s.expire i).routes = s.routes ∧
    (s.expire i).hub.mode = s.hub.mode ∧
    (s.expire i).hub.routesLoaded = s.hub.routesLoaded ∧
    (s.expire i).hub.loading = s.hub.loading ∧
    (s.expire i).hub.outstanding = s.hub.outstanding ∧
    (s.expire i).panel = s.panel ∧
    (s.expire i).touch = s.touch ∧
    (∀ j, (s.expire i).contact j = s.contact j) ∧
    (s.expire i).keys = s.keys ∧
    (∀ k', (s.expire i).key k' = s.key k') ∧
    (s.expire i).lines = s.lines ∧
    (∀ n', (s.expire i).line n' = s.line n') ∧
    (s.expire i).combiner = s.combiner ∧
    (s.expire i).pending = s.pending ∧
    (∀ d', (s.expire i).dom d' = s.dom d') := by
  simp only [State.expire]
  (repeat' split) <;> simp

/-- What `State.responderRemoved` leaves as it was. -/
@[simp] theorem State.responderRemoved_frame (s : State) (i : Fin 48) :
    (s.responderRemoved i).now = s.now ∧
    (s.responderRemoved i).inReset = s.inReset ∧
    (∀ l', ((s.responderRemoved i).lane l').takeCursor = (s.lane l').takeCursor) ∧
    (∀ l', ((s.responderRemoved i).lane l').scanWanted = (s.lane l').scanWanted) ∧
    (∀ l', ((s.responderRemoved i).lane l').bufferWait = (s.lane l').bufferWait) ∧
    (∀ l', ((s.responderRemoved i).lane l').putCursor = (s.lane l').putCursor) ∧
    (∀ l', ((s.responderRemoved i).lane l').deliveryNumber = (s.lane l').deliveryNumber) ∧
    (∀ l', ((s.responderRemoved i).lane l').roomWait = (s.lane l').roomWait) ∧
    (∀ l', ((s.responderRemoved i).lane l').gapPending = (s.lane l').gapPending) ∧
    (∀ l', ((s.responderRemoved i).lane l').fenced = (s.lane l').fenced) ∧
    (∀ l', ((s.responderRemoved i).lane l').autoFenced = (s.lane l').autoFenced) ∧
    (∀ l', ((s.responderRemoved i).lane l').tally = (s.lane l').tally) ∧
    (∀ l', ((s.responderRemoved i).lane l').limit = (s.lane l').limit) ∧
    (∀ l', ((s.responderRemoved i).lane l').admitted = (s.lane l').admitted) ∧
    (∀ l', ((s.responderRemoved i).lane l').refused = (s.lane l').refused) ∧
    (∀ l', ((s.responderRemoved i).lane l').violations = (s.lane l').violations) ∧
    (∀ l', ((s.responderRemoved i).lane l').inputLost = (s.lane l').inputLost) ∧
    (s.responderRemoved i).scanner = s.scanner ∧
    (s.responderRemoved i).routes = s.routes ∧
    (s.responderRemoved i).hub = s.hub ∧
    (s.responderRemoved i).panel = s.panel ∧
    (s.responderRemoved i).touch = s.touch ∧
    (∀ j, (s.responderRemoved i).contact j = s.contact j) ∧
    (s.responderRemoved i).keys = s.keys ∧
    (∀ k', (s.responderRemoved i).key k' = s.key k') ∧
    (s.responderRemoved i).lines = s.lines ∧
    (∀ n', (s.responderRemoved i).line n' = s.line n') ∧
    (s.responderRemoved i).combiner = s.combiner ∧
    (s.responderRemoved i).pending = s.pending ∧
    (∀ d', (s.responderRemoved i).dom d' = s.dom d') := by
  simp only [State.responderRemoved]
  (repeat' split) <;> simp

/-- What `State.orderConclusions` leaves as it was. -/
@[simp] theorem State.orderConclusions_frame (s : State) (was : State) :
    (State.orderConclusions was s).now = s.now ∧
    (State.orderConclusions was s).inReset = s.inReset ∧
    (∀ l', ((State.orderConclusions was s).lane l').takeCursor = (s.lane l').takeCursor) ∧
    (∀ l', ((State.orderConclusions was s).lane l').scanWanted = (s.lane l').scanWanted) ∧
    (∀ l', ((State.orderConclusions was s).lane l').bufferWait = (s.lane l').bufferWait) ∧
    (∀ l', ((State.orderConclusions was s).lane l').putCursor = (s.lane l').putCursor) ∧
    (∀ l', ((State.orderConclusions was s).lane l').deliveryNumber = (s.lane l').deliveryNumber) ∧
    (∀ l', ((State.orderConclusions was s).lane l').roomWait = (s.lane l').roomWait) ∧
    (∀ l', ((State.orderConclusions was s).lane l').gapPending = (s.lane l').gapPending) ∧
    (∀ l', ((State.orderConclusions was s).lane l').fenced = (s.lane l').fenced) ∧
    (∀ l', ((State.orderConclusions was s).lane l').autoFenced = (s.lane l').autoFenced) ∧
    (∀ l', ((State.orderConclusions was s).lane l').tally = (s.lane l').tally) ∧
    (∀ l', ((State.orderConclusions was s).lane l').limit = (s.lane l').limit) ∧
    (∀ l', ((State.orderConclusions was s).lane l').admitted = (s.lane l').admitted) ∧
    (∀ l', ((State.orderConclusions was s).lane l').refused = (s.lane l').refused) ∧
    (∀ l', ((State.orderConclusions was s).lane l').violations = (s.lane l').violations) ∧
    (∀ l', ((State.orderConclusions was s).lane l').dropped = (s.lane l').dropped) ∧
    (∀ l', ((State.orderConclusions was s).lane l').inputLost = (s.lane l').inputLost) ∧
    (State.orderConclusions was s).scanner = s.scanner ∧
    (State.orderConclusions was s).exchanges = s.exchanges ∧
    (∀ j, (State.orderConclusions was s).entry j = s.entry j) ∧
    (State.orderConclusions was s).routes = s.routes ∧
    (State.orderConclusions was s).hub = s.hub ∧
    (State.orderConclusions was s).panel = s.panel ∧
    (State.orderConclusions was s).touch = s.touch ∧
    (∀ j, (State.orderConclusions was s).contact j = s.contact j) ∧
    (State.orderConclusions was s).keys = s.keys ∧
    (∀ k', (State.orderConclusions was s).key k' = s.key k') ∧
    (State.orderConclusions was s).lines = s.lines ∧
    (∀ n', (State.orderConclusions was s).line n' = s.line n') ∧
    (State.orderConclusions was s).combiner = s.combiner ∧
    (State.orderConclusions was s).pending = s.pending ∧
    (∀ d', (State.orderConclusions was s).dom d' = s.dom d') := by
  simp [State.orderConclusions]

/-- What `State.removeFrom` leaves as it was. -/
@[simp] theorem State.removeFrom_frame (s : State) (gone : Lane → Bool) (keepHub : Bool) (i : Fin 48) :
    (State.removeFrom gone keepHub s i).now = s.now ∧
    (State.removeFrom gone keepHub s i).inReset = s.inReset ∧
    (∀ l', ((State.removeFrom gone keepHub s i).lane l').takeCursor = (s.lane l').takeCursor) ∧
    (∀ l', ((State.removeFrom gone keepHub s i).lane l').scanWanted = (s.lane l').scanWanted) ∧
    (∀ l', ((State.removeFrom gone keepHub s i).lane l').bufferWait = (s.lane l').bufferWait) ∧
    (∀ l', ((State.removeFrom gone keepHub s i).lane l').putCursor = (s.lane l').putCursor) ∧
    (∀ l', ((State.removeFrom gone keepHub s i).lane l').deliveryNumber = (s.lane l').deliveryNumber) ∧
    (∀ l', ((State.removeFrom gone keepHub s i).lane l').roomWait = (s.lane l').roomWait) ∧
    (∀ l', ((State.removeFrom gone keepHub s i).lane l').gapPending = (s.lane l').gapPending) ∧
    (∀ l', ((State.removeFrom gone keepHub s i).lane l').fenced = (s.lane l').fenced) ∧
    (∀ l', ((State.removeFrom gone keepHub s i).lane l').autoFenced = (s.lane l').autoFenced) ∧
    (∀ l', ((State.removeFrom gone keepHub s i).lane l').tally = (s.lane l').tally) ∧
    (∀ l', ((State.removeFrom gone keepHub s i).lane l').limit = (s.lane l').limit) ∧
    (∀ l', ((State.removeFrom gone keepHub s i).lane l').admitted = (s.lane l').admitted) ∧
    (∀ l', ((State.removeFrom gone keepHub s i).lane l').refused = (s.lane l').refused) ∧
    (∀ l', ((State.removeFrom gone keepHub s i).lane l').violations = (s.lane l').violations) ∧
    (∀ l', ((State.removeFrom gone keepHub s i).lane l').inputLost = (s.lane l').inputLost) ∧
    (State.removeFrom gone keepHub s i).scanner = s.scanner ∧
    (State.removeFrom gone keepHub s i).routes = s.routes ∧
    (State.removeFrom gone keepHub s i).hub = s.hub ∧
    (State.removeFrom gone keepHub s i).panel = s.panel ∧
    (State.removeFrom gone keepHub s i).touch = s.touch ∧
    (∀ j, (State.removeFrom gone keepHub s i).contact j = s.contact j) ∧
    (State.removeFrom gone keepHub s i).keys = s.keys ∧
    (∀ k', (State.removeFrom gone keepHub s i).key k' = s.key k') ∧
    (State.removeFrom gone keepHub s i).lines = s.lines ∧
    (∀ n', (State.removeFrom gone keepHub s i).line n' = s.line n') ∧
    (State.removeFrom gone keepHub s i).combiner = s.combiner ∧
    (State.removeFrom gone keepHub s i).pending = s.pending ∧
    (∀ d', (State.removeFrom gone keepHub s i).dom d' = s.dom d') := by
  simp only [State.removeFrom]
  (repeat' split) <;> simp

/-- What a fold of `State.removeFrom` leaves as it was. -/
@[simp] theorem State.removeFrom_fold (gone : Lane → Bool) (keepHub : Bool) (xs : List (Fin 48)) (s : State) :
    (xs.foldl (State.removeFrom gone keepHub) s).now = s.now ∧
    (xs.foldl (State.removeFrom gone keepHub) s).inReset = s.inReset ∧
    (∀ l', ((xs.foldl (State.removeFrom gone keepHub) s).lane l').takeCursor = (s.lane l').takeCursor) ∧
    (∀ l', ((xs.foldl (State.removeFrom gone keepHub) s).lane l').scanWanted = (s.lane l').scanWanted) ∧
    (∀ l', ((xs.foldl (State.removeFrom gone keepHub) s).lane l').bufferWait = (s.lane l').bufferWait) ∧
    (∀ l', ((xs.foldl (State.removeFrom gone keepHub) s).lane l').putCursor = (s.lane l').putCursor) ∧
    (∀ l', ((xs.foldl (State.removeFrom gone keepHub) s).lane l').deliveryNumber = (s.lane l').deliveryNumber) ∧
    (∀ l', ((xs.foldl (State.removeFrom gone keepHub) s).lane l').roomWait = (s.lane l').roomWait) ∧
    (∀ l', ((xs.foldl (State.removeFrom gone keepHub) s).lane l').gapPending = (s.lane l').gapPending) ∧
    (∀ l', ((xs.foldl (State.removeFrom gone keepHub) s).lane l').fenced = (s.lane l').fenced) ∧
    (∀ l', ((xs.foldl (State.removeFrom gone keepHub) s).lane l').autoFenced = (s.lane l').autoFenced) ∧
    (∀ l', ((xs.foldl (State.removeFrom gone keepHub) s).lane l').tally = (s.lane l').tally) ∧
    (∀ l', ((xs.foldl (State.removeFrom gone keepHub) s).lane l').limit = (s.lane l').limit) ∧
    (∀ l', ((xs.foldl (State.removeFrom gone keepHub) s).lane l').admitted = (s.lane l').admitted) ∧
    (∀ l', ((xs.foldl (State.removeFrom gone keepHub) s).lane l').refused = (s.lane l').refused) ∧
    (∀ l', ((xs.foldl (State.removeFrom gone keepHub) s).lane l').violations = (s.lane l').violations) ∧
    (∀ l', ((xs.foldl (State.removeFrom gone keepHub) s).lane l').inputLost = (s.lane l').inputLost) ∧
    (xs.foldl (State.removeFrom gone keepHub) s).scanner = s.scanner ∧
    (xs.foldl (State.removeFrom gone keepHub) s).routes = s.routes ∧
    (xs.foldl (State.removeFrom gone keepHub) s).hub = s.hub ∧
    (xs.foldl (State.removeFrom gone keepHub) s).panel = s.panel ∧
    (xs.foldl (State.removeFrom gone keepHub) s).touch = s.touch ∧
    (∀ j, (xs.foldl (State.removeFrom gone keepHub) s).contact j = s.contact j) ∧
    (xs.foldl (State.removeFrom gone keepHub) s).keys = s.keys ∧
    (∀ k', (xs.foldl (State.removeFrom gone keepHub) s).key k' = s.key k') ∧
    (xs.foldl (State.removeFrom gone keepHub) s).lines = s.lines ∧
    (∀ n', (xs.foldl (State.removeFrom gone keepHub) s).line n' = s.line n') ∧
    (xs.foldl (State.removeFrom gone keepHub) s).combiner = s.combiner ∧
    (xs.foldl (State.removeFrom gone keepHub) s).pending = s.pending ∧
    (∀ d', (xs.foldl (State.removeFrom gone keepHub) s).dom d' = s.dom d') := by
  induction xs generalizing s with
  | nil => simp
  | cons x xs ih => simp [ih]

/-- What `State.removeExchanges` leaves as it was. -/
@[simp] theorem State.removeExchanges_frame (s : State) (gone : Lane → Bool) (keepHub : Bool) :
    (s.removeExchanges gone keepHub).now = s.now ∧
    (s.removeExchanges gone keepHub).inReset = s.inReset ∧
    (∀ l', ((s.removeExchanges gone keepHub).lane l').takeCursor = (s.lane l').takeCursor) ∧
    (∀ l', ((s.removeExchanges gone keepHub).lane l').scanWanted = (s.lane l').scanWanted) ∧
    (∀ l', ((s.removeExchanges gone keepHub).lane l').bufferWait = (s.lane l').bufferWait) ∧
    (∀ l', ((s.removeExchanges gone keepHub).lane l').putCursor = (s.lane l').putCursor) ∧
    (∀ l', ((s.removeExchanges gone keepHub).lane l').deliveryNumber = (s.lane l').deliveryNumber) ∧
    (∀ l', ((s.removeExchanges gone keepHub).lane l').roomWait = (s.lane l').roomWait) ∧
    (∀ l', ((s.removeExchanges gone keepHub).lane l').gapPending = (s.lane l').gapPending) ∧
    (∀ l', ((s.removeExchanges gone keepHub).lane l').fenced = (s.lane l').fenced) ∧
    (∀ l', ((s.removeExchanges gone keepHub).lane l').autoFenced = (s.lane l').autoFenced) ∧
    (∀ l', ((s.removeExchanges gone keepHub).lane l').tally = (s.lane l').tally) ∧
    (∀ l', ((s.removeExchanges gone keepHub).lane l').limit = (s.lane l').limit) ∧
    (∀ l', ((s.removeExchanges gone keepHub).lane l').admitted = (s.lane l').admitted) ∧
    (∀ l', ((s.removeExchanges gone keepHub).lane l').refused = (s.lane l').refused) ∧
    (∀ l', ((s.removeExchanges gone keepHub).lane l').violations = (s.lane l').violations) ∧
    (∀ l', ((s.removeExchanges gone keepHub).lane l').inputLost = (s.lane l').inputLost) ∧
    (s.removeExchanges gone keepHub).scanner = s.scanner ∧
    (s.removeExchanges gone keepHub).routes = s.routes ∧
    (s.removeExchanges gone keepHub).hub = s.hub ∧
    (s.removeExchanges gone keepHub).panel = s.panel ∧
    (s.removeExchanges gone keepHub).touch = s.touch ∧
    (∀ j, (s.removeExchanges gone keepHub).contact j = s.contact j) ∧
    (s.removeExchanges gone keepHub).keys = s.keys ∧
    (∀ k', (s.removeExchanges gone keepHub).key k' = s.key k') ∧
    (s.removeExchanges gone keepHub).lines = s.lines ∧
    (∀ n', (s.removeExchanges gone keepHub).line n' = s.line n') ∧
    (s.removeExchanges gone keepHub).combiner = s.combiner ∧
    (s.removeExchanges gone keepHub).pending = s.pending ∧
    (∀ d', (s.removeExchanges gone keepHub).dom d' = s.dom d') := by
  simp [State.removeExchanges]

/-- What `State.lockEntry` leaves as it was. -/
@[simp] theorem State.lockEntry_frame (s : State) (i : Fin 48) :
    (s.lockEntry i).now = s.now ∧
    (s.lockEntry i).inReset = s.inReset ∧
    (∀ l', ((s.lockEntry i).lane l').takeCursor = (s.lane l').takeCursor) ∧
    (∀ l', ((s.lockEntry i).lane l').scanWanted = (s.lane l').scanWanted) ∧
    (∀ l', ((s.lockEntry i).lane l').bufferWait = (s.lane l').bufferWait) ∧
    (∀ l', ((s.lockEntry i).lane l').putCursor = (s.lane l').putCursor) ∧
    (∀ l', ((s.lockEntry i).lane l').deliveryNumber = (s.lane l').deliveryNumber) ∧
    (∀ l', ((s.lockEntry i).lane l').roomWait = (s.lane l').roomWait) ∧
    (∀ l', ((s.lockEntry i).lane l').gapPending = (s.lane l').gapPending) ∧
    (∀ l', ((s.lockEntry i).lane l').fenced = (s.lane l').fenced) ∧
    (∀ l', ((s.lockEntry i).lane l').autoFenced = (s.lane l').autoFenced) ∧
    (∀ l', ((s.lockEntry i).lane l').tally = (s.lane l').tally) ∧
    (∀ l', ((s.lockEntry i).lane l').limit = (s.lane l').limit) ∧
    (∀ l', ((s.lockEntry i).lane l').admitted = (s.lane l').admitted) ∧
    (∀ l', ((s.lockEntry i).lane l').refused = (s.lane l').refused) ∧
    (∀ l', ((s.lockEntry i).lane l').violations = (s.lane l').violations) ∧
    (∀ l', ((s.lockEntry i).lane l').inputLost = (s.lane l').inputLost) ∧
    (s.lockEntry i).scanner = s.scanner ∧
    (s.lockEntry i).routes = s.routes ∧
    (s.lockEntry i).hub = s.hub ∧
    (s.lockEntry i).panel = s.panel ∧
    (s.lockEntry i).touch = s.touch ∧
    (∀ j, (s.lockEntry i).contact j = s.contact j) ∧
    (s.lockEntry i).keys = s.keys ∧
    (∀ k', (s.lockEntry i).key k' = s.key k') ∧
    (s.lockEntry i).lines = s.lines ∧
    (∀ n', (s.lockEntry i).line n' = s.line n') ∧
    (s.lockEntry i).combiner = s.combiner ∧
    (s.lockEntry i).pending = s.pending ∧
    (∀ d', (s.lockEntry i).dom d' = s.dom d') := by
  simp only [State.lockEntry]
  (repeat' split) <;> simp

/-- What a fold of `State.lockEntry` leaves as it was. -/
@[simp] theorem State.lockEntry_fold  (xs : List (Fin 48)) (s : State) :
    (xs.foldl State.lockEntry s).now = s.now ∧
    (xs.foldl State.lockEntry s).inReset = s.inReset ∧
    (∀ l', ((xs.foldl State.lockEntry s).lane l').takeCursor = (s.lane l').takeCursor) ∧
    (∀ l', ((xs.foldl State.lockEntry s).lane l').scanWanted = (s.lane l').scanWanted) ∧
    (∀ l', ((xs.foldl State.lockEntry s).lane l').bufferWait = (s.lane l').bufferWait) ∧
    (∀ l', ((xs.foldl State.lockEntry s).lane l').putCursor = (s.lane l').putCursor) ∧
    (∀ l', ((xs.foldl State.lockEntry s).lane l').deliveryNumber = (s.lane l').deliveryNumber) ∧
    (∀ l', ((xs.foldl State.lockEntry s).lane l').roomWait = (s.lane l').roomWait) ∧
    (∀ l', ((xs.foldl State.lockEntry s).lane l').gapPending = (s.lane l').gapPending) ∧
    (∀ l', ((xs.foldl State.lockEntry s).lane l').fenced = (s.lane l').fenced) ∧
    (∀ l', ((xs.foldl State.lockEntry s).lane l').autoFenced = (s.lane l').autoFenced) ∧
    (∀ l', ((xs.foldl State.lockEntry s).lane l').tally = (s.lane l').tally) ∧
    (∀ l', ((xs.foldl State.lockEntry s).lane l').limit = (s.lane l').limit) ∧
    (∀ l', ((xs.foldl State.lockEntry s).lane l').admitted = (s.lane l').admitted) ∧
    (∀ l', ((xs.foldl State.lockEntry s).lane l').refused = (s.lane l').refused) ∧
    (∀ l', ((xs.foldl State.lockEntry s).lane l').violations = (s.lane l').violations) ∧
    (∀ l', ((xs.foldl State.lockEntry s).lane l').inputLost = (s.lane l').inputLost) ∧
    (xs.foldl State.lockEntry s).scanner = s.scanner ∧
    (xs.foldl State.lockEntry s).routes = s.routes ∧
    (xs.foldl State.lockEntry s).hub = s.hub ∧
    (xs.foldl State.lockEntry s).panel = s.panel ∧
    (xs.foldl State.lockEntry s).touch = s.touch ∧
    (∀ j, (xs.foldl State.lockEntry s).contact j = s.contact j) ∧
    (xs.foldl State.lockEntry s).keys = s.keys ∧
    (∀ k', (xs.foldl State.lockEntry s).key k' = s.key k') ∧
    (xs.foldl State.lockEntry s).lines = s.lines ∧
    (∀ n', (xs.foldl State.lockEntry s).line n' = s.line n') ∧
    (xs.foldl State.lockEntry s).combiner = s.combiner ∧
    (xs.foldl State.lockEntry s).pending = s.pending ∧
    (∀ d', (xs.foldl State.lockEntry s).dom d' = s.dom d') := by
  induction xs generalizing s with
  | nil => simp
  | cons x xs ih => simp [ih]

/-- What `State.lockExchanges` leaves as it was. -/
@[simp] theorem State.lockExchanges_frame (s : State)  :
    (s.lockExchanges).now = s.now ∧
    (s.lockExchanges).inReset = s.inReset ∧
    (∀ l', ((s.lockExchanges).lane l').takeCursor = (s.lane l').takeCursor) ∧
    (∀ l', ((s.lockExchanges).lane l').scanWanted = (s.lane l').scanWanted) ∧
    (∀ l', ((s.lockExchanges).lane l').bufferWait = (s.lane l').bufferWait) ∧
    (∀ l', ((s.lockExchanges).lane l').putCursor = (s.lane l').putCursor) ∧
    (∀ l', ((s.lockExchanges).lane l').deliveryNumber = (s.lane l').deliveryNumber) ∧
    (∀ l', ((s.lockExchanges).lane l').roomWait = (s.lane l').roomWait) ∧
    (∀ l', ((s.lockExchanges).lane l').gapPending = (s.lane l').gapPending) ∧
    (∀ l', ((s.lockExchanges).lane l').fenced = (s.lane l').fenced) ∧
    (∀ l', ((s.lockExchanges).lane l').autoFenced = (s.lane l').autoFenced) ∧
    (∀ l', ((s.lockExchanges).lane l').tally = (s.lane l').tally) ∧
    (∀ l', ((s.lockExchanges).lane l').limit = (s.lane l').limit) ∧
    (∀ l', ((s.lockExchanges).lane l').admitted = (s.lane l').admitted) ∧
    (∀ l', ((s.lockExchanges).lane l').refused = (s.lane l').refused) ∧
    (∀ l', ((s.lockExchanges).lane l').violations = (s.lane l').violations) ∧
    (∀ l', ((s.lockExchanges).lane l').inputLost = (s.lane l').inputLost) ∧
    (s.lockExchanges).scanner = s.scanner ∧
    (s.lockExchanges).routes = s.routes ∧
    (s.lockExchanges).hub = s.hub ∧
    (s.lockExchanges).panel = s.panel ∧
    (s.lockExchanges).touch = s.touch ∧
    (∀ j, (s.lockExchanges).contact j = s.contact j) ∧
    (s.lockExchanges).keys = s.keys ∧
    (∀ k', (s.lockExchanges).key k' = s.key k') ∧
    (s.lockExchanges).lines = s.lines ∧
    (∀ n', (s.lockExchanges).line n' = s.line n') ∧
    (s.lockExchanges).combiner = s.combiner ∧
    (s.lockExchanges).pending = s.pending ∧
    (∀ d', (s.lockExchanges).dom d' = s.dom d') := by
  simp [State.lockExchanges]

/-- What `State.lateSeen` leaves as it was. -/
@[simp] theorem State.lateSeen_frame (s : State) (tag : Nat) :
    (s.lateSeen tag).now = s.now ∧
    (s.lateSeen tag).inReset = s.inReset ∧
    (s.lateSeen tag).lanes = s.lanes ∧ (∀ l', (s.lateSeen tag).lane l' = s.lane l') ∧
    (s.lateSeen tag).scanner = s.scanner ∧
    (s.lateSeen tag).routes = s.routes ∧
    (s.lateSeen tag).hub = s.hub ∧
    (s.lateSeen tag).panel = s.panel ∧
    (s.lateSeen tag).touch = s.touch ∧
    (∀ j, (s.lateSeen tag).contact j = s.contact j) ∧
    (s.lateSeen tag).keys = s.keys ∧
    (∀ k', (s.lateSeen tag).key k' = s.key k') ∧
    (s.lateSeen tag).lines = s.lines ∧
    (∀ n', (s.lateSeen tag).line n' = s.line n') ∧
    (s.lateSeen tag).combiner = s.combiner ∧
    (s.lateSeen tag).pending = s.pending ∧
    (∀ d', (s.lateSeen tag).dom d' = s.dom d') := by
  simp only [State.lateSeen]
  (repeat' split) <;> simp

/-- What `State.hubAwaits` leaves as it was. -/
@[simp] theorem State.hubAwaits_frame (s : State) (tag : Nat) :
    (s.hubAwaits tag).now = s.now ∧
    (s.hubAwaits tag).inReset = s.inReset ∧
    (s.hubAwaits tag).lanes = s.lanes ∧ (∀ l', (s.hubAwaits tag).lane l' = s.lane l') ∧
    (s.hubAwaits tag).scanner = s.scanner ∧
    (s.hubAwaits tag).routes = s.routes ∧
    (s.hubAwaits tag).hub = s.hub ∧
    (s.hubAwaits tag).panel = s.panel ∧
    (s.hubAwaits tag).touch = s.touch ∧
    (∀ j, (s.hubAwaits tag).contact j = s.contact j) ∧
    (s.hubAwaits tag).keys = s.keys ∧
    (∀ k', (s.hubAwaits tag).key k' = s.key k') ∧
    (s.hubAwaits tag).lines = s.lines ∧
    (∀ n', (s.hubAwaits tag).line n' = s.line n') ∧
    (s.hubAwaits tag).combiner = s.combiner ∧
    (s.hubAwaits tag).pending = s.pending ∧
    (∀ d', (s.hubAwaits tag).dom d' = s.dom d') := by
  simp only [State.hubAwaits]
  (repeat' split) <;> simp

/-- What `State.placeReply` leaves as it was. -/
@[simp] theorem State.placeReply_frame (s : State) (l : Lane) (tag : Nat) (reference : Word) (payload : List Byte) :
    (s.placeReply l tag reference payload).now = s.now ∧
    (s.placeReply l tag reference payload).inReset = s.inReset ∧
    (∀ l', ((s.placeReply l tag reference payload).lane l').takeCursor = (s.lane l').takeCursor) ∧
    (∀ l', ((s.placeReply l tag reference payload).lane l').scanWanted = (s.lane l').scanWanted) ∧
    (∀ l', ((s.placeReply l tag reference payload).lane l').bufferWait = (s.lane l').bufferWait) ∧
    (∀ l', ((s.placeReply l tag reference payload).lane l').putCursor = (s.lane l').putCursor) ∧
    (∀ l', ((s.placeReply l tag reference payload).lane l').deliveryNumber = (s.lane l').deliveryNumber) ∧
    (∀ l', ((s.placeReply l tag reference payload).lane l').roomWait = (s.lane l').roomWait) ∧
    (∀ l', ((s.placeReply l tag reference payload).lane l').gapPending = (s.lane l').gapPending) ∧
    (∀ l', ((s.placeReply l tag reference payload).lane l').fenced = (s.lane l').fenced) ∧
    (∀ l', ((s.placeReply l tag reference payload).lane l').autoFenced = (s.lane l').autoFenced) ∧
    (∀ l', ((s.placeReply l tag reference payload).lane l').tally = (s.lane l').tally) ∧
    (∀ l', ((s.placeReply l tag reference payload).lane l').limit = (s.lane l').limit) ∧
    (∀ l', ((s.placeReply l tag reference payload).lane l').admitted = (s.lane l').admitted) ∧
    (∀ l', ((s.placeReply l tag reference payload).lane l').refused = (s.lane l').refused) ∧
    (∀ l', ((s.placeReply l tag reference payload).lane l').violations = (s.lane l').violations) ∧
    (∀ l', ((s.placeReply l tag reference payload).lane l').dropped = (s.lane l').dropped) ∧
    (∀ l', ((s.placeReply l tag reference payload).lane l').inputLost = (s.lane l').inputLost) ∧
    (s.placeReply l tag reference payload).scanner = s.scanner ∧
    (s.placeReply l tag reference payload).exchanges = s.exchanges ∧
    (∀ j, (s.placeReply l tag reference payload).entry j = s.entry j) ∧
    (s.placeReply l tag reference payload).routes = s.routes ∧
    (s.placeReply l tag reference payload).hub = s.hub ∧
    (s.placeReply l tag reference payload).panel = s.panel ∧
    (s.placeReply l tag reference payload).touch = s.touch ∧
    (∀ j, (s.placeReply l tag reference payload).contact j = s.contact j) ∧
    (s.placeReply l tag reference payload).keys = s.keys ∧
    (∀ k', (s.placeReply l tag reference payload).key k' = s.key k') ∧
    (s.placeReply l tag reference payload).lines = s.lines ∧
    (∀ n', (s.placeReply l tag reference payload).line n' = s.line n') ∧
    (s.placeReply l tag reference payload).combiner = s.combiner ∧
    (s.placeReply l tag reference payload).pending = s.pending ∧
    (∀ d', (s.placeReply l tag reference payload).dom d' = s.dom d') := by
  simp [State.placeReply]

/-- What `State.complete` leaves as it was. -/
@[simp] theorem State.complete_frame (s : State) (tag : Nat) (payload : List Byte) :
    (s.complete tag payload).now = s.now ∧
    (s.complete tag payload).inReset = s.inReset ∧
    (∀ l', ((s.complete tag payload).lane l').takeCursor = (s.lane l').takeCursor) ∧
    (∀ l', ((s.complete tag payload).lane l').scanWanted = (s.lane l').scanWanted) ∧
    (∀ l', ((s.complete tag payload).lane l').bufferWait = (s.lane l').bufferWait) ∧
    (∀ l', ((s.complete tag payload).lane l').putCursor = (s.lane l').putCursor) ∧
    (∀ l', ((s.complete tag payload).lane l').deliveryNumber = (s.lane l').deliveryNumber) ∧
    (∀ l', ((s.complete tag payload).lane l').roomWait = (s.lane l').roomWait) ∧
    (∀ l', ((s.complete tag payload).lane l').gapPending = (s.lane l').gapPending) ∧
    (∀ l', ((s.complete tag payload).lane l').fenced = (s.lane l').fenced) ∧
    (∀ l', ((s.complete tag payload).lane l').autoFenced = (s.lane l').autoFenced) ∧
    (∀ l', ((s.complete tag payload).lane l').tally = (s.lane l').tally) ∧
    (∀ l', ((s.complete tag payload).lane l').limit = (s.lane l').limit) ∧
    (∀ l', ((s.complete tag payload).lane l').admitted = (s.lane l').admitted) ∧
    (∀ l', ((s.complete tag payload).lane l').refused = (s.lane l').refused) ∧
    (∀ l', ((s.complete tag payload).lane l').violations = (s.lane l').violations) ∧
    (∀ l', ((s.complete tag payload).lane l').dropped = (s.lane l').dropped) ∧
    (∀ l', ((s.complete tag payload).lane l').inputLost = (s.lane l').inputLost) ∧
    (s.complete tag payload).scanner = s.scanner ∧
    (s.complete tag payload).routes = s.routes ∧
    (s.complete tag payload).hub = s.hub ∧
    (s.complete tag payload).panel = s.panel ∧
    (s.complete tag payload).touch = s.touch ∧
    (∀ j, (s.complete tag payload).contact j = s.contact j) ∧
    (s.complete tag payload).keys = s.keys ∧
    (∀ k', (s.complete tag payload).key k' = s.key k') ∧
    (s.complete tag payload).lines = s.lines ∧
    (∀ n', (s.complete tag payload).line n' = s.line n') ∧
    (s.complete tag payload).combiner = s.combiner ∧
    (s.complete tag payload).pending = s.pending ∧
    (∀ d', (s.complete tag payload).dom d' = s.dom d') := by
  simp only [State.complete]
  (repeat' split) <;> simp

/-- What a fold of `State.complete` leaves as it was. -/
@[simp] theorem State.complete_fold (f : Outstanding → List Byte) (xs : List Outstanding) (s : State) :
    (xs.foldl (fun s o => s.complete o.tag (f o)) s).now = s.now ∧
    (xs.foldl (fun s o => s.complete o.tag (f o)) s).inReset = s.inReset ∧
    (∀ l', ((xs.foldl (fun s o => s.complete o.tag (f o)) s).lane l').takeCursor = (s.lane l').takeCursor) ∧
    (∀ l', ((xs.foldl (fun s o => s.complete o.tag (f o)) s).lane l').scanWanted = (s.lane l').scanWanted) ∧
    (∀ l', ((xs.foldl (fun s o => s.complete o.tag (f o)) s).lane l').bufferWait = (s.lane l').bufferWait) ∧
    (∀ l', ((xs.foldl (fun s o => s.complete o.tag (f o)) s).lane l').putCursor = (s.lane l').putCursor) ∧
    (∀ l', ((xs.foldl (fun s o => s.complete o.tag (f o)) s).lane l').deliveryNumber = (s.lane l').deliveryNumber) ∧
    (∀ l', ((xs.foldl (fun s o => s.complete o.tag (f o)) s).lane l').roomWait = (s.lane l').roomWait) ∧
    (∀ l', ((xs.foldl (fun s o => s.complete o.tag (f o)) s).lane l').gapPending = (s.lane l').gapPending) ∧
    (∀ l', ((xs.foldl (fun s o => s.complete o.tag (f o)) s).lane l').fenced = (s.lane l').fenced) ∧
    (∀ l', ((xs.foldl (fun s o => s.complete o.tag (f o)) s).lane l').autoFenced = (s.lane l').autoFenced) ∧
    (∀ l', ((xs.foldl (fun s o => s.complete o.tag (f o)) s).lane l').tally = (s.lane l').tally) ∧
    (∀ l', ((xs.foldl (fun s o => s.complete o.tag (f o)) s).lane l').limit = (s.lane l').limit) ∧
    (∀ l', ((xs.foldl (fun s o => s.complete o.tag (f o)) s).lane l').admitted = (s.lane l').admitted) ∧
    (∀ l', ((xs.foldl (fun s o => s.complete o.tag (f o)) s).lane l').refused = (s.lane l').refused) ∧
    (∀ l', ((xs.foldl (fun s o => s.complete o.tag (f o)) s).lane l').violations = (s.lane l').violations) ∧
    (∀ l', ((xs.foldl (fun s o => s.complete o.tag (f o)) s).lane l').dropped = (s.lane l').dropped) ∧
    (∀ l', ((xs.foldl (fun s o => s.complete o.tag (f o)) s).lane l').inputLost = (s.lane l').inputLost) ∧
    (xs.foldl (fun s o => s.complete o.tag (f o)) s).scanner = s.scanner ∧
    (xs.foldl (fun s o => s.complete o.tag (f o)) s).routes = s.routes ∧
    (xs.foldl (fun s o => s.complete o.tag (f o)) s).hub = s.hub ∧
    (xs.foldl (fun s o => s.complete o.tag (f o)) s).panel = s.panel ∧
    (xs.foldl (fun s o => s.complete o.tag (f o)) s).touch = s.touch ∧
    (∀ j, (xs.foldl (fun s o => s.complete o.tag (f o)) s).contact j = s.contact j) ∧
    (xs.foldl (fun s o => s.complete o.tag (f o)) s).keys = s.keys ∧
    (∀ k', (xs.foldl (fun s o => s.complete o.tag (f o)) s).key k' = s.key k') ∧
    (xs.foldl (fun s o => s.complete o.tag (f o)) s).lines = s.lines ∧
    (∀ n', (xs.foldl (fun s o => s.complete o.tag (f o)) s).line n' = s.line n') ∧
    (xs.foldl (fun s o => s.complete o.tag (f o)) s).combiner = s.combiner ∧
    (xs.foldl (fun s o => s.complete o.tag (f o)) s).pending = s.pending ∧
    (∀ d', (xs.foldl (fun s o => s.complete o.tag (f o)) s).dom d' = s.dom d') := by
  induction xs generalizing s with
  | nil => simp
  | cons x xs ih => simp [ih]

/-- What `State.completeJobs` leaves as it was. -/
@[simp] theorem State.completeJobs_frame (s : State) (job : Job) (r : HubResult) (detail : Nat) :
    (s.completeJobs job r detail).now = s.now ∧
    (s.completeJobs job r detail).inReset = s.inReset ∧
    (∀ l', ((s.completeJobs job r detail).lane l').takeCursor = (s.lane l').takeCursor) ∧
    (∀ l', ((s.completeJobs job r detail).lane l').scanWanted = (s.lane l').scanWanted) ∧
    (∀ l', ((s.completeJobs job r detail).lane l').bufferWait = (s.lane l').bufferWait) ∧
    (∀ l', ((s.completeJobs job r detail).lane l').putCursor = (s.lane l').putCursor) ∧
    (∀ l', ((s.completeJobs job r detail).lane l').deliveryNumber = (s.lane l').deliveryNumber) ∧
    (∀ l', ((s.completeJobs job r detail).lane l').roomWait = (s.lane l').roomWait) ∧
    (∀ l', ((s.completeJobs job r detail).lane l').gapPending = (s.lane l').gapPending) ∧
    (∀ l', ((s.completeJobs job r detail).lane l').fenced = (s.lane l').fenced) ∧
    (∀ l', ((s.completeJobs job r detail).lane l').autoFenced = (s.lane l').autoFenced) ∧
    (∀ l', ((s.completeJobs job r detail).lane l').tally = (s.lane l').tally) ∧
    (∀ l', ((s.completeJobs job r detail).lane l').limit = (s.lane l').limit) ∧
    (∀ l', ((s.completeJobs job r detail).lane l').admitted = (s.lane l').admitted) ∧
    (∀ l', ((s.completeJobs job r detail).lane l').refused = (s.lane l').refused) ∧
    (∀ l', ((s.completeJobs job r detail).lane l').violations = (s.lane l').violations) ∧
    (∀ l', ((s.completeJobs job r detail).lane l').dropped = (s.lane l').dropped) ∧
    (∀ l', ((s.completeJobs job r detail).lane l').inputLost = (s.lane l').inputLost) ∧
    (s.completeJobs job r detail).scanner = s.scanner ∧
    (s.completeJobs job r detail).routes = s.routes ∧
    (s.completeJobs job r detail).hub.mode = s.hub.mode ∧
    (s.completeJobs job r detail).hub.routesLoaded = s.hub.routesLoaded ∧
    (s.completeJobs job r detail).hub.loading = s.hub.loading ∧
    (s.completeJobs job r detail).hub.fifo = s.hub.fifo ∧
    (s.completeJobs job r detail).panel = s.panel ∧
    (s.completeJobs job r detail).touch = s.touch ∧
    (∀ j, (s.completeJobs job r detail).contact j = s.contact j) ∧
    (s.completeJobs job r detail).keys = s.keys ∧
    (∀ k', (s.completeJobs job r detail).key k' = s.key k') ∧
    (s.completeJobs job r detail).lines = s.lines ∧
    (∀ n', (s.completeJobs job r detail).line n' = s.line n') ∧
    (s.completeJobs job r detail).combiner = s.combiner ∧
    (s.completeJobs job r detail).pending = s.pending ∧
    (∀ d', (s.completeJobs job r detail).dom d' = s.dom d') := by
  simp [State.completeJobs]

/-! ## Contacts and keys -/

/-- What `State.cancelContact` leaves as it was. -/
@[simp] theorem State.cancelContact_frame (s : State) (p : Lane → Bool) (i : Fin 2) :
    (State.cancelContact p s i).now = s.now ∧
    (State.cancelContact p s i).inReset = s.inReset ∧
    (∀ l', ((State.cancelContact p s i).lane l').takeCursor = (s.lane l').takeCursor) ∧
    (∀ l', ((State.cancelContact p s i).lane l').scanWanted = (s.lane l').scanWanted) ∧
    (∀ l', ((State.cancelContact p s i).lane l').bufferWait = (s.lane l').bufferWait) ∧
    (∀ l', ((State.cancelContact p s i).lane l').putCursor = (s.lane l').putCursor) ∧
    (∀ l', ((State.cancelContact p s i).lane l').deliveryNumber = (s.lane l').deliveryNumber) ∧
    (∀ l', ((State.cancelContact p s i).lane l').roomWait = (s.lane l').roomWait) ∧
    (∀ l', ((State.cancelContact p s i).lane l').fenced = (s.lane l').fenced) ∧
    (∀ l', ((State.cancelContact p s i).lane l').autoFenced = (s.lane l').autoFenced) ∧
    (∀ l', ((State.cancelContact p s i).lane l').tally = (s.lane l').tally) ∧
    (∀ l', ((State.cancelContact p s i).lane l').limit = (s.lane l').limit) ∧
    (∀ l', ((State.cancelContact p s i).lane l').admitted = (s.lane l').admitted) ∧
    (∀ l', ((State.cancelContact p s i).lane l').refused = (s.lane l').refused) ∧
    (∀ l', ((State.cancelContact p s i).lane l').violations = (s.lane l').violations) ∧
    (State.cancelContact p s i).scanner = s.scanner ∧
    (State.cancelContact p s i).exchanges = s.exchanges ∧
    (∀ j, (State.cancelContact p s i).entry j = s.entry j) ∧
    (State.cancelContact p s i).routes = s.routes ∧
    (State.cancelContact p s i).hub = s.hub ∧
    (State.cancelContact p s i).panel = s.panel ∧
    (State.cancelContact p s i).touch.link = s.touch.link ∧
    (State.cancelContact p s i).touch.readPending = s.touch.readPending ∧
    (State.cancelContact p s i).touch.calibration = s.touch.calibration ∧
    (State.cancelContact p s i).touch.focus = s.touch.focus ∧
    (State.cancelContact p s i).keys = s.keys ∧
    (∀ k', (State.cancelContact p s i).key k' = s.key k') ∧
    (State.cancelContact p s i).lines = s.lines ∧
    (∀ n', (State.cancelContact p s i).line n' = s.line n') ∧
    (State.cancelContact p s i).combiner = s.combiner ∧
    (State.cancelContact p s i).pending = s.pending ∧
    (∀ d', ((State.cancelContact p s i).dom d').window = (s.dom d').window) ∧
    (∀ d', ((State.cancelContact p s i).dom d').status = (s.dom d').status) ∧
    (∀ d', ((State.cancelContact p s i).dom d').initialising = (s.dom d').initialising) ∧
    (∀ d', ((State.cancelContact p s i).dom d').remembered = (s.dom d').remembered) ∧
    (∀ d', ((State.cancelContact p s i).dom d').stray = (s.dom d').stray) ∧
    (∀ d', ((State.cancelContact p s i).dom d').release = (s.dom d').release) ∧
    (∀ d', ((State.cancelContact p s i).dom d').enables = (s.dom d').enables) ∧
    (∀ d', ((State.cancelContact p s i).dom d').urgent = (s.dom d').urgent) ∧
    (∀ d', ((State.cancelContact p s i).dom d').split = (s.dom d').split) ∧
    (∀ d', ((State.cancelContact p s i).dom d').readData = (s.dom d').readData) := by
  simp only [State.cancelContact]
  (repeat' split) <;> simp

/-- What `State.cancelKey` leaves as it was. -/
@[simp] theorem State.cancelKey_frame (s : State) (p : Lane → Bool) (k : Fin 16) :
    (State.cancelKey p s k).now = s.now ∧
    (State.cancelKey p s k).inReset = s.inReset ∧
    (∀ l', ((State.cancelKey p s k).lane l').takeCursor = (s.lane l').takeCursor) ∧
    (∀ l', ((State.cancelKey p s k).lane l').scanWanted = (s.lane l').scanWanted) ∧
    (∀ l', ((State.cancelKey p s k).lane l').bufferWait = (s.lane l').bufferWait) ∧
    (∀ l', ((State.cancelKey p s k).lane l').putCursor = (s.lane l').putCursor) ∧
    (∀ l', ((State.cancelKey p s k).lane l').deliveryNumber = (s.lane l').deliveryNumber) ∧
    (∀ l', ((State.cancelKey p s k).lane l').roomWait = (s.lane l').roomWait) ∧
    (∀ l', ((State.cancelKey p s k).lane l').fenced = (s.lane l').fenced) ∧
    (∀ l', ((State.cancelKey p s k).lane l').autoFenced = (s.lane l').autoFenced) ∧
    (∀ l', ((State.cancelKey p s k).lane l').tally = (s.lane l').tally) ∧
    (∀ l', ((State.cancelKey p s k).lane l').limit = (s.lane l').limit) ∧
    (∀ l', ((State.cancelKey p s k).lane l').admitted = (s.lane l').admitted) ∧
    (∀ l', ((State.cancelKey p s k).lane l').refused = (s.lane l').refused) ∧
    (∀ l', ((State.cancelKey p s k).lane l').violations = (s.lane l').violations) ∧
    (State.cancelKey p s k).scanner = s.scanner ∧
    (State.cancelKey p s k).exchanges = s.exchanges ∧
    (∀ j, (State.cancelKey p s k).entry j = s.entry j) ∧
    (State.cancelKey p s k).routes = s.routes ∧
    (State.cancelKey p s k).hub = s.hub ∧
    (State.cancelKey p s k).panel = s.panel ∧
    (State.cancelKey p s k).touch = s.touch ∧
    (∀ j, (State.cancelKey p s k).contact j = s.contact j) ∧
    (State.cancelKey p s k).lines = s.lines ∧
    (∀ n', (State.cancelKey p s k).line n' = s.line n') ∧
    (State.cancelKey p s k).combiner = s.combiner ∧
    (State.cancelKey p s k).pending = s.pending ∧
    (∀ d', ((State.cancelKey p s k).dom d').window = (s.dom d').window) ∧
    (∀ d', ((State.cancelKey p s k).dom d').status = (s.dom d').status) ∧
    (∀ d', ((State.cancelKey p s k).dom d').initialising = (s.dom d').initialising) ∧
    (∀ d', ((State.cancelKey p s k).dom d').remembered = (s.dom d').remembered) ∧
    (∀ d', ((State.cancelKey p s k).dom d').stray = (s.dom d').stray) ∧
    (∀ d', ((State.cancelKey p s k).dom d').release = (s.dom d').release) ∧
    (∀ d', ((State.cancelKey p s k).dom d').enables = (s.dom d').enables) ∧
    (∀ d', ((State.cancelKey p s k).dom d').urgent = (s.dom d').urgent) ∧
    (∀ d', ((State.cancelKey p s k).dom d').split = (s.dom d').split) ∧
    (∀ d', ((State.cancelKey p s k).dom d').readData = (s.dom d').readData) := by
  simp only [State.cancelKey]
  (repeat' split) <;> simp

/-- What a fold of `State.cancelContact` leaves as it was. -/
@[simp] theorem State.cancelContact_fold (p : Lane → Bool) (xs : List (Fin 2)) (s : State) :
    (xs.foldl (State.cancelContact p) s).now = s.now ∧
    (xs.foldl (State.cancelContact p) s).inReset = s.inReset ∧
    (∀ l', ((xs.foldl (State.cancelContact p) s).lane l').takeCursor = (s.lane l').takeCursor) ∧
    (∀ l', ((xs.foldl (State.cancelContact p) s).lane l').scanWanted = (s.lane l').scanWanted) ∧
    (∀ l', ((xs.foldl (State.cancelContact p) s).lane l').bufferWait = (s.lane l').bufferWait) ∧
    (∀ l', ((xs.foldl (State.cancelContact p) s).lane l').putCursor = (s.lane l').putCursor) ∧
    (∀ l', ((xs.foldl (State.cancelContact p) s).lane l').deliveryNumber = (s.lane l').deliveryNumber) ∧
    (∀ l', ((xs.foldl (State.cancelContact p) s).lane l').roomWait = (s.lane l').roomWait) ∧
    (∀ l', ((xs.foldl (State.cancelContact p) s).lane l').fenced = (s.lane l').fenced) ∧
    (∀ l', ((xs.foldl (State.cancelContact p) s).lane l').autoFenced = (s.lane l').autoFenced) ∧
    (∀ l', ((xs.foldl (State.cancelContact p) s).lane l').tally = (s.lane l').tally) ∧
    (∀ l', ((xs.foldl (State.cancelContact p) s).lane l').limit = (s.lane l').limit) ∧
    (∀ l', ((xs.foldl (State.cancelContact p) s).lane l').admitted = (s.lane l').admitted) ∧
    (∀ l', ((xs.foldl (State.cancelContact p) s).lane l').refused = (s.lane l').refused) ∧
    (∀ l', ((xs.foldl (State.cancelContact p) s).lane l').violations = (s.lane l').violations) ∧
    (xs.foldl (State.cancelContact p) s).scanner = s.scanner ∧
    (xs.foldl (State.cancelContact p) s).exchanges = s.exchanges ∧
    (∀ j, (xs.foldl (State.cancelContact p) s).entry j = s.entry j) ∧
    (xs.foldl (State.cancelContact p) s).routes = s.routes ∧
    (xs.foldl (State.cancelContact p) s).hub = s.hub ∧
    (xs.foldl (State.cancelContact p) s).panel = s.panel ∧
    (xs.foldl (State.cancelContact p) s).touch.link = s.touch.link ∧
    (xs.foldl (State.cancelContact p) s).touch.readPending = s.touch.readPending ∧
    (xs.foldl (State.cancelContact p) s).touch.calibration = s.touch.calibration ∧
    (xs.foldl (State.cancelContact p) s).touch.focus = s.touch.focus ∧
    (xs.foldl (State.cancelContact p) s).keys = s.keys ∧
    (∀ k', (xs.foldl (State.cancelContact p) s).key k' = s.key k') ∧
    (xs.foldl (State.cancelContact p) s).lines = s.lines ∧
    (∀ n', (xs.foldl (State.cancelContact p) s).line n' = s.line n') ∧
    (xs.foldl (State.cancelContact p) s).combiner = s.combiner ∧
    (xs.foldl (State.cancelContact p) s).pending = s.pending ∧
    (∀ d', ((xs.foldl (State.cancelContact p) s).dom d').window = (s.dom d').window) ∧
    (∀ d', ((xs.foldl (State.cancelContact p) s).dom d').status = (s.dom d').status) ∧
    (∀ d', ((xs.foldl (State.cancelContact p) s).dom d').initialising = (s.dom d').initialising) ∧
    (∀ d', ((xs.foldl (State.cancelContact p) s).dom d').remembered = (s.dom d').remembered) ∧
    (∀ d', ((xs.foldl (State.cancelContact p) s).dom d').stray = (s.dom d').stray) ∧
    (∀ d', ((xs.foldl (State.cancelContact p) s).dom d').release = (s.dom d').release) ∧
    (∀ d', ((xs.foldl (State.cancelContact p) s).dom d').enables = (s.dom d').enables) ∧
    (∀ d', ((xs.foldl (State.cancelContact p) s).dom d').urgent = (s.dom d').urgent) ∧
    (∀ d', ((xs.foldl (State.cancelContact p) s).dom d').split = (s.dom d').split) ∧
    (∀ d', ((xs.foldl (State.cancelContact p) s).dom d').readData = (s.dom d').readData) := by
  induction xs generalizing s with
  | nil => simp
  | cons x xs ih => simp [ih]

/-- What a fold of `State.cancelKey` leaves as it was. -/
@[simp] theorem State.cancelKey_fold (p : Lane → Bool) (xs : List (Fin 16)) (s : State) :
    (xs.foldl (State.cancelKey p) s).now = s.now ∧
    (xs.foldl (State.cancelKey p) s).inReset = s.inReset ∧
    (∀ l', ((xs.foldl (State.cancelKey p) s).lane l').takeCursor = (s.lane l').takeCursor) ∧
    (∀ l', ((xs.foldl (State.cancelKey p) s).lane l').scanWanted = (s.lane l').scanWanted) ∧
    (∀ l', ((xs.foldl (State.cancelKey p) s).lane l').bufferWait = (s.lane l').bufferWait) ∧
    (∀ l', ((xs.foldl (State.cancelKey p) s).lane l').putCursor = (s.lane l').putCursor) ∧
    (∀ l', ((xs.foldl (State.cancelKey p) s).lane l').deliveryNumber = (s.lane l').deliveryNumber) ∧
    (∀ l', ((xs.foldl (State.cancelKey p) s).lane l').roomWait = (s.lane l').roomWait) ∧
    (∀ l', ((xs.foldl (State.cancelKey p) s).lane l').fenced = (s.lane l').fenced) ∧
    (∀ l', ((xs.foldl (State.cancelKey p) s).lane l').autoFenced = (s.lane l').autoFenced) ∧
    (∀ l', ((xs.foldl (State.cancelKey p) s).lane l').tally = (s.lane l').tally) ∧
    (∀ l', ((xs.foldl (State.cancelKey p) s).lane l').limit = (s.lane l').limit) ∧
    (∀ l', ((xs.foldl (State.cancelKey p) s).lane l').admitted = (s.lane l').admitted) ∧
    (∀ l', ((xs.foldl (State.cancelKey p) s).lane l').refused = (s.lane l').refused) ∧
    (∀ l', ((xs.foldl (State.cancelKey p) s).lane l').violations = (s.lane l').violations) ∧
    (xs.foldl (State.cancelKey p) s).scanner = s.scanner ∧
    (xs.foldl (State.cancelKey p) s).exchanges = s.exchanges ∧
    (∀ j, (xs.foldl (State.cancelKey p) s).entry j = s.entry j) ∧
    (xs.foldl (State.cancelKey p) s).routes = s.routes ∧
    (xs.foldl (State.cancelKey p) s).hub = s.hub ∧
    (xs.foldl (State.cancelKey p) s).panel = s.panel ∧
    (xs.foldl (State.cancelKey p) s).touch = s.touch ∧
    (∀ j, (xs.foldl (State.cancelKey p) s).contact j = s.contact j) ∧
    (xs.foldl (State.cancelKey p) s).lines = s.lines ∧
    (∀ n', (xs.foldl (State.cancelKey p) s).line n' = s.line n') ∧
    (xs.foldl (State.cancelKey p) s).combiner = s.combiner ∧
    (xs.foldl (State.cancelKey p) s).pending = s.pending ∧
    (∀ d', ((xs.foldl (State.cancelKey p) s).dom d').window = (s.dom d').window) ∧
    (∀ d', ((xs.foldl (State.cancelKey p) s).dom d').status = (s.dom d').status) ∧
    (∀ d', ((xs.foldl (State.cancelKey p) s).dom d').initialising = (s.dom d').initialising) ∧
    (∀ d', ((xs.foldl (State.cancelKey p) s).dom d').remembered = (s.dom d').remembered) ∧
    (∀ d', ((xs.foldl (State.cancelKey p) s).dom d').stray = (s.dom d').stray) ∧
    (∀ d', ((xs.foldl (State.cancelKey p) s).dom d').release = (s.dom d').release) ∧
    (∀ d', ((xs.foldl (State.cancelKey p) s).dom d').enables = (s.dom d').enables) ∧
    (∀ d', ((xs.foldl (State.cancelKey p) s).dom d').urgent = (s.dom d').urgent) ∧
    (∀ d', ((xs.foldl (State.cancelKey p) s).dom d').split = (s.dom d').split) ∧
    (∀ d', ((xs.foldl (State.cancelKey p) s).dom d').readData = (s.dom d').readData) := by
  induction xs generalizing s with
  | nil => simp
  | cons x xs ih => simp [ih]

/-- What `State.cancelInputs` leaves as it was. -/
@[simp] theorem State.cancelInputs_frame (s : State) (p : Lane → Bool) :
    (s.cancelInputs p).now = s.now ∧
    (s.cancelInputs p).inReset = s.inReset ∧
    (∀ l', ((s.cancelInputs p).lane l').takeCursor = (s.lane l').takeCursor) ∧
    (∀ l', ((s.cancelInputs p).lane l').scanWanted = (s.lane l').scanWanted) ∧
    (∀ l', ((s.cancelInputs p).lane l').bufferWait = (s.lane l').bufferWait) ∧
    (∀ l', ((s.cancelInputs p).lane l').putCursor = (s.lane l').putCursor) ∧
    (∀ l', ((s.cancelInputs p).lane l').deliveryNumber = (s.lane l').deliveryNumber) ∧
    (∀ l', ((s.cancelInputs p).lane l').roomWait = (s.lane l').roomWait) ∧
    (∀ l', ((s.cancelInputs p).lane l').fenced = (s.lane l').fenced) ∧
    (∀ l', ((s.cancelInputs p).lane l').autoFenced = (s.lane l').autoFenced) ∧
    (∀ l', ((s.cancelInputs p).lane l').tally = (s.lane l').tally) ∧
    (∀ l', ((s.cancelInputs p).lane l').limit = (s.lane l').limit) ∧
    (∀ l', ((s.cancelInputs p).lane l').admitted = (s.lane l').admitted) ∧
    (∀ l', ((s.cancelInputs p).lane l').refused = (s.lane l').refused) ∧
    (∀ l', ((s.cancelInputs p).lane l').violations = (s.lane l').violations) ∧
    (s.cancelInputs p).scanner = s.scanner ∧
    (s.cancelInputs p).exchanges = s.exchanges ∧
    (∀ j, (s.cancelInputs p).entry j = s.entry j) ∧
    (s.cancelInputs p).routes = s.routes ∧
    (s.cancelInputs p).hub = s.hub ∧
    (s.cancelInputs p).panel = s.panel ∧
    (s.cancelInputs p).touch.link = s.touch.link ∧
    (s.cancelInputs p).touch.readPending = s.touch.readPending ∧
    (s.cancelInputs p).touch.calibration = s.touch.calibration ∧
    (s.cancelInputs p).touch.focus = s.touch.focus ∧
    (s.cancelInputs p).lines = s.lines ∧
    (∀ n', (s.cancelInputs p).line n' = s.line n') ∧
    (s.cancelInputs p).combiner = s.combiner ∧
    (s.cancelInputs p).pending = s.pending ∧
    (∀ d', ((s.cancelInputs p).dom d').window = (s.dom d').window) ∧
    (∀ d', ((s.cancelInputs p).dom d').status = (s.dom d').status) ∧
    (∀ d', ((s.cancelInputs p).dom d').initialising = (s.dom d').initialising) ∧
    (∀ d', ((s.cancelInputs p).dom d').remembered = (s.dom d').remembered) ∧
    (∀ d', ((s.cancelInputs p).dom d').stray = (s.dom d').stray) ∧
    (∀ d', ((s.cancelInputs p).dom d').release = (s.dom d').release) ∧
    (∀ d', ((s.cancelInputs p).dom d').enables = (s.dom d').enables) ∧
    (∀ d', ((s.cancelInputs p).dom d').urgent = (s.dom d').urgent) ∧
    (∀ d', ((s.cancelInputs p).dom d').split = (s.dom d').split) ∧
    (∀ d', ((s.cancelInputs p).dom d').readData = (s.dom d').readData) := by
  simp [State.cancelInputs]

/-- What `State.endInputs` leaves as it was. -/
@[simp] theorem State.endInputs_frame (s : State) (p : Lane → Bool) :
    (s.endInputs p).now = s.now ∧
    (s.endInputs p).inReset = s.inReset ∧
    (s.endInputs p).lanes = s.lanes ∧ (∀ l', (s.endInputs p).lane l' = s.lane l') ∧
    (s.endInputs p).scanner = s.scanner ∧
    (s.endInputs p).exchanges = s.exchanges ∧
    (∀ j, (s.endInputs p).entry j = s.entry j) ∧
    (s.endInputs p).routes = s.routes ∧
    (s.endInputs p).hub = s.hub ∧
    (s.endInputs p).panel = s.panel ∧
    (s.endInputs p).touch.link = s.touch.link ∧
    (s.endInputs p).touch.readPending = s.touch.readPending ∧
    (s.endInputs p).touch.calibration = s.touch.calibration ∧
    (s.endInputs p).touch.focus = s.touch.focus ∧
    (s.endInputs p).lines = s.lines ∧
    (∀ n', (s.endInputs p).line n' = s.line n') ∧
    (s.endInputs p).combiner = s.combiner ∧
    (s.endInputs p).pending = s.pending ∧
    (∀ d', (s.endInputs p).dom d' = s.dom d') := by
  simp [State.endInputs]

/-! ## The panel path -/

/-- What `State.send` leaves as it was. -/
@[simp] theorem State.send_frame (s : State) (x : PanelSignal) :
    (s.send x).now = s.now ∧
    (s.send x).inReset = s.inReset ∧
    (s.send x).lanes = s.lanes ∧ (∀ l', (s.send x).lane l' = s.lane l') ∧
    (s.send x).scanner = s.scanner ∧
    (s.send x).exchanges = s.exchanges ∧
    (∀ j, (s.send x).entry j = s.entry j) ∧
    (s.send x).routes = s.routes ∧
    (s.send x).hub = s.hub ∧
    (s.send x).panel.active = s.panel.active ∧
    (s.send x).panel.staged = s.panel.staged ∧
    (s.send x).panel.scrolls = s.panel.scrolls ∧
    (s.send x).panel.mode = s.panel.mode ∧
    (s.send x).panel.nextSlot = s.panel.nextSlot ∧
    (s.send x).panel.videoZero = s.panel.videoZero ∧
    (s.send x).panel.frameZero = s.panel.frameZero ∧
    (s.send x).touch = s.touch ∧
    (∀ j, (s.send x).contact j = s.contact j) ∧
    (s.send x).keys = s.keys ∧
    (∀ k', (s.send x).key k' = s.key k') ∧
    (s.send x).lines = s.lines ∧
    (∀ n', (s.send x).line n' = s.line n') ∧
    (s.send x).combiner = s.combiner ∧
    (s.send x).pending = s.pending ∧
    (∀ d', (s.send x).dom d' = s.dom d') := by
  simp [State.send]

/-- What `State.beginPanelEvent` leaves as it was. -/
@[simp] theorem State.beginPanelEvent_frame (s : State)  :
    (s.beginPanelEvent).now = s.now ∧
    (s.beginPanelEvent).inReset = s.inReset ∧
    (s.beginPanelEvent).lanes = s.lanes ∧ (∀ l', (s.beginPanelEvent).lane l' = s.lane l') ∧
    (s.beginPanelEvent).scanner = s.scanner ∧
    (s.beginPanelEvent).exchanges = s.exchanges ∧
    (∀ j, (s.beginPanelEvent).entry j = s.entry j) ∧
    (s.beginPanelEvent).routes = s.routes ∧
    (s.beginPanelEvent).hub = s.hub ∧
    (s.beginPanelEvent).panel.active = s.panel.active ∧
    (s.beginPanelEvent).panel.staged = s.panel.staged ∧
    (s.beginPanelEvent).panel.scrolls = s.panel.scrolls ∧
    (s.beginPanelEvent).panel.mode = s.panel.mode ∧
    (s.beginPanelEvent).panel.nextSlot = s.panel.nextSlot ∧
    (s.beginPanelEvent).panel.videoZero = s.panel.videoZero ∧
    (s.beginPanelEvent).panel.frameZero = s.panel.frameZero ∧
    (s.beginPanelEvent).touch = s.touch ∧
    (∀ j, (s.beginPanelEvent).contact j = s.contact j) ∧
    (s.beginPanelEvent).keys = s.keys ∧
    (∀ k', (s.beginPanelEvent).key k' = s.key k') ∧
    (s.beginPanelEvent).lines = s.lines ∧
    (∀ n', (s.beginPanelEvent).line n' = s.line n') ∧
    (s.beginPanelEvent).combiner = s.combiner ∧
    (s.beginPanelEvent).pending = s.pending ∧
    (∀ d', (s.beginPanelEvent).dom d' = s.dom d') := by
  simp [State.beginPanelEvent]

/-- What `State.outputSlot` leaves as it was. -/
@[simp] theorem State.outputSlot_frame (s : State) (arriving : Option (List Pixel)) :
    (s.outputSlot arriving).now = s.now ∧
    (s.outputSlot arriving).inReset = s.inReset ∧
    (s.outputSlot arriving).lanes = s.lanes ∧ (∀ l', (s.outputSlot arriving).lane l' = s.lane l') ∧
    (s.outputSlot arriving).scanner = s.scanner ∧
    (s.outputSlot arriving).exchanges = s.exchanges ∧
    (∀ j, (s.outputSlot arriving).entry j = s.entry j) ∧
    (s.outputSlot arriving).routes = s.routes ∧
    (s.outputSlot arriving).hub = s.hub ∧
    (s.outputSlot arriving).panel.active = s.panel.active ∧
    (s.outputSlot arriving).panel.staged = s.panel.staged ∧
    (s.outputSlot arriving).panel.scrolls = s.panel.scrolls ∧
    (s.outputSlot arriving).panel.mode = s.panel.mode ∧
    (s.outputSlot arriving).panel.videoZero = s.panel.videoZero ∧
    (s.outputSlot arriving).panel.frameZero = s.panel.frameZero ∧
    (s.outputSlot arriving).touch = s.touch ∧
    (∀ j, (s.outputSlot arriving).contact j = s.contact j) ∧
    (s.outputSlot arriving).keys = s.keys ∧
    (∀ k', (s.outputSlot arriving).key k' = s.key k') ∧
    (s.outputSlot arriving).lines = s.lines ∧
    (∀ n', (s.outputSlot arriving).line n' = s.line n') ∧
    (s.outputSlot arriving).combiner = s.combiner ∧
    (s.outputSlot arriving).pending = s.pending ∧
    (∀ d', (s.outputSlot arriving).dom d' = s.dom d') := by
  simp [State.outputSlot]

/-- What `State.outputSlots` leaves as it was. -/
@[simp] theorem State.outputSlots_frame (k : Nat) (s : State) :
    (State.outputSlots k s).now = s.now ∧
    (State.outputSlots k s).inReset = s.inReset ∧
    (State.outputSlots k s).lanes = s.lanes ∧ (∀ l', (State.outputSlots k s).lane l' = s.lane l') ∧
    (State.outputSlots k s).scanner = s.scanner ∧
    (State.outputSlots k s).exchanges = s.exchanges ∧
    (∀ j, (State.outputSlots k s).entry j = s.entry j) ∧
    (State.outputSlots k s).routes = s.routes ∧
    (State.outputSlots k s).hub = s.hub ∧
    (State.outputSlots k s).panel.active = s.panel.active ∧
    (State.outputSlots k s).panel.staged = s.panel.staged ∧
    (State.outputSlots k s).panel.scrolls = s.panel.scrolls ∧
    (State.outputSlots k s).panel.mode = s.panel.mode ∧
    (State.outputSlots k s).panel.videoZero = s.panel.videoZero ∧
    (State.outputSlots k s).panel.frameZero = s.panel.frameZero ∧
    (State.outputSlots k s).touch = s.touch ∧
    (∀ j, (State.outputSlots k s).contact j = s.contact j) ∧
    (State.outputSlots k s).keys = s.keys ∧
    (∀ k', (State.outputSlots k s).key k' = s.key k') ∧
    (State.outputSlots k s).lines = s.lines ∧
    (∀ n', (State.outputSlots k s).line n' = s.line n') ∧
    (State.outputSlots k s).combiner = s.combiner ∧
    (State.outputSlots k s).pending = s.pending ∧
    (∀ d', (State.outputSlots k s).dom d' = s.dom d') := by
  induction k generalizing s with
  | zero => simp [State.outputSlots]
  | succ k ih => simp [State.outputSlots, ih]

/-- What `State.outputRest` leaves as it was. -/
@[simp] theorem State.outputRest_frame (s : State)  :
    (s.outputRest).now = s.now ∧
    (s.outputRest).inReset = s.inReset ∧
    (s.outputRest).lanes = s.lanes ∧ (∀ l', (s.outputRest).lane l' = s.lane l') ∧
    (s.outputRest).scanner = s.scanner ∧
    (s.outputRest).exchanges = s.exchanges ∧
    (∀ j, (s.outputRest).entry j = s.entry j) ∧
    (s.outputRest).routes = s.routes ∧
    (s.outputRest).hub = s.hub ∧
    (s.outputRest).panel.active = s.panel.active ∧
    (s.outputRest).panel.staged = s.panel.staged ∧
    (s.outputRest).panel.scrolls = s.panel.scrolls ∧
    (s.outputRest).panel.mode = s.panel.mode ∧
    (s.outputRest).panel.videoZero = s.panel.videoZero ∧
    (s.outputRest).panel.frameZero = s.panel.frameZero ∧
    (s.outputRest).touch = s.touch ∧
    (∀ j, (s.outputRest).contact j = s.contact j) ∧
    (s.outputRest).keys = s.keys ∧
    (∀ k', (s.outputRest).key k' = s.key k') ∧
    (s.outputRest).lines = s.lines ∧
    (∀ n', (s.outputRest).line n' = s.line n') ∧
    (s.outputRest).combiner = s.combiner ∧
    (s.outputRest).pending = s.pending ∧
    (∀ d', (s.outputRest).dom d' = s.dom d') := by
  simp [State.outputRest]

/-- What `State.captureChange` leaves as it was. -/
@[simp] theorem State.captureChange_frame (s : State) (had : Bool) :
    (State.captureChange had s).now = s.now ∧
    (State.captureChange had s).inReset = s.inReset ∧
    (∀ l', ((State.captureChange had s).lane l').takeCursor = (s.lane l').takeCursor) ∧
    (∀ l', ((State.captureChange had s).lane l').scanWanted = (s.lane l').scanWanted) ∧
    (∀ l', ((State.captureChange had s).lane l').bufferWait = (s.lane l').bufferWait) ∧
    (∀ l', ((State.captureChange had s).lane l').putCursor = (s.lane l').putCursor) ∧
    (∀ l', ((State.captureChange had s).lane l').deliveryNumber = (s.lane l').deliveryNumber) ∧
    (∀ l', ((State.captureChange had s).lane l').roomWait = (s.lane l').roomWait) ∧
    (∀ l', ((State.captureChange had s).lane l').fenced = (s.lane l').fenced) ∧
    (∀ l', ((State.captureChange had s).lane l').autoFenced = (s.lane l').autoFenced) ∧
    (∀ l', ((State.captureChange had s).lane l').tally = (s.lane l').tally) ∧
    (∀ l', ((State.captureChange had s).lane l').limit = (s.lane l').limit) ∧
    (∀ l', ((State.captureChange had s).lane l').admitted = (s.lane l').admitted) ∧
    (∀ l', ((State.captureChange had s).lane l').refused = (s.lane l').refused) ∧
    (∀ l', ((State.captureChange had s).lane l').violations = (s.lane l').violations) ∧
    (State.captureChange had s).scanner = s.scanner ∧
    (State.captureChange had s).exchanges = s.exchanges ∧
    (∀ j, (State.captureChange had s).entry j = s.entry j) ∧
    (State.captureChange had s).routes = s.routes ∧
    (State.captureChange had s).hub = s.hub ∧
    (State.captureChange had s).panel = s.panel ∧
    (State.captureChange had s).touch.link = s.touch.link ∧
    (State.captureChange had s).touch.readPending = s.touch.readPending ∧
    (State.captureChange had s).touch.calibration = s.touch.calibration ∧
    (State.captureChange had s).touch.focus = s.touch.focus ∧
    (State.captureChange had s).lines = s.lines ∧
    (∀ n', (State.captureChange had s).line n' = s.line n') ∧
    (State.captureChange had s).combiner = s.combiner ∧
    (State.captureChange had s).pending = s.pending ∧
    (∀ d', ((State.captureChange had s).dom d').window = (s.dom d').window) ∧
    (∀ d', ((State.captureChange had s).dom d').status = (s.dom d').status) ∧
    (∀ d', ((State.captureChange had s).dom d').initialising = (s.dom d').initialising) ∧
    (∀ d', ((State.captureChange had s).dom d').remembered = (s.dom d').remembered) ∧
    (∀ d', ((State.captureChange had s).dom d').stray = (s.dom d').stray) ∧
    (∀ d', ((State.captureChange had s).dom d').release = (s.dom d').release) ∧
    (∀ d', ((State.captureChange had s).dom d').enables = (s.dom d').enables) ∧
    (∀ d', ((State.captureChange had s).dom d').urgent = (s.dom d').urgent) ∧
    (∀ d', ((State.captureChange had s).dom d').split = (s.dom d').split) ∧
    (∀ d', ((State.captureChange had s).dom d').readData = (s.dom d').readData) := by
  simp only [State.captureChange]
  (repeat' split) <;> simp

/-- What `State.setActive` leaves as it was. -/
@[simp] theorem State.setActive_frame (s : State) (t : PaneTable) :
    (s.setActive t).now = s.now ∧
    (s.setActive t).inReset = s.inReset ∧
    (∀ l', ((s.setActive t).lane l').takeCursor = (s.lane l').takeCursor) ∧
    (∀ l', ((s.setActive t).lane l').scanWanted = (s.lane l').scanWanted) ∧
    (∀ l', ((s.setActive t).lane l').bufferWait = (s.lane l').bufferWait) ∧
    (∀ l', ((s.setActive t).lane l').putCursor = (s.lane l').putCursor) ∧
    (∀ l', ((s.setActive t).lane l').deliveryNumber = (s.lane l').deliveryNumber) ∧
    (∀ l', ((s.setActive t).lane l').roomWait = (s.lane l').roomWait) ∧
    (∀ l', ((s.setActive t).lane l').fenced = (s.lane l').fenced) ∧
    (∀ l', ((s.setActive t).lane l').autoFenced = (s.lane l').autoFenced) ∧
    (∀ l', ((s.setActive t).lane l').tally = (s.lane l').tally) ∧
    (∀ l', ((s.setActive t).lane l').limit = (s.lane l').limit) ∧
    (∀ l', ((s.setActive t).lane l').admitted = (s.lane l').admitted) ∧
    (∀ l', ((s.setActive t).lane l').refused = (s.lane l').refused) ∧
    (∀ l', ((s.setActive t).lane l').violations = (s.lane l').violations) ∧
    (s.setActive t).scanner = s.scanner ∧
    (s.setActive t).exchanges = s.exchanges ∧
    (∀ j, (s.setActive t).entry j = s.entry j) ∧
    (s.setActive t).routes = s.routes ∧
    (s.setActive t).hub = s.hub ∧
    (s.setActive t).panel.staged = s.panel.staged ∧
    (s.setActive t).panel.scrolls = s.panel.scrolls ∧
    (s.setActive t).panel.mode = s.panel.mode ∧
    (s.setActive t).panel.nextSlot = s.panel.nextSlot ∧
    (s.setActive t).panel.videoZero = s.panel.videoZero ∧
    (s.setActive t).panel.frameZero = s.panel.frameZero ∧
    (s.setActive t).panel.sent = s.panel.sent ∧
    (s.setActive t).touch.link = s.touch.link ∧
    (s.setActive t).touch.readPending = s.touch.readPending ∧
    (s.setActive t).touch.calibration = s.touch.calibration ∧
    (s.setActive t).touch.focus = s.touch.focus ∧
    (s.setActive t).lines = s.lines ∧
    (∀ n', (s.setActive t).line n' = s.line n') ∧
    (s.setActive t).combiner = s.combiner ∧
    (s.setActive t).pending = s.pending ∧
    (∀ d', ((s.setActive t).dom d').window = (s.dom d').window) ∧
    (∀ d', ((s.setActive t).dom d').status = (s.dom d').status) ∧
    (∀ d', ((s.setActive t).dom d').initialising = (s.dom d').initialising) ∧
    (∀ d', ((s.setActive t).dom d').remembered = (s.dom d').remembered) ∧
    (∀ d', ((s.setActive t).dom d').stray = (s.dom d').stray) ∧
    (∀ d', ((s.setActive t).dom d').release = (s.dom d').release) ∧
    (∀ d', ((s.setActive t).dom d').enables = (s.dom d').enables) ∧
    (∀ d', ((s.setActive t).dom d').urgent = (s.dom d').urgent) ∧
    (∀ d', ((s.setActive t).dom d').split = (s.dom d').split) ∧
    (∀ d', ((s.setActive t).dom d').readData = (s.dom d').readData) := by
  simp [State.setActive]

/-- What `State.applyScrolls` leaves as it was. -/
@[simp] theorem State.applyScrolls_frame (s : State)  :
    (s.applyScrolls).now = s.now ∧
    (s.applyScrolls).inReset = s.inReset ∧
    (∀ l', ((s.applyScrolls).lane l').takeCursor = (s.lane l').takeCursor) ∧
    (∀ l', ((s.applyScrolls).lane l').scanWanted = (s.lane l').scanWanted) ∧
    (∀ l', ((s.applyScrolls).lane l').bufferWait = (s.lane l').bufferWait) ∧
    (∀ l', ((s.applyScrolls).lane l').putCursor = (s.lane l').putCursor) ∧
    (∀ l', ((s.applyScrolls).lane l').deliveryNumber = (s.lane l').deliveryNumber) ∧
    (∀ l', ((s.applyScrolls).lane l').roomWait = (s.lane l').roomWait) ∧
    (∀ l', ((s.applyScrolls).lane l').gapPending = (s.lane l').gapPending) ∧
    (∀ l', ((s.applyScrolls).lane l').fenced = (s.lane l').fenced) ∧
    (∀ l', ((s.applyScrolls).lane l').autoFenced = (s.lane l').autoFenced) ∧
    (∀ l', ((s.applyScrolls).lane l').tally = (s.lane l').tally) ∧
    (∀ l', ((s.applyScrolls).lane l').limit = (s.lane l').limit) ∧
    (∀ l', ((s.applyScrolls).lane l').admitted = (s.lane l').admitted) ∧
    (∀ l', ((s.applyScrolls).lane l').refused = (s.lane l').refused) ∧
    (∀ l', ((s.applyScrolls).lane l').violations = (s.lane l').violations) ∧
    (∀ l', ((s.applyScrolls).lane l').dropped = (s.lane l').dropped) ∧
    (∀ l', ((s.applyScrolls).lane l').inputLost = (s.lane l').inputLost) ∧
    (s.applyScrolls).scanner = s.scanner ∧
    (s.applyScrolls).routes = s.routes ∧
    (s.applyScrolls).hub.mode = s.hub.mode ∧
    (s.applyScrolls).hub.routesLoaded = s.hub.routesLoaded ∧
    (s.applyScrolls).hub.loading = s.hub.loading ∧
    (s.applyScrolls).hub.fifo = s.hub.fifo ∧
    (s.applyScrolls).panel.staged = s.panel.staged ∧
    (s.applyScrolls).panel.mode = s.panel.mode ∧
    (s.applyScrolls).panel.nextSlot = s.panel.nextSlot ∧
    (s.applyScrolls).panel.videoZero = s.panel.videoZero ∧
    (s.applyScrolls).panel.frameZero = s.panel.frameZero ∧
    (s.applyScrolls).panel.sent = s.panel.sent ∧
    (s.applyScrolls).touch = s.touch ∧
    (∀ j, (s.applyScrolls).contact j = s.contact j) ∧
    (s.applyScrolls).keys = s.keys ∧
    (∀ k', (s.applyScrolls).key k' = s.key k') ∧
    (s.applyScrolls).lines = s.lines ∧
    (∀ n', (s.applyScrolls).line n' = s.line n') ∧
    (s.applyScrolls).combiner = s.combiner ∧
    (s.applyScrolls).pending = s.pending ∧
    (∀ d', (s.applyScrolls).dom d' = s.dom d') := by
  simp [State.applyScrolls]

/-- What `State.applyStaged` leaves as it was. -/
@[simp] theorem State.applyStaged_frame (s : State)  :
    (s.applyStaged).now = s.now ∧
    (s.applyStaged).inReset = s.inReset ∧
    (∀ l', ((s.applyStaged).lane l').takeCursor = (s.lane l').takeCursor) ∧
    (∀ l', ((s.applyStaged).lane l').scanWanted = (s.lane l').scanWanted) ∧
    (∀ l', ((s.applyStaged).lane l').bufferWait = (s.lane l').bufferWait) ∧
    (∀ l', ((s.applyStaged).lane l').putCursor = (s.lane l').putCursor) ∧
    (∀ l', ((s.applyStaged).lane l').deliveryNumber = (s.lane l').deliveryNumber) ∧
    (∀ l', ((s.applyStaged).lane l').roomWait = (s.lane l').roomWait) ∧
    (∀ l', ((s.applyStaged).lane l').gapPending = (s.lane l').gapPending) ∧
    (∀ l', ((s.applyStaged).lane l').fenced = (s.lane l').fenced) ∧
    (∀ l', ((s.applyStaged).lane l').autoFenced = (s.lane l').autoFenced) ∧
    (∀ l', ((s.applyStaged).lane l').tally = (s.lane l').tally) ∧
    (∀ l', ((s.applyStaged).lane l').limit = (s.lane l').limit) ∧
    (∀ l', ((s.applyStaged).lane l').admitted = (s.lane l').admitted) ∧
    (∀ l', ((s.applyStaged).lane l').refused = (s.lane l').refused) ∧
    (∀ l', ((s.applyStaged).lane l').violations = (s.lane l').violations) ∧
    (∀ l', ((s.applyStaged).lane l').dropped = (s.lane l').dropped) ∧
    (∀ l', ((s.applyStaged).lane l').inputLost = (s.lane l').inputLost) ∧
    (s.applyStaged).scanner = s.scanner ∧
    (s.applyStaged).routes = s.routes ∧
    (s.applyStaged).hub.mode = s.hub.mode ∧
    (s.applyStaged).hub.routesLoaded = s.hub.routesLoaded ∧
    (s.applyStaged).hub.loading = s.hub.loading ∧
    (s.applyStaged).hub.fifo = s.hub.fifo ∧
    (s.applyStaged).panel.scrolls = s.panel.scrolls ∧
    (s.applyStaged).panel.mode = s.panel.mode ∧
    (s.applyStaged).panel.nextSlot = s.panel.nextSlot ∧
    (s.applyStaged).panel.videoZero = s.panel.videoZero ∧
    (s.applyStaged).panel.frameZero = s.panel.frameZero ∧
    (s.applyStaged).panel.sent = s.panel.sent ∧
    (s.applyStaged).touch = s.touch ∧
    (∀ j, (s.applyStaged).contact j = s.contact j) ∧
    (s.applyStaged).keys = s.keys ∧
    (∀ k', (s.applyStaged).key k' = s.key k') ∧
    (s.applyStaged).lines = s.lines ∧
    (∀ n', (s.applyStaged).line n' = s.line n') ∧
    (s.applyStaged).combiner = s.combiner ∧
    (s.applyStaged).pending = s.pending ∧
    (∀ d', ((s.applyStaged).dom d').window = (s.dom d').window) ∧
    (∀ d', ((s.applyStaged).dom d').status = (s.dom d').status) ∧
    (∀ d', ((s.applyStaged).dom d').initialising = (s.dom d').initialising) ∧
    (∀ d', ((s.applyStaged).dom d').remembered = (s.dom d').remembered) ∧
    (∀ d', ((s.applyStaged).dom d').stray = (s.dom d').stray) ∧
    (∀ d', ((s.applyStaged).dom d').release = (s.dom d').release) ∧
    (∀ d', ((s.applyStaged).dom d').enables = (s.dom d').enables) ∧
    (∀ d', ((s.applyStaged).dom d').urgent = (s.dom d').urgent) ∧
    (∀ d', ((s.applyStaged).dom d').split = (s.dom d').split) ∧
    (∀ d', ((s.applyStaged).dom d').readData = (s.dom d').readData) := by
  simp only [State.applyStaged]
  (repeat' split) <;> simp

/-- What `State.frameStart` leaves as it was. -/
@[simp] theorem State.frameStart_frame (s : State)  :
    (s.frameStart).now = s.now ∧
    (s.frameStart).inReset = s.inReset ∧
    (∀ l', ((s.frameStart).lane l').takeCursor = (s.lane l').takeCursor) ∧
    (∀ l', ((s.frameStart).lane l').scanWanted = (s.lane l').scanWanted) ∧
    (∀ l', ((s.frameStart).lane l').bufferWait = (s.lane l').bufferWait) ∧
    (∀ l', ((s.frameStart).lane l').putCursor = (s.lane l').putCursor) ∧
    (∀ l', ((s.frameStart).lane l').deliveryNumber = (s.lane l').deliveryNumber) ∧
    (∀ l', ((s.frameStart).lane l').roomWait = (s.lane l').roomWait) ∧
    (∀ l', ((s.frameStart).lane l').fenced = (s.lane l').fenced) ∧
    (∀ l', ((s.frameStart).lane l').autoFenced = (s.lane l').autoFenced) ∧
    (∀ l', ((s.frameStart).lane l').tally = (s.lane l').tally) ∧
    (∀ l', ((s.frameStart).lane l').limit = (s.lane l').limit) ∧
    (∀ l', ((s.frameStart).lane l').admitted = (s.lane l').admitted) ∧
    (∀ l', ((s.frameStart).lane l').refused = (s.lane l').refused) ∧
    (∀ l', ((s.frameStart).lane l').violations = (s.lane l').violations) ∧
    (s.frameStart).scanner = s.scanner ∧
    (s.frameStart).routes = s.routes ∧
    (s.frameStart).hub.mode = s.hub.mode ∧
    (s.frameStart).hub.routesLoaded = s.hub.routesLoaded ∧
    (s.frameStart).hub.loading = s.hub.loading ∧
    (s.frameStart).hub.fifo = s.hub.fifo ∧
    (s.frameStart).panel.mode = s.panel.mode ∧
    (s.frameStart).panel.videoZero = s.panel.videoZero ∧
    (s.frameStart).panel.frameZero = s.panel.frameZero ∧
    (s.frameStart).touch.link = s.touch.link ∧
    (s.frameStart).touch.readPending = s.touch.readPending ∧
    (s.frameStart).touch.calibration = s.touch.calibration ∧
    (s.frameStart).touch.focus = s.touch.focus ∧
    (s.frameStart).lines = s.lines ∧
    (∀ n', (s.frameStart).line n' = s.line n') ∧
    (s.frameStart).combiner = s.combiner ∧
    (s.frameStart).pending = s.pending ∧
    (∀ d', ((s.frameStart).dom d').window = (s.dom d').window) ∧
    (∀ d', ((s.frameStart).dom d').status = (s.dom d').status) ∧
    (∀ d', ((s.frameStart).dom d').initialising = (s.dom d').initialising) ∧
    (∀ d', ((s.frameStart).dom d').remembered = (s.dom d').remembered) ∧
    (∀ d', ((s.frameStart).dom d').stray = (s.dom d').stray) ∧
    (∀ d', ((s.frameStart).dom d').release = (s.dom d').release) ∧
    (∀ d', ((s.frameStart).dom d').enables = (s.dom d').enables) ∧
    (∀ d', ((s.frameStart).dom d').urgent = (s.dom d').urgent) ∧
    (∀ d', ((s.frameStart).dom d').split = (s.dom d').split) ∧
    (∀ d', ((s.frameStart).dom d').readData = (s.dom d').readData) := by
  simp [State.frameStart]

/-! ## LOCKDOWN and the combiner -/

/-- What `State.lockFifos` leaves as it was. -/
@[simp] theorem State.lockFifos_frame (s : State)  :
    (s.lockFifos).now = s.now ∧
    (s.lockFifos).inReset = s.inReset ∧
    (∀ l', ((s.lockFifos).lane l').takeCursor = (s.lane l').takeCursor) ∧
    (∀ l', ((s.lockFifos).lane l').scanWanted = (s.lane l').scanWanted) ∧
    (∀ l', ((s.lockFifos).lane l').putCursor = (s.lane l').putCursor) ∧
    (∀ l', ((s.lockFifos).lane l').deliveryNumber = (s.lane l').deliveryNumber) ∧
    (∀ l', ((s.lockFifos).lane l').roomWait = (s.lane l').roomWait) ∧
    (∀ l', ((s.lockFifos).lane l').gapPending = (s.lane l').gapPending) ∧
    (∀ l', ((s.lockFifos).lane l').fenced = (s.lane l').fenced) ∧
    (∀ l', ((s.lockFifos).lane l').autoFenced = (s.lane l').autoFenced) ∧
    (∀ l', ((s.lockFifos).lane l').tally = (s.lane l').tally) ∧
    (∀ l', ((s.lockFifos).lane l').limit = (s.lane l').limit) ∧
    (∀ l', ((s.lockFifos).lane l').admitted = (s.lane l').admitted) ∧
    (∀ l', ((s.lockFifos).lane l').refused = (s.lane l').refused) ∧
    (∀ l', ((s.lockFifos).lane l').violations = (s.lane l').violations) ∧
    (∀ l', ((s.lockFifos).lane l').dropped = (s.lane l').dropped) ∧
    (∀ l', ((s.lockFifos).lane l').inputLost = (s.lane l').inputLost) ∧
    (s.lockFifos).scanner = s.scanner ∧
    (s.lockFifos).exchanges = s.exchanges ∧
    (∀ j, (s.lockFifos).entry j = s.entry j) ∧
    (s.lockFifos).routes = s.routes ∧
    (s.lockFifos).hub.mode = s.hub.mode ∧
    (s.lockFifos).hub.routesLoaded = s.hub.routesLoaded ∧
    (s.lockFifos).hub.loading = s.hub.loading ∧
    (s.lockFifos).hub.outstanding = s.hub.outstanding ∧
    (s.lockFifos).panel = s.panel ∧
    (s.lockFifos).touch = s.touch ∧
    (∀ j, (s.lockFifos).contact j = s.contact j) ∧
    (s.lockFifos).keys = s.keys ∧
    (∀ k', (s.lockFifos).key k' = s.key k') ∧
    (s.lockFifos).lines = s.lines ∧
    (∀ n', (s.lockFifos).line n' = s.line n') ∧
    (s.lockFifos).combiner = s.combiner ∧
    (s.lockFifos).pending = s.pending ∧
    (∀ d', (s.lockFifos).dom d' = s.dom d') := by
  simp [State.lockFifos]

/-- What `State.lockPanel` leaves as it was. -/
@[simp] theorem State.lockPanel_frame (s : State)  :
    (s.lockPanel).now = s.now ∧
    (s.lockPanel).inReset = s.inReset ∧
    (∀ l', ((s.lockPanel).lane l').takeCursor = (s.lane l').takeCursor) ∧
    (∀ l', ((s.lockPanel).lane l').scanWanted = (s.lane l').scanWanted) ∧
    (∀ l', ((s.lockPanel).lane l').bufferWait = (s.lane l').bufferWait) ∧
    (∀ l', ((s.lockPanel).lane l').putCursor = (s.lane l').putCursor) ∧
    (∀ l', ((s.lockPanel).lane l').deliveryNumber = (s.lane l').deliveryNumber) ∧
    (∀ l', ((s.lockPanel).lane l').roomWait = (s.lane l').roomWait) ∧
    (∀ l', ((s.lockPanel).lane l').fenced = (s.lane l').fenced) ∧
    (∀ l', ((s.lockPanel).lane l').autoFenced = (s.lane l').autoFenced) ∧
    (∀ l', ((s.lockPanel).lane l').tally = (s.lane l').tally) ∧
    (∀ l', ((s.lockPanel).lane l').limit = (s.lane l').limit) ∧
    (∀ l', ((s.lockPanel).lane l').admitted = (s.lane l').admitted) ∧
    (∀ l', ((s.lockPanel).lane l').refused = (s.lane l').refused) ∧
    (∀ l', ((s.lockPanel).lane l').violations = (s.lane l').violations) ∧
    (s.lockPanel).scanner = s.scanner ∧
    (s.lockPanel).routes = s.routes ∧
    (s.lockPanel).hub.mode = s.hub.mode ∧
    (s.lockPanel).hub.routesLoaded = s.hub.routesLoaded ∧
    (s.lockPanel).hub.loading = s.hub.loading ∧
    (s.lockPanel).hub.fifo = s.hub.fifo ∧
    (s.lockPanel).panel.scrolls = s.panel.scrolls ∧
    (s.lockPanel).panel.mode = s.panel.mode ∧
    (s.lockPanel).panel.nextSlot = s.panel.nextSlot ∧
    (s.lockPanel).panel.videoZero = s.panel.videoZero ∧
    (s.lockPanel).panel.frameZero = s.panel.frameZero ∧
    (s.lockPanel).panel.sent = s.panel.sent ∧
    (s.lockPanel).touch.link = s.touch.link ∧
    (s.lockPanel).touch.readPending = s.touch.readPending ∧
    (s.lockPanel).touch.calibration = s.touch.calibration ∧
    (s.lockPanel).touch.focus = s.touch.focus ∧
    (s.lockPanel).lines = s.lines ∧
    (∀ n', (s.lockPanel).line n' = s.line n') ∧
    (s.lockPanel).combiner = s.combiner ∧
    (s.lockPanel).pending = s.pending ∧
    (∀ d', ((s.lockPanel).dom d').window = (s.dom d').window) ∧
    (∀ d', ((s.lockPanel).dom d').status = (s.dom d').status) ∧
    (∀ d', ((s.lockPanel).dom d').initialising = (s.dom d').initialising) ∧
    (∀ d', ((s.lockPanel).dom d').remembered = (s.dom d').remembered) ∧
    (∀ d', ((s.lockPanel).dom d').stray = (s.dom d').stray) ∧
    (∀ d', ((s.lockPanel).dom d').release = (s.dom d').release) ∧
    (∀ d', ((s.lockPanel).dom d').enables = (s.dom d').enables) ∧
    (∀ d', ((s.lockPanel).dom d').urgent = (s.dom d').urgent) ∧
    (∀ d', ((s.lockPanel).dom d').split = (s.dom d').split) ∧
    (∀ d', ((s.lockPanel).dom d').readData = (s.dom d').readData) := by
  simp [State.lockPanel]

/-- What `State.restLines` leaves as it was. -/
@[simp] theorem State.restLines_frame (s : State) (p : Domain → Bool) :
    (s.restLines p).now = s.now ∧
    (s.restLines p).inReset = s.inReset ∧
    (s.restLines p).lanes = s.lanes ∧ (∀ l', (s.restLines p).lane l' = s.lane l') ∧
    (s.restLines p).scanner = s.scanner ∧
    (s.restLines p).exchanges = s.exchanges ∧
    (∀ j, (s.restLines p).entry j = s.entry j) ∧
    (s.restLines p).routes = s.routes ∧
    (s.restLines p).hub = s.hub ∧
    (s.restLines p).panel = s.panel ∧
    (s.restLines p).touch = s.touch ∧
    (∀ j, (s.restLines p).contact j = s.contact j) ∧
    (s.restLines p).keys = s.keys ∧
    (∀ k', (s.restLines p).key k' = s.key k') ∧
    (s.restLines p).combiner = s.combiner ∧
    (s.restLines p).pending = s.pending ∧
    (∀ d', (s.restLines p).dom d' = s.dom d') := by
  simp [State.restLines]

/-- What `State.enterLockdown` leaves as it was. -/
@[simp] theorem State.enterLockdown_frame (s : State)  :
    (s.enterLockdown).now = s.now ∧
    (s.enterLockdown).inReset = s.inReset ∧
    (∀ l', ((s.enterLockdown).lane l').takeCursor = (s.lane l').takeCursor) ∧
    (∀ l', ((s.enterLockdown).lane l').scanWanted = (s.lane l').scanWanted) ∧
    (∀ l', ((s.enterLockdown).lane l').putCursor = (s.lane l').putCursor) ∧
    (∀ l', ((s.enterLockdown).lane l').deliveryNumber = (s.lane l').deliveryNumber) ∧
    (∀ l', ((s.enterLockdown).lane l').roomWait = (s.lane l').roomWait) ∧
    (∀ l', ((s.enterLockdown).lane l').fenced = (s.lane l').fenced) ∧
    (∀ l', ((s.enterLockdown).lane l').autoFenced = (s.lane l').autoFenced) ∧
    (∀ l', ((s.enterLockdown).lane l').tally = (s.lane l').tally) ∧
    (∀ l', ((s.enterLockdown).lane l').limit = (s.lane l').limit) ∧
    (∀ l', ((s.enterLockdown).lane l').admitted = (s.lane l').admitted) ∧
    (∀ l', ((s.enterLockdown).lane l').refused = (s.lane l').refused) ∧
    (∀ l', ((s.enterLockdown).lane l').violations = (s.lane l').violations) ∧
    (s.enterLockdown).scanner = s.scanner ∧
    (s.enterLockdown).routes = s.routes ∧
    (s.enterLockdown).hub.routesLoaded = s.hub.routesLoaded ∧
    (s.enterLockdown).hub.loading = s.hub.loading ∧
    (s.enterLockdown).panel.scrolls = s.panel.scrolls ∧
    (s.enterLockdown).panel.mode = s.panel.mode ∧
    (s.enterLockdown).panel.nextSlot = s.panel.nextSlot ∧
    (s.enterLockdown).panel.videoZero = s.panel.videoZero ∧
    (s.enterLockdown).panel.frameZero = s.panel.frameZero ∧
    (s.enterLockdown).panel.sent = s.panel.sent ∧
    (s.enterLockdown).touch.link = s.touch.link ∧
    (s.enterLockdown).touch.readPending = s.touch.readPending ∧
    (s.enterLockdown).touch.calibration = s.touch.calibration ∧
    (s.enterLockdown).touch.focus = s.touch.focus ∧
    (s.enterLockdown).combiner = s.combiner ∧
    (s.enterLockdown).pending = s.pending ∧
    (∀ d', ((s.enterLockdown).dom d').window = (s.dom d').window) ∧
    (∀ d', ((s.enterLockdown).dom d').status = (s.dom d').status) ∧
    (∀ d', ((s.enterLockdown).dom d').initialising = (s.dom d').initialising) ∧
    (∀ d', ((s.enterLockdown).dom d').remembered = (s.dom d').remembered) ∧
    (∀ d', ((s.enterLockdown).dom d').stray = (s.dom d').stray) ∧
    (∀ d', ((s.enterLockdown).dom d').release = (s.dom d').release) ∧
    (∀ d', ((s.enterLockdown).dom d').enables = (s.dom d').enables) ∧
    (∀ d', ((s.enterLockdown).dom d').urgent = (s.dom d').urgent) ∧
    (∀ d', ((s.enterLockdown).dom d').split = (s.dom d').split) ∧
    (∀ d', ((s.enterLockdown).dom d').readData = (s.dom d').readData) := by
  simp [State.enterLockdown]

/-- What `State.formOutput` leaves as it was. -/
@[simp] theorem State.formOutput_frame (s : State)  :
    (s.formOutput).now = s.now ∧
    (s.formOutput).inReset = s.inReset ∧
    (s.formOutput).lanes = s.lanes ∧ (∀ l', (s.formOutput).lane l' = s.lane l') ∧
    (s.formOutput).scanner = s.scanner ∧
    (s.formOutput).exchanges = s.exchanges ∧
    (∀ j, (s.formOutput).entry j = s.entry j) ∧
    (s.formOutput).routes = s.routes ∧
    (s.formOutput).hub = s.hub ∧
    (s.formOutput).panel = s.panel ∧
    (s.formOutput).touch = s.touch ∧
    (∀ j, (s.formOutput).contact j = s.contact j) ∧
    (s.formOutput).keys = s.keys ∧
    (∀ k', (s.formOutput).key k' = s.key k') ∧
    (s.formOutput).lines = s.lines ∧
    (∀ n', (s.formOutput).line n' = s.line n') ∧
    (s.formOutput).combiner.includes = s.combiner.includes ∧
    (s.formOutput).combiner.inverts = s.combiner.inverts ∧
    (s.formOutput).combiner.outputInvert = s.combiner.outputInvert ∧
    (s.formOutput).combiner.alertEnable = s.combiner.alertEnable ∧
    (s.formOutput).combiner.arm = s.combiner.arm ∧
    (s.formOutput).pending = s.pending ∧
    (∀ d', ((s.formOutput).dom d').window = (s.dom d').window) ∧
    (∀ d', ((s.formOutput).dom d').status = (s.dom d').status) ∧
    (∀ d', ((s.formOutput).dom d').initialising = (s.dom d').initialising) ∧
    (∀ d', ((s.formOutput).dom d').remembered = (s.dom d').remembered) ∧
    (∀ d', ((s.formOutput).dom d').stray = (s.dom d').stray) ∧
    (∀ d', ((s.formOutput).dom d').release = (s.dom d').release) ∧
    (∀ d', ((s.formOutput).dom d').enables = (s.dom d').enables) ∧
    (∀ d', ((s.formOutput).dom d').urgent = (s.dom d').urgent) ∧
    (∀ d', ((s.formOutput).dom d').split = (s.dom d').split) ∧
    (∀ d', ((s.formOutput).dom d').readData = (s.dom d').readData) := by
  simp only [State.formOutput]
  (repeat' split) <;> simp

/-- What `State.lockdownIfDue` leaves as it was. -/
@[simp] theorem State.lockdownIfDue_frame (s : State)  :
    (s.lockdownIfDue).now = s.now ∧
    (s.lockdownIfDue).inReset = s.inReset ∧
    (∀ l', ((s.lockdownIfDue).lane l').takeCursor = (s.lane l').takeCursor) ∧
    (∀ l', ((s.lockdownIfDue).lane l').scanWanted = (s.lane l').scanWanted) ∧
    (∀ l', ((s.lockdownIfDue).lane l').putCursor = (s.lane l').putCursor) ∧
    (∀ l', ((s.lockdownIfDue).lane l').deliveryNumber = (s.lane l').deliveryNumber) ∧
    (∀ l', ((s.lockdownIfDue).lane l').roomWait = (s.lane l').roomWait) ∧
    (∀ l', ((s.lockdownIfDue).lane l').fenced = (s.lane l').fenced) ∧
    (∀ l', ((s.lockdownIfDue).lane l').autoFenced = (s.lane l').autoFenced) ∧
    (∀ l', ((s.lockdownIfDue).lane l').tally = (s.lane l').tally) ∧
    (∀ l', ((s.lockdownIfDue).lane l').limit = (s.lane l').limit) ∧
    (∀ l', ((s.lockdownIfDue).lane l').admitted = (s.lane l').admitted) ∧
    (∀ l', ((s.lockdownIfDue).lane l').refused = (s.lane l').refused) ∧
    (∀ l', ((s.lockdownIfDue).lane l').violations = (s.lane l').violations) ∧
    (s.lockdownIfDue).scanner = s.scanner ∧
    (s.lockdownIfDue).routes = s.routes ∧
    (s.lockdownIfDue).hub.routesLoaded = s.hub.routesLoaded ∧
    (s.lockdownIfDue).hub.loading = s.hub.loading ∧
    (s.lockdownIfDue).panel.scrolls = s.panel.scrolls ∧
    (s.lockdownIfDue).panel.mode = s.panel.mode ∧
    (s.lockdownIfDue).panel.nextSlot = s.panel.nextSlot ∧
    (s.lockdownIfDue).panel.videoZero = s.panel.videoZero ∧
    (s.lockdownIfDue).panel.frameZero = s.panel.frameZero ∧
    (s.lockdownIfDue).panel.sent = s.panel.sent ∧
    (s.lockdownIfDue).touch.link = s.touch.link ∧
    (s.lockdownIfDue).touch.readPending = s.touch.readPending ∧
    (s.lockdownIfDue).touch.calibration = s.touch.calibration ∧
    (s.lockdownIfDue).touch.focus = s.touch.focus ∧
    (s.lockdownIfDue).combiner = s.combiner ∧
    (s.lockdownIfDue).pending = s.pending ∧
    (∀ d', ((s.lockdownIfDue).dom d').window = (s.dom d').window) ∧
    (∀ d', ((s.lockdownIfDue).dom d').status = (s.dom d').status) ∧
    (∀ d', ((s.lockdownIfDue).dom d').initialising = (s.dom d').initialising) ∧
    (∀ d', ((s.lockdownIfDue).dom d').remembered = (s.dom d').remembered) ∧
    (∀ d', ((s.lockdownIfDue).dom d').stray = (s.dom d').stray) ∧
    (∀ d', ((s.lockdownIfDue).dom d').release = (s.dom d').release) ∧
    (∀ d', ((s.lockdownIfDue).dom d').enables = (s.dom d').enables) ∧
    (∀ d', ((s.lockdownIfDue).dom d').urgent = (s.dom d').urgent) ∧
    (∀ d', ((s.lockdownIfDue).dom d').split = (s.dom d').split) ∧
    (∀ d', ((s.lockdownIfDue).dom d').readData = (s.dom d').readData) := by
  simp only [State.lockdownIfDue]
  (repeat' split) <;> simp

/-- What `State.evaluate` leaves as it was. -/
@[simp] theorem State.evaluate_frame (s : State)  :
    (s.evaluate).now = s.now ∧
    (s.evaluate).inReset = s.inReset ∧
    (∀ l', ((s.evaluate).lane l').takeCursor = (s.lane l').takeCursor) ∧
    (∀ l', ((s.evaluate).lane l').scanWanted = (s.lane l').scanWanted) ∧
    (∀ l', ((s.evaluate).lane l').putCursor = (s.lane l').putCursor) ∧
    (∀ l', ((s.evaluate).lane l').deliveryNumber = (s.lane l').deliveryNumber) ∧
    (∀ l', ((s.evaluate).lane l').roomWait = (s.lane l').roomWait) ∧
    (∀ l', ((s.evaluate).lane l').fenced = (s.lane l').fenced) ∧
    (∀ l', ((s.evaluate).lane l').autoFenced = (s.lane l').autoFenced) ∧
    (∀ l', ((s.evaluate).lane l').tally = (s.lane l').tally) ∧
    (∀ l', ((s.evaluate).lane l').limit = (s.lane l').limit) ∧
    (∀ l', ((s.evaluate).lane l').admitted = (s.lane l').admitted) ∧
    (∀ l', ((s.evaluate).lane l').refused = (s.lane l').refused) ∧
    (∀ l', ((s.evaluate).lane l').violations = (s.lane l').violations) ∧
    (s.evaluate).scanner = s.scanner ∧
    (s.evaluate).routes = s.routes ∧
    (s.evaluate).hub.routesLoaded = s.hub.routesLoaded ∧
    (s.evaluate).hub.loading = s.hub.loading ∧
    (s.evaluate).panel.scrolls = s.panel.scrolls ∧
    (s.evaluate).panel.mode = s.panel.mode ∧
    (s.evaluate).panel.nextSlot = s.panel.nextSlot ∧
    (s.evaluate).panel.videoZero = s.panel.videoZero ∧
    (s.evaluate).panel.frameZero = s.panel.frameZero ∧
    (s.evaluate).panel.sent = s.panel.sent ∧
    (s.evaluate).touch.link = s.touch.link ∧
    (s.evaluate).touch.readPending = s.touch.readPending ∧
    (s.evaluate).touch.calibration = s.touch.calibration ∧
    (s.evaluate).touch.focus = s.touch.focus ∧
    (s.evaluate).combiner.includes = s.combiner.includes ∧
    (s.evaluate).combiner.inverts = s.combiner.inverts ∧
    (s.evaluate).combiner.outputInvert = s.combiner.outputInvert ∧
    (s.evaluate).combiner.alertEnable = s.combiner.alertEnable ∧
    (s.evaluate).combiner.arm = s.combiner.arm ∧
    (s.evaluate).pending = s.pending ∧
    (∀ d', ((s.evaluate).dom d').window = (s.dom d').window) ∧
    (∀ d', ((s.evaluate).dom d').status = (s.dom d').status) ∧
    (∀ d', ((s.evaluate).dom d').initialising = (s.dom d').initialising) ∧
    (∀ d', ((s.evaluate).dom d').remembered = (s.dom d').remembered) ∧
    (∀ d', ((s.evaluate).dom d').stray = (s.dom d').stray) ∧
    (∀ d', ((s.evaluate).dom d').release = (s.dom d').release) ∧
    (∀ d', ((s.evaluate).dom d').enables = (s.dom d').enables) ∧
    (∀ d', ((s.evaluate).dom d').urgent = (s.dom d').urgent) ∧
    (∀ d', ((s.evaluate).dom d').split = (s.dom d').split) ∧
    (∀ d', ((s.evaluate).dom d').readData = (s.dom d').readData) := by
  simp [State.evaluate]

/-- What `State.evaluateViol` leaves as it was. -/
@[simp] theorem State.evaluateViol_frame (s : State) (was : State) :
    (State.evaluateViol was s).now = s.now ∧
    (State.evaluateViol was s).inReset = s.inReset ∧
    (∀ l', ((State.evaluateViol was s).lane l').takeCursor = (s.lane l').takeCursor) ∧
    (∀ l', ((State.evaluateViol was s).lane l').scanWanted = (s.lane l').scanWanted) ∧
    (∀ l', ((State.evaluateViol was s).lane l').putCursor = (s.lane l').putCursor) ∧
    (∀ l', ((State.evaluateViol was s).lane l').deliveryNumber = (s.lane l').deliveryNumber) ∧
    (∀ l', ((State.evaluateViol was s).lane l').roomWait = (s.lane l').roomWait) ∧
    (∀ l', ((State.evaluateViol was s).lane l').fenced = (s.lane l').fenced) ∧
    (∀ l', ((State.evaluateViol was s).lane l').autoFenced = (s.lane l').autoFenced) ∧
    (∀ l', ((State.evaluateViol was s).lane l').tally = (s.lane l').tally) ∧
    (∀ l', ((State.evaluateViol was s).lane l').limit = (s.lane l').limit) ∧
    (∀ l', ((State.evaluateViol was s).lane l').admitted = (s.lane l').admitted) ∧
    (∀ l', ((State.evaluateViol was s).lane l').refused = (s.lane l').refused) ∧
    (∀ l', ((State.evaluateViol was s).lane l').violations = (s.lane l').violations) ∧
    (State.evaluateViol was s).scanner = s.scanner ∧
    (State.evaluateViol was s).routes = s.routes ∧
    (State.evaluateViol was s).hub.routesLoaded = s.hub.routesLoaded ∧
    (State.evaluateViol was s).hub.loading = s.hub.loading ∧
    (State.evaluateViol was s).panel.scrolls = s.panel.scrolls ∧
    (State.evaluateViol was s).panel.mode = s.panel.mode ∧
    (State.evaluateViol was s).panel.nextSlot = s.panel.nextSlot ∧
    (State.evaluateViol was s).panel.videoZero = s.panel.videoZero ∧
    (State.evaluateViol was s).panel.frameZero = s.panel.frameZero ∧
    (State.evaluateViol was s).panel.sent = s.panel.sent ∧
    (State.evaluateViol was s).touch.link = s.touch.link ∧
    (State.evaluateViol was s).touch.readPending = s.touch.readPending ∧
    (State.evaluateViol was s).touch.calibration = s.touch.calibration ∧
    (State.evaluateViol was s).touch.focus = s.touch.focus ∧
    (State.evaluateViol was s).combiner.includes = s.combiner.includes ∧
    (State.evaluateViol was s).combiner.inverts = s.combiner.inverts ∧
    (State.evaluateViol was s).combiner.outputInvert = s.combiner.outputInvert ∧
    (State.evaluateViol was s).combiner.alertEnable = s.combiner.alertEnable ∧
    (State.evaluateViol was s).combiner.arm = s.combiner.arm ∧
    (State.evaluateViol was s).pending = s.pending ∧
    (∀ d', ((State.evaluateViol was s).dom d').window = (s.dom d').window) ∧
    (∀ d', ((State.evaluateViol was s).dom d').status = (s.dom d').status) ∧
    (∀ d', ((State.evaluateViol was s).dom d').initialising = (s.dom d').initialising) ∧
    (∀ d', ((State.evaluateViol was s).dom d').remembered = (s.dom d').remembered) ∧
    (∀ d', ((State.evaluateViol was s).dom d').stray = (s.dom d').stray) ∧
    (∀ d', ((State.evaluateViol was s).dom d').release = (s.dom d').release) ∧
    (∀ d', ((State.evaluateViol was s).dom d').enables = (s.dom d').enables) ∧
    (∀ d', ((State.evaluateViol was s).dom d').urgent = (s.dom d').urgent) ∧
    (∀ d', ((State.evaluateViol was s).dom d').split = (s.dom d').split) ∧
    (∀ d', ((State.evaluateViol was s).dom d').readData = (s.dom d').readData) := by
  simp only [State.evaluateViol]
  (repeat' split) <;> simp

/-! ## Domain control -/

/-- What `State.fenceLane` leaves as it was. -/
@[simp] theorem State.fenceLane_frame (s : State) (l : Lane) :
    (s.fenceLane l).now = s.now ∧
    (s.fenceLane l).inReset = s.inReset ∧
    (∀ l', ((s.fenceLane l).lane l').takeCursor = (s.lane l').takeCursor) ∧
    (∀ l', ((s.fenceLane l).lane l').scanWanted = (s.lane l').scanWanted) ∧
    (∀ l', ((s.fenceLane l).lane l').putCursor = (s.lane l').putCursor) ∧
    (∀ l', ((s.fenceLane l).lane l').deliveryNumber = (s.lane l').deliveryNumber) ∧
    (∀ l', ((s.fenceLane l).lane l').roomWait = (s.lane l').roomWait) ∧
    (∀ l', ((s.fenceLane l).lane l').autoFenced = (s.lane l').autoFenced) ∧
    (∀ l', ((s.fenceLane l).lane l').tally = (s.lane l').tally) ∧
    (∀ l', ((s.fenceLane l).lane l').limit = (s.lane l').limit) ∧
    (∀ l', ((s.fenceLane l).lane l').admitted = (s.lane l').admitted) ∧
    (∀ l', ((s.fenceLane l).lane l').refused = (s.lane l').refused) ∧
    (∀ l', ((s.fenceLane l).lane l').violations = (s.lane l').violations) ∧
    (s.fenceLane l).scanner = s.scanner ∧
    (s.fenceLane l).routes = s.routes ∧
    (s.fenceLane l).hub.mode = s.hub.mode ∧
    (s.fenceLane l).hub.routesLoaded = s.hub.routesLoaded ∧
    (s.fenceLane l).hub.loading = s.hub.loading ∧
    (s.fenceLane l).hub.outstanding = s.hub.outstanding ∧
    (s.fenceLane l).panel = s.panel ∧
    (s.fenceLane l).touch.link = s.touch.link ∧
    (s.fenceLane l).touch.readPending = s.touch.readPending ∧
    (s.fenceLane l).touch.calibration = s.touch.calibration ∧
    (s.fenceLane l).touch.focus = s.touch.focus ∧
    (s.fenceLane l).lines = s.lines ∧
    (∀ n', (s.fenceLane l).line n' = s.line n') ∧
    (s.fenceLane l).combiner = s.combiner ∧
    (s.fenceLane l).pending = s.pending ∧
    (∀ d', ((s.fenceLane l).dom d').window = (s.dom d').window) ∧
    (∀ d', ((s.fenceLane l).dom d').status = (s.dom d').status) ∧
    (∀ d', ((s.fenceLane l).dom d').initialising = (s.dom d').initialising) ∧
    (∀ d', ((s.fenceLane l).dom d').remembered = (s.dom d').remembered) ∧
    (∀ d', ((s.fenceLane l).dom d').stray = (s.dom d').stray) ∧
    (∀ d', ((s.fenceLane l).dom d').release = (s.dom d').release) ∧
    (∀ d', ((s.fenceLane l).dom d').enables = (s.dom d').enables) ∧
    (∀ d', ((s.fenceLane l).dom d').urgent = (s.dom d').urgent) ∧
    (∀ d', ((s.fenceLane l).dom d').split = (s.dom d').split) ∧
    (∀ d', ((s.fenceLane l).dom d').readData = (s.dom d').readData) := by
  simp only [State.fenceLane]
  (repeat' split) <;> simp

/-- What `State.autoFence` leaves as it was. -/
@[simp] theorem State.autoFence_frame (s : State) (l : Lane) :
    (s.autoFence l).now = s.now ∧
    (s.autoFence l).inReset = s.inReset ∧
    (∀ l', ((s.autoFence l).lane l').takeCursor = (s.lane l').takeCursor) ∧
    (∀ l', ((s.autoFence l).lane l').scanWanted = (s.lane l').scanWanted) ∧
    (∀ l', ((s.autoFence l).lane l').putCursor = (s.lane l').putCursor) ∧
    (∀ l', ((s.autoFence l).lane l').deliveryNumber = (s.lane l').deliveryNumber) ∧
    (∀ l', ((s.autoFence l).lane l').roomWait = (s.lane l').roomWait) ∧
    (∀ l', ((s.autoFence l).lane l').tally = (s.lane l').tally) ∧
    (∀ l', ((s.autoFence l).lane l').limit = (s.lane l').limit) ∧
    (∀ l', ((s.autoFence l).lane l').admitted = (s.lane l').admitted) ∧
    (∀ l', ((s.autoFence l).lane l').refused = (s.lane l').refused) ∧
    (∀ l', ((s.autoFence l).lane l').violations = (s.lane l').violations) ∧
    (s.autoFence l).scanner = s.scanner ∧
    (s.autoFence l).routes = s.routes ∧
    (s.autoFence l).hub.routesLoaded = s.hub.routesLoaded ∧
    (s.autoFence l).hub.loading = s.hub.loading ∧
    (s.autoFence l).panel.scrolls = s.panel.scrolls ∧
    (s.autoFence l).panel.mode = s.panel.mode ∧
    (s.autoFence l).panel.nextSlot = s.panel.nextSlot ∧
    (s.autoFence l).panel.videoZero = s.panel.videoZero ∧
    (s.autoFence l).panel.frameZero = s.panel.frameZero ∧
    (s.autoFence l).panel.sent = s.panel.sent ∧
    (s.autoFence l).touch.link = s.touch.link ∧
    (s.autoFence l).touch.readPending = s.touch.readPending ∧
    (s.autoFence l).touch.calibration = s.touch.calibration ∧
    (s.autoFence l).touch.focus = s.touch.focus ∧
    (s.autoFence l).combiner.includes = s.combiner.includes ∧
    (s.autoFence l).combiner.inverts = s.combiner.inverts ∧
    (s.autoFence l).combiner.outputInvert = s.combiner.outputInvert ∧
    (s.autoFence l).combiner.alertEnable = s.combiner.alertEnable ∧
    (s.autoFence l).combiner.arm = s.combiner.arm ∧
    (s.autoFence l).pending = s.pending ∧
    (∀ d', ((s.autoFence l).dom d').window = (s.dom d').window) ∧
    (∀ d', ((s.autoFence l).dom d').status = (s.dom d').status) ∧
    (∀ d', ((s.autoFence l).dom d').initialising = (s.dom d').initialising) ∧
    (∀ d', ((s.autoFence l).dom d').remembered = (s.dom d').remembered) ∧
    (∀ d', ((s.autoFence l).dom d').stray = (s.dom d').stray) ∧
    (∀ d', ((s.autoFence l).dom d').release = (s.dom d').release) ∧
    (∀ d', ((s.autoFence l).dom d').enables = (s.dom d').enables) ∧
    (∀ d', ((s.autoFence l).dom d').urgent = (s.dom d').urgent) ∧
    (∀ d', ((s.autoFence l).dom d').split = (s.dom d').split) ∧
    (∀ d', ((s.autoFence l).dom d').readData = (s.dom d').readData) := by
  simp only [State.autoFence]
  (repeat' split) <;> simp

/-- What `State.violate` leaves as it was. -/
@[simp] theorem State.violate_frame (s : State) (l : Lane) :
    (s.violate l).now = s.now ∧
    (s.violate l).inReset = s.inReset ∧
    (∀ l', ((s.violate l).lane l').takeCursor = (s.lane l').takeCursor) ∧
    (∀ l', ((s.violate l).lane l').scanWanted = (s.lane l').scanWanted) ∧
    (∀ l', ((s.violate l).lane l').putCursor = (s.lane l').putCursor) ∧
    (∀ l', ((s.violate l).lane l').deliveryNumber = (s.lane l').deliveryNumber) ∧
    (∀ l', ((s.violate l).lane l').roomWait = (s.lane l').roomWait) ∧
    (∀ l', ((s.violate l).lane l').limit = (s.lane l').limit) ∧
    (∀ l', ((s.violate l).lane l').admitted = (s.lane l').admitted) ∧
    (∀ l', ((s.violate l).lane l').refused = (s.lane l').refused) ∧
    (s.violate l).scanner = s.scanner ∧
    (s.violate l).routes = s.routes ∧
    (s.violate l).hub.routesLoaded = s.hub.routesLoaded ∧
    (s.violate l).hub.loading = s.hub.loading ∧
    (s.violate l).panel.scrolls = s.panel.scrolls ∧
    (s.violate l).panel.mode = s.panel.mode ∧
    (s.violate l).panel.nextSlot = s.panel.nextSlot ∧
    (s.violate l).panel.videoZero = s.panel.videoZero ∧
    (s.violate l).panel.frameZero = s.panel.frameZero ∧
    (s.violate l).panel.sent = s.panel.sent ∧
    (s.violate l).touch.link = s.touch.link ∧
    (s.violate l).touch.readPending = s.touch.readPending ∧
    (s.violate l).touch.calibration = s.touch.calibration ∧
    (s.violate l).touch.focus = s.touch.focus ∧
    (s.violate l).combiner.includes = s.combiner.includes ∧
    (s.violate l).combiner.inverts = s.combiner.inverts ∧
    (s.violate l).combiner.outputInvert = s.combiner.outputInvert ∧
    (s.violate l).combiner.alertEnable = s.combiner.alertEnable ∧
    (s.violate l).combiner.arm = s.combiner.arm ∧
    (s.violate l).pending = s.pending ∧
    (∀ d', ((s.violate l).dom d').window = (s.dom d').window) ∧
    (∀ d', ((s.violate l).dom d').status = (s.dom d').status) ∧
    (∀ d', ((s.violate l).dom d').initialising = (s.dom d').initialising) ∧
    (∀ d', ((s.violate l).dom d').remembered = (s.dom d').remembered) ∧
    (∀ d', ((s.violate l).dom d').stray = (s.dom d').stray) ∧
    (∀ d', ((s.violate l).dom d').release = (s.dom d').release) ∧
    (∀ d', ((s.violate l).dom d').enables = (s.dom d').enables) ∧
    (∀ d', ((s.violate l).dom d').urgent = (s.dom d').urgent) ∧
    (∀ d', ((s.violate l).dom d').split = (s.dom d').split) ∧
    (∀ d', ((s.violate l).dom d').readData = (s.dom d').readData) := by
  simp only [State.violate]
  (repeat' split) <;> simp

/-- What `State.startInit` leaves as it was. -/
@[simp] theorem State.startInit_frame (s : State) (d : Domain) :
    (s.startInit d).now = s.now ∧
    (s.startInit d).inReset = s.inReset ∧
    (∀ l', ((s.startInit d).lane l').takeCursor = (s.lane l').takeCursor) ∧
    (∀ l', ((s.startInit d).lane l').putCursor = (s.lane l').putCursor) ∧
    (∀ l', ((s.startInit d).lane l').deliveryNumber = (s.lane l').deliveryNumber) ∧
    (∀ l', ((s.startInit d).lane l').gapPending = (s.lane l').gapPending) ∧
    (∀ l', ((s.startInit d).lane l').fifo = (s.lane l').fifo) ∧
    (∀ l', ((s.startInit d).lane l').fenced = (s.lane l').fenced) ∧
    (∀ l', ((s.startInit d).lane l').autoFenced = (s.lane l').autoFenced) ∧
    (∀ l', ((s.startInit d).lane l').tally = (s.lane l').tally) ∧
    (∀ l', ((s.startInit d).lane l').limit = (s.lane l').limit) ∧
    (∀ l', ((s.startInit d).lane l').admitted = (s.lane l').admitted) ∧
    (∀ l', ((s.startInit d).lane l').refused = (s.lane l').refused) ∧
    (∀ l', ((s.startInit d).lane l').violations = (s.lane l').violations) ∧
    (∀ l', ((s.startInit d).lane l').dropped = (s.lane l').dropped) ∧
    (∀ l', ((s.startInit d).lane l').inputLost = (s.lane l').inputLost) ∧
    (s.startInit d).scanner = s.scanner ∧
    (s.startInit d).exchanges = s.exchanges ∧
    (∀ j, (s.startInit d).entry j = s.entry j) ∧
    (s.startInit d).routes = s.routes ∧
    (s.startInit d).hub = s.hub ∧
    (s.startInit d).panel = s.panel ∧
    (s.startInit d).touch = s.touch ∧
    (∀ j, (s.startInit d).contact j = s.contact j) ∧
    (s.startInit d).keys = s.keys ∧
    (∀ k', (s.startInit d).key k' = s.key k') ∧
    (s.startInit d).lines = s.lines ∧
    (∀ n', (s.startInit d).line n' = s.line n') ∧
    (s.startInit d).combiner = s.combiner ∧
    (s.startInit d).pending = s.pending ∧
    (∀ d', ((s.startInit d).dom d').window = (s.dom d').window) ∧
    (∀ d', ((s.startInit d).dom d').release = (s.dom d').release) ∧
    (∀ d', ((s.startInit d).dom d').flags = (s.dom d').flags) ∧
    (∀ d', ((s.startInit d).dom d').enables = (s.dom d').enables) ∧
    (∀ d', ((s.startInit d).dom d').urgent = (s.dom d').urgent) ∧
    (∀ d', ((s.startInit d).dom d').split = (s.dom d').split) ∧
    (∀ d', ((s.startInit d).dom d').readData = (s.dom d').readData) := by
  simp only [State.startInit]
  and_intros <;> intros <;> (repeat' split) <;> simp <;> split <;> simp

/-- What `State.raiseDomain` leaves as it was. -/
@[simp] theorem State.raiseDomain_frame (s : State) (d : Domain) :
    (s.raiseDomain d).now = s.now ∧
    (s.raiseDomain d).inReset = s.inReset ∧
    (s.raiseDomain d).lanes = s.lanes ∧ (∀ l', (s.raiseDomain d).lane l' = s.lane l') ∧
    (s.raiseDomain d).scanner = s.scanner ∧
    (s.raiseDomain d).exchanges = s.exchanges ∧
    (∀ j, (s.raiseDomain d).entry j = s.entry j) ∧
    (s.raiseDomain d).routes = s.routes ∧
    (s.raiseDomain d).hub = s.hub ∧
    (s.raiseDomain d).panel = s.panel ∧
    (s.raiseDomain d).touch = s.touch ∧
    (∀ j, (s.raiseDomain d).contact j = s.contact j) ∧
    (s.raiseDomain d).keys = s.keys ∧
    (∀ k', (s.raiseDomain d).key k' = s.key k') ∧
    (s.raiseDomain d).lines = s.lines ∧
    (∀ n', (s.raiseDomain d).line n' = s.line n') ∧
    (s.raiseDomain d).combiner = s.combiner ∧
    (s.raiseDomain d).pending = s.pending ∧
    (∀ d', ((s.raiseDomain d).dom d').window = (s.dom d').window) ∧
    (∀ d', ((s.raiseDomain d).dom d').status = (s.dom d').status) ∧
    (∀ d', ((s.raiseDomain d).dom d').initialising = (s.dom d').initialising) ∧
    (∀ d', ((s.raiseDomain d).dom d').remembered = (s.dom d').remembered) ∧
    (∀ d', ((s.raiseDomain d).dom d').stray = (s.dom d').stray) ∧
    (∀ d', ((s.raiseDomain d).dom d').release = (s.dom d').release) ∧
    (∀ d', ((s.raiseDomain d).dom d').enables = (s.dom d').enables) ∧
    (∀ d', ((s.raiseDomain d).dom d').urgent = (s.dom d').urgent) ∧
    (∀ d', ((s.raiseDomain d).dom d').split = (s.dom d').split) ∧
    (∀ d', ((s.raiseDomain d).dom d').readData = (s.dom d').readData) := by
  simp only [State.raiseDomain]
  (repeat' split) <;> simp

/-- What `State.attend` leaves as it was. -/
@[simp] theorem State.attend_frame (s : State) (d : Domain) (set : Byte) :
    (s.attend d set).now = s.now ∧
    (s.attend d set).inReset = s.inReset ∧
    (∀ l', ((s.attend d set).lane l').takeCursor = (s.lane l').takeCursor) ∧
    (∀ l', ((s.attend d set).lane l').bufferWait = (s.lane l').bufferWait) ∧
    (∀ l', ((s.attend d set).lane l').putCursor = (s.lane l').putCursor) ∧
    (∀ l', ((s.attend d set).lane l').deliveryNumber = (s.lane l').deliveryNumber) ∧
    (∀ l', ((s.attend d set).lane l').gapPending = (s.lane l').gapPending) ∧
    (∀ l', ((s.attend d set).lane l').fifo = (s.lane l').fifo) ∧
    (∀ l', ((s.attend d set).lane l').fenced = (s.lane l').fenced) ∧
    (∀ l', ((s.attend d set).lane l').autoFenced = (s.lane l').autoFenced) ∧
    (∀ l', ((s.attend d set).lane l').tally = (s.lane l').tally) ∧
    (∀ l', ((s.attend d set).lane l').limit = (s.lane l').limit) ∧
    (∀ l', ((s.attend d set).lane l').admitted = (s.lane l').admitted) ∧
    (∀ l', ((s.attend d set).lane l').refused = (s.lane l').refused) ∧
    (∀ l', ((s.attend d set).lane l').violations = (s.lane l').violations) ∧
    (∀ l', ((s.attend d set).lane l').dropped = (s.lane l').dropped) ∧
    (∀ l', ((s.attend d set).lane l').inputLost = (s.lane l').inputLost) ∧
    (s.attend d set).scanner = s.scanner ∧
    (s.attend d set).exchanges = s.exchanges ∧
    (∀ j, (s.attend d set).entry j = s.entry j) ∧
    (s.attend d set).routes = s.routes ∧
    (s.attend d set).hub = s.hub ∧
    (s.attend d set).panel = s.panel ∧
    (s.attend d set).touch = s.touch ∧
    (∀ j, (s.attend d set).contact j = s.contact j) ∧
    (s.attend d set).keys = s.keys ∧
    (∀ k', (s.attend d set).key k' = s.key k') ∧
    (s.attend d set).lines = s.lines ∧
    (∀ n', (s.attend d set).line n' = s.line n') ∧
    (s.attend d set).combiner = s.combiner ∧
    (s.attend d set).pending = s.pending ∧
    (∀ d', (s.attend d set).dom d' = s.dom d') := by
  simp only [State.attend]
  and_intros <;> intros <;> (repeat' split) <;> simp <;> split <;> simp

/-- What `State.goUp` leaves as it was. -/
@[simp] theorem State.goUp_frame (s : State) (d : Domain) :
    (s.goUp d).now = s.now ∧
    (s.goUp d).inReset = s.inReset ∧
    (s.goUp d).lanes = s.lanes ∧ (∀ l', (s.goUp d).lane l' = s.lane l') ∧
    (s.goUp d).scanner = s.scanner ∧
    (s.goUp d).exchanges = s.exchanges ∧
    (∀ j, (s.goUp d).entry j = s.entry j) ∧
    (s.goUp d).routes = s.routes ∧
    (s.goUp d).hub = s.hub ∧
    (s.goUp d).panel = s.panel ∧
    (s.goUp d).touch = s.touch ∧
    (∀ j, (s.goUp d).contact j = s.contact j) ∧
    (s.goUp d).keys = s.keys ∧
    (∀ k', (s.goUp d).key k' = s.key k') ∧
    (s.goUp d).lines = s.lines ∧
    (∀ n', (s.goUp d).line n' = s.line n') ∧
    (s.goUp d).combiner = s.combiner ∧
    (s.goUp d).pending = s.pending ∧
    (∀ d', ((s.goUp d).dom d').window = (s.dom d').window) ∧
    (∀ d', ((s.goUp d).dom d').initialising = (s.dom d').initialising) ∧
    (∀ d', ((s.goUp d).dom d').remembered = (s.dom d').remembered) ∧
    (∀ d', ((s.goUp d).dom d').stray = (s.dom d').stray) ∧
    (∀ d', ((s.goUp d).dom d').release = (s.dom d').release) ∧
    (∀ d', ((s.goUp d).dom d').enables = (s.dom d').enables) ∧
    (∀ d', ((s.goUp d).dom d').urgent = (s.dom d').urgent) ∧
    (∀ d', ((s.goUp d).dom d').split = (s.dom d').split) ∧
    (∀ d', ((s.goUp d).dom d').readData = (s.dom d').readData) := by
  simp [State.goUp]

/-- What `State.finishInit` leaves as it was. -/
@[simp] theorem State.finishInit_frame (s : State) (d : Domain) :
    (s.finishInit d).now = s.now ∧
    (s.finishInit d).inReset = s.inReset ∧
    (∀ l', ((s.finishInit d).lane l').bufferWait = (s.lane l').bufferWait) ∧
    (∀ l', ((s.finishInit d).lane l').gapPending = (s.lane l').gapPending) ∧
    (∀ l', ((s.finishInit d).lane l').fifo = (s.lane l').fifo) ∧
    (∀ l', ((s.finishInit d).lane l').fenced = (s.lane l').fenced) ∧
    (∀ l', ((s.finishInit d).lane l').autoFenced = (s.lane l').autoFenced) ∧
    (∀ l', ((s.finishInit d).lane l').tally = (s.lane l').tally) ∧
    (∀ l', ((s.finishInit d).lane l').limit = (s.lane l').limit) ∧
    (∀ l', ((s.finishInit d).lane l').admitted = (s.lane l').admitted) ∧
    (∀ l', ((s.finishInit d).lane l').refused = (s.lane l').refused) ∧
    (∀ l', ((s.finishInit d).lane l').violations = (s.lane l').violations) ∧
    (∀ l', ((s.finishInit d).lane l').dropped = (s.lane l').dropped) ∧
    (∀ l', ((s.finishInit d).lane l').inputLost = (s.lane l').inputLost) ∧
    (s.finishInit d).scanner = s.scanner ∧
    (s.finishInit d).exchanges = s.exchanges ∧
    (∀ j, (s.finishInit d).entry j = s.entry j) ∧
    (s.finishInit d).routes = s.routes ∧
    (s.finishInit d).hub = s.hub ∧
    (s.finishInit d).panel = s.panel ∧
    (s.finishInit d).touch = s.touch ∧
    (∀ j, (s.finishInit d).contact j = s.contact j) ∧
    (s.finishInit d).keys = s.keys ∧
    (∀ k', (s.finishInit d).key k' = s.key k') ∧
    (s.finishInit d).lines = s.lines ∧
    (∀ n', (s.finishInit d).line n' = s.line n') ∧
    (s.finishInit d).combiner = s.combiner ∧
    (s.finishInit d).pending = s.pending ∧
    (∀ d', ((s.finishInit d).dom d').stray = (s.dom d').stray) ∧
    (∀ d', ((s.finishInit d).dom d').release = (s.dom d').release) ∧
    (∀ d', ((s.finishInit d).dom d').enables = (s.dom d').enables) ∧
    (∀ d', ((s.finishInit d).dom d').urgent = (s.dom d').urgent) ∧
    (∀ d', ((s.finishInit d).dom d').split = (s.dom d').split) ∧
    (∀ d', ((s.finishInit d).dom d').readData = (s.dom d').readData) := by
  simp only [State.finishInit]
  and_intros <;> intros <;> (repeat' split) <;> simp <;> split <;> simp

/-- What `State.endVisit` leaves as it was. -/
@[simp] theorem State.endVisit_frame (s : State) (d : Domain) :
    (s.endVisit d).now = s.now ∧
    (s.endVisit d).inReset = s.inReset ∧
    (s.endVisit d).lanes = s.lanes ∧ (∀ l', (s.endVisit d).lane l' = s.lane l') ∧
    (s.endVisit d).scanner.nextLane = s.scanner.nextLane ∧
    (s.endVisit d).exchanges = s.exchanges ∧
    (∀ j, (s.endVisit d).entry j = s.entry j) ∧
    (s.endVisit d).routes = s.routes ∧
    (s.endVisit d).hub = s.hub ∧
    (s.endVisit d).panel = s.panel ∧
    (s.endVisit d).touch = s.touch ∧
    (∀ j, (s.endVisit d).contact j = s.contact j) ∧
    (s.endVisit d).keys = s.keys ∧
    (∀ k', (s.endVisit d).key k' = s.key k') ∧
    (s.endVisit d).lines = s.lines ∧
    (∀ n', (s.endVisit d).line n' = s.line n') ∧
    (s.endVisit d).combiner = s.combiner ∧
    (s.endVisit d).pending = s.pending ∧
    (∀ d', (s.endVisit d).dom d' = s.dom d') := by
  simp [State.endVisit]

/-- What `State.removeDomain` leaves as it was. -/
@[simp] theorem State.removeDomain_frame (s : State) (d : Domain) :
    (s.removeDomain d).now = s.now ∧
    (s.removeDomain d).inReset = s.inReset ∧
    (∀ l', ((s.removeDomain d).lane l').takeCursor = (s.lane l').takeCursor) ∧
    (∀ l', ((s.removeDomain d).lane l').scanWanted = (s.lane l').scanWanted) ∧
    (∀ l', ((s.removeDomain d).lane l').putCursor = (s.lane l').putCursor) ∧
    (∀ l', ((s.removeDomain d).lane l').deliveryNumber = (s.lane l').deliveryNumber) ∧
    (∀ l', ((s.removeDomain d).lane l').roomWait = (s.lane l').roomWait) ∧
    (∀ l', ((s.removeDomain d).lane l').limit = (s.lane l').limit) ∧
    (∀ l', ((s.removeDomain d).lane l').admitted = (s.lane l').admitted) ∧
    (∀ l', ((s.removeDomain d).lane l').refused = (s.lane l').refused) ∧
    (∀ l', ((s.removeDomain d).lane l').violations = (s.lane l').violations) ∧
    (s.removeDomain d).scanner.nextLane = s.scanner.nextLane ∧
    (s.removeDomain d).routes = s.routes ∧
    (s.removeDomain d).hub.routesLoaded = s.hub.routesLoaded ∧
    (s.removeDomain d).hub.loading = s.hub.loading ∧
    (s.removeDomain d).panel.scrolls = s.panel.scrolls ∧
    (s.removeDomain d).panel.mode = s.panel.mode ∧
    (s.removeDomain d).panel.nextSlot = s.panel.nextSlot ∧
    (s.removeDomain d).panel.videoZero = s.panel.videoZero ∧
    (s.removeDomain d).panel.frameZero = s.panel.frameZero ∧
    (s.removeDomain d).panel.sent = s.panel.sent ∧
    (s.removeDomain d).touch.link = s.touch.link ∧
    (s.removeDomain d).touch.readPending = s.touch.readPending ∧
    (s.removeDomain d).touch.calibration = s.touch.calibration ∧
    (s.removeDomain d).combiner.includes = s.combiner.includes ∧
    (s.removeDomain d).combiner.inverts = s.combiner.inverts ∧
    (s.removeDomain d).combiner.outputInvert = s.combiner.outputInvert ∧
    (s.removeDomain d).combiner.alertEnable = s.combiner.alertEnable ∧
    (s.removeDomain d).combiner.arm = s.combiner.arm ∧
    (s.removeDomain d).pending = s.pending ∧
    (∀ d', ((s.removeDomain d).dom d').window = (s.dom d').window) ∧
    (∀ d', ((s.removeDomain d).dom d').status = (s.dom d').status) ∧
    (∀ d', ((s.removeDomain d).dom d').initialising = (s.dom d').initialising) ∧
    (∀ d', ((s.removeDomain d).dom d').remembered = (s.dom d').remembered) ∧
    (∀ d', ((s.removeDomain d).dom d').stray = (s.dom d').stray) ∧
    (∀ d', ((s.removeDomain d).dom d').release = (s.dom d').release) ∧
    (∀ d', ((s.removeDomain d).dom d').enables = (s.dom d').enables) ∧
    (∀ d', ((s.removeDomain d).dom d').urgent = (s.dom d').urgent) ∧
    (∀ d', ((s.removeDomain d).dom d').split = (s.dom d').split) ∧
    (∀ d', ((s.removeDomain d).dom d').readData = (s.dom d').readData) := by
  simp only [State.removeDomain]
  and_intros <;> intros <;> (repeat' split) <;> simp <;> split <;> simp

/-- What `State.holdDomain` leaves as it was. -/
@[simp] theorem State.holdDomain_frame (s : State) (d : Domain) :
    (s.holdDomain d).now = s.now ∧
    (s.holdDomain d).inReset = s.inReset ∧
    (∀ l', ((s.holdDomain d).lane l').takeCursor = (s.lane l').takeCursor) ∧
    (∀ l', ((s.holdDomain d).lane l').scanWanted = (s.lane l').scanWanted) ∧
    (∀ l', ((s.holdDomain d).lane l').putCursor = (s.lane l').putCursor) ∧
    (∀ l', ((s.holdDomain d).lane l').deliveryNumber = (s.lane l').deliveryNumber) ∧
    (∀ l', ((s.holdDomain d).lane l').roomWait = (s.lane l').roomWait) ∧
    (∀ l', ((s.holdDomain d).lane l').limit = (s.lane l').limit) ∧
    (∀ l', ((s.holdDomain d).lane l').admitted = (s.lane l').admitted) ∧
    (∀ l', ((s.holdDomain d).lane l').refused = (s.lane l').refused) ∧
    (∀ l', ((s.holdDomain d).lane l').violations = (s.lane l').violations) ∧
    (s.holdDomain d).scanner.nextLane = s.scanner.nextLane ∧
    (s.holdDomain d).routes = s.routes ∧
    (s.holdDomain d).hub.routesLoaded = s.hub.routesLoaded ∧
    (s.holdDomain d).hub.loading = s.hub.loading ∧
    (s.holdDomain d).panel.scrolls = s.panel.scrolls ∧
    (s.holdDomain d).panel.mode = s.panel.mode ∧
    (s.holdDomain d).panel.nextSlot = s.panel.nextSlot ∧
    (s.holdDomain d).panel.videoZero = s.panel.videoZero ∧
    (s.holdDomain d).panel.frameZero = s.panel.frameZero ∧
    (s.holdDomain d).panel.sent = s.panel.sent ∧
    (s.holdDomain d).touch.link = s.touch.link ∧
    (s.holdDomain d).touch.readPending = s.touch.readPending ∧
    (s.holdDomain d).touch.calibration = s.touch.calibration ∧
    (s.holdDomain d).combiner.includes = s.combiner.includes ∧
    (s.holdDomain d).combiner.inverts = s.combiner.inverts ∧
    (s.holdDomain d).combiner.outputInvert = s.combiner.outputInvert ∧
    (s.holdDomain d).combiner.alertEnable = s.combiner.alertEnable ∧
    (s.holdDomain d).combiner.arm = s.combiner.arm ∧
    (s.holdDomain d).pending = s.pending ∧
    (∀ d', ((s.holdDomain d).dom d').window = (s.dom d').window) ∧
    (∀ d', ((s.holdDomain d).dom d').stray = (s.dom d').stray) ∧
    (∀ d', ((s.holdDomain d).dom d').release = (s.dom d').release) ∧
    (∀ d', ((s.holdDomain d).dom d').enables = (s.dom d').enables) ∧
    (∀ d', ((s.holdDomain d).dom d').urgent = (s.dom d').urgent) ∧
    (∀ d', ((s.holdDomain d).dom d').split = (s.dom d').split) ∧
    (∀ d', ((s.holdDomain d).dom d').readData = (s.dom d').readData) := by
  simp [State.holdDomain]

/-- What `State.releaseDomain` leaves as it was. -/
@[simp] theorem State.releaseDomain_frame (s : State) (d : Domain) :
    (s.releaseDomain d).now = s.now ∧
    (s.releaseDomain d).inReset = s.inReset ∧
    (∀ l', ((s.releaseDomain d).lane l').takeCursor = (s.lane l').takeCursor) ∧
    (∀ l', ((s.releaseDomain d).lane l').putCursor = (s.lane l').putCursor) ∧
    (∀ l', ((s.releaseDomain d).lane l').deliveryNumber = (s.lane l').deliveryNumber) ∧
    (∀ l', ((s.releaseDomain d).lane l').gapPending = (s.lane l').gapPending) ∧
    (∀ l', ((s.releaseDomain d).lane l').fifo = (s.lane l').fifo) ∧
    (∀ l', ((s.releaseDomain d).lane l').fenced = (s.lane l').fenced) ∧
    (∀ l', ((s.releaseDomain d).lane l').autoFenced = (s.lane l').autoFenced) ∧
    (∀ l', ((s.releaseDomain d).lane l').tally = (s.lane l').tally) ∧
    (∀ l', ((s.releaseDomain d).lane l').limit = (s.lane l').limit) ∧
    (∀ l', ((s.releaseDomain d).lane l').admitted = (s.lane l').admitted) ∧
    (∀ l', ((s.releaseDomain d).lane l').refused = (s.lane l').refused) ∧
    (∀ l', ((s.releaseDomain d).lane l').violations = (s.lane l').violations) ∧
    (∀ l', ((s.releaseDomain d).lane l').dropped = (s.lane l').dropped) ∧
    (∀ l', ((s.releaseDomain d).lane l').inputLost = (s.lane l').inputLost) ∧
    (s.releaseDomain d).scanner = s.scanner ∧
    (s.releaseDomain d).exchanges = s.exchanges ∧
    (∀ j, (s.releaseDomain d).entry j = s.entry j) ∧
    (s.releaseDomain d).routes = s.routes ∧
    (s.releaseDomain d).hub = s.hub ∧
    (s.releaseDomain d).panel = s.panel ∧
    (s.releaseDomain d).touch = s.touch ∧
    (∀ j, (s.releaseDomain d).contact j = s.contact j) ∧
    (s.releaseDomain d).keys = s.keys ∧
    (∀ k', (s.releaseDomain d).key k' = s.key k') ∧
    (s.releaseDomain d).lines = s.lines ∧
    (∀ n', (s.releaseDomain d).line n' = s.line n') ∧
    (s.releaseDomain d).combiner = s.combiner ∧
    (s.releaseDomain d).pending = s.pending ∧
    (∀ d', ((s.releaseDomain d).dom d').window = (s.dom d').window) ∧
    (∀ d', ((s.releaseDomain d).dom d').enables = (s.dom d').enables) ∧
    (∀ d', ((s.releaseDomain d).dom d').urgent = (s.dom d').urgent) ∧
    (∀ d', ((s.releaseDomain d).dom d').split = (s.dom d').split) ∧
    (∀ d', ((s.releaseDomain d).dom d').readData = (s.dom d').readData) := by
  simp [State.releaseDomain]

/-- What `State.selfRestart` leaves as it was. -/
@[simp] theorem State.selfRestart_frame (s : State) (d : Domain) :
    (s.selfRestart d).now = s.now ∧
    (s.selfRestart d).inReset = s.inReset ∧
    (∀ l', ((s.selfRestart d).lane l').takeCursor = (s.lane l').takeCursor) ∧
    (∀ l', ((s.selfRestart d).lane l').putCursor = (s.lane l').putCursor) ∧
    (∀ l', ((s.selfRestart d).lane l').deliveryNumber = (s.lane l').deliveryNumber) ∧
    (∀ l', ((s.selfRestart d).lane l').limit = (s.lane l').limit) ∧
    (∀ l', ((s.selfRestart d).lane l').admitted = (s.lane l').admitted) ∧
    (∀ l', ((s.selfRestart d).lane l').refused = (s.lane l').refused) ∧
    (∀ l', ((s.selfRestart d).lane l').violations = (s.lane l').violations) ∧
    (s.selfRestart d).scanner.nextLane = s.scanner.nextLane ∧
    (s.selfRestart d).routes = s.routes ∧
    (s.selfRestart d).hub.routesLoaded = s.hub.routesLoaded ∧
    (s.selfRestart d).hub.loading = s.hub.loading ∧
    (s.selfRestart d).panel.scrolls = s.panel.scrolls ∧
    (s.selfRestart d).panel.mode = s.panel.mode ∧
    (s.selfRestart d).panel.nextSlot = s.panel.nextSlot ∧
    (s.selfRestart d).panel.videoZero = s.panel.videoZero ∧
    (s.selfRestart d).panel.frameZero = s.panel.frameZero ∧
    (s.selfRestart d).panel.sent = s.panel.sent ∧
    (s.selfRestart d).touch.link = s.touch.link ∧
    (s.selfRestart d).touch.readPending = s.touch.readPending ∧
    (s.selfRestart d).touch.calibration = s.touch.calibration ∧
    (s.selfRestart d).combiner.includes = s.combiner.includes ∧
    (s.selfRestart d).combiner.inverts = s.combiner.inverts ∧
    (s.selfRestart d).combiner.outputInvert = s.combiner.outputInvert ∧
    (s.selfRestart d).combiner.alertEnable = s.combiner.alertEnable ∧
    (s.selfRestart d).combiner.arm = s.combiner.arm ∧
    (s.selfRestart d).pending = s.pending ∧
    (∀ d', ((s.selfRestart d).dom d').window = (s.dom d').window) ∧
    (∀ d', ((s.selfRestart d).dom d').release = (s.dom d').release) ∧
    (∀ d', ((s.selfRestart d).dom d').enables = (s.dom d').enables) ∧
    (∀ d', ((s.selfRestart d).dom d').urgent = (s.dom d').urgent) ∧
    (∀ d', ((s.selfRestart d).dom d').split = (s.dom d').split) ∧
    (∀ d', ((s.selfRestart d).dom d').readData = (s.dom d').readData) := by
  simp only [State.selfRestart]
  (repeat' split) <;> simp

/-! ## The hub service -/

/-- What `State.hubTake` leaves as it was. -/
@[simp] theorem State.hubTake_frame (s : State) (m : Message) :
    (s.hubTake m).now = s.now ∧
    (s.hubTake m).inReset = s.inReset ∧
    (∀ l', ((s.hubTake m).lane l').takeCursor = (s.lane l').takeCursor) ∧
    (∀ l', ((s.hubTake m).lane l').scanWanted = (s.lane l').scanWanted) ∧
    (∀ l', ((s.hubTake m).lane l').putCursor = (s.lane l').putCursor) ∧
    (∀ l', ((s.hubTake m).lane l').deliveryNumber = (s.lane l').deliveryNumber) ∧
    (∀ l', ((s.hubTake m).lane l').roomWait = (s.lane l').roomWait) ∧
    (∀ l', ((s.hubTake m).lane l').gapPending = (s.lane l').gapPending) ∧
    (∀ l', ((s.hubTake m).lane l').fifo = (s.lane l').fifo) ∧
    (∀ l', ((s.hubTake m).lane l').fenced = (s.lane l').fenced) ∧
    (∀ l', ((s.hubTake m).lane l').autoFenced = (s.lane l').autoFenced) ∧
    (∀ l', ((s.hubTake m).lane l').tally = (s.lane l').tally) ∧
    (∀ l', ((s.hubTake m).lane l').limit = (s.lane l').limit) ∧
    (∀ l', ((s.hubTake m).lane l').admitted = (s.lane l').admitted) ∧
    (∀ l', ((s.hubTake m).lane l').refused = (s.lane l').refused) ∧
    (∀ l', ((s.hubTake m).lane l').violations = (s.lane l').violations) ∧
    (∀ l', ((s.hubTake m).lane l').dropped = (s.lane l').dropped) ∧
    (∀ l', ((s.hubTake m).lane l').inputLost = (s.lane l').inputLost) ∧
    (s.hubTake m).scanner = s.scanner ∧
    (s.hubTake m).routes = s.routes ∧
    (s.hubTake m).hub.mode = s.hub.mode ∧
    (s.hubTake m).hub.routesLoaded = s.hub.routesLoaded ∧
    (s.hubTake m).hub.loading = s.hub.loading ∧
    (s.hubTake m).hub.outstanding = s.hub.outstanding ∧
    (s.hubTake m).panel = s.panel ∧
    (s.hubTake m).touch = s.touch ∧
    (∀ j, (s.hubTake m).contact j = s.contact j) ∧
    (s.hubTake m).keys = s.keys ∧
    (∀ k', (s.hubTake m).key k' = s.key k') ∧
    (s.hubTake m).lines = s.lines ∧
    (∀ n', (s.hubTake m).line n' = s.line n') ∧
    (s.hubTake m).combiner = s.combiner ∧
    (s.hubTake m).pending = s.pending ∧
    (∀ d', (s.hubTake m).dom d' = s.dom d') := by
  simp [State.hubTake]

/-- What `State.finish` leaves as it was. -/
@[simp] theorem State.finish_frame (s : State) (m : Message) (code : Nat) (r : HubResult) (detail : Nat) (data : List Byte) :
    (s.finish m code r detail data).now = s.now ∧
    (s.finish m code r detail data).inReset = s.inReset ∧
    (∀ l', ((s.finish m code r detail data).lane l').takeCursor = (s.lane l').takeCursor) ∧
    (∀ l', ((s.finish m code r detail data).lane l').scanWanted = (s.lane l').scanWanted) ∧
    (∀ l', ((s.finish m code r detail data).lane l').bufferWait = (s.lane l').bufferWait) ∧
    (∀ l', ((s.finish m code r detail data).lane l').putCursor = (s.lane l').putCursor) ∧
    (∀ l', ((s.finish m code r detail data).lane l').deliveryNumber = (s.lane l').deliveryNumber) ∧
    (∀ l', ((s.finish m code r detail data).lane l').roomWait = (s.lane l').roomWait) ∧
    (∀ l', ((s.finish m code r detail data).lane l').gapPending = (s.lane l').gapPending) ∧
    (∀ l', ((s.finish m code r detail data).lane l').fenced = (s.lane l').fenced) ∧
    (∀ l', ((s.finish m code r detail data).lane l').autoFenced = (s.lane l').autoFenced) ∧
    (∀ l', ((s.finish m code r detail data).lane l').tally = (s.lane l').tally) ∧
    (∀ l', ((s.finish m code r detail data).lane l').limit = (s.lane l').limit) ∧
    (∀ l', ((s.finish m code r detail data).lane l').admitted = (s.lane l').admitted) ∧
    (∀ l', ((s.finish m code r detail data).lane l').refused = (s.lane l').refused) ∧
    (∀ l', ((s.finish m code r detail data).lane l').violations = (s.lane l').violations) ∧
    (∀ l', ((s.finish m code r detail data).lane l').dropped = (s.lane l').dropped) ∧
    (∀ l', ((s.finish m code r detail data).lane l').inputLost = (s.lane l').inputLost) ∧
    (s.finish m code r detail data).scanner = s.scanner ∧
    (s.finish m code r detail data).routes = s.routes ∧
    (s.finish m code r detail data).hub = s.hub ∧
    (s.finish m code r detail data).panel = s.panel ∧
    (s.finish m code r detail data).touch = s.touch ∧
    (∀ j, (s.finish m code r detail data).contact j = s.contact j) ∧
    (s.finish m code r detail data).keys = s.keys ∧
    (∀ k', (s.finish m code r detail data).key k' = s.key k') ∧
    (s.finish m code r detail data).lines = s.lines ∧
    (∀ n', (s.finish m code r detail data).line n' = s.line n') ∧
    (s.finish m code r detail data).combiner = s.combiner ∧
    (s.finish m code r detail data).pending = s.pending ∧
    (∀ d', (s.finish m code r detail data).dom d' = s.dom d') := by
  simp [State.finish]

/-- What `State.addOutstanding` leaves as it was. -/
@[simp] theorem State.addOutstanding_frame (s : State) (job : Job) (m : Message) :
    (s.addOutstanding job m).now = s.now ∧
    (s.addOutstanding job m).inReset = s.inReset ∧
    (s.addOutstanding job m).lanes = s.lanes ∧ (∀ l', (s.addOutstanding job m).lane l' = s.lane l') ∧
    (s.addOutstanding job m).scanner = s.scanner ∧
    (s.addOutstanding job m).exchanges = s.exchanges ∧
    (∀ j, (s.addOutstanding job m).entry j = s.entry j) ∧
    (s.addOutstanding job m).routes = s.routes ∧
    (s.addOutstanding job m).hub.mode = s.hub.mode ∧
    (s.addOutstanding job m).hub.routesLoaded = s.hub.routesLoaded ∧
    (s.addOutstanding job m).hub.loading = s.hub.loading ∧
    (s.addOutstanding job m).hub.fifo = s.hub.fifo ∧
    (s.addOutstanding job m).panel = s.panel ∧
    (s.addOutstanding job m).touch = s.touch ∧
    (∀ j, (s.addOutstanding job m).contact j = s.contact j) ∧
    (s.addOutstanding job m).keys = s.keys ∧
    (∀ k', (s.addOutstanding job m).key k' = s.key k') ∧
    (s.addOutstanding job m).lines = s.lines ∧
    (∀ n', (s.addOutstanding job m).line n' = s.line n') ∧
    (s.addOutstanding job m).combiner = s.combiner ∧
    (s.addOutstanding job m).pending = s.pending ∧
    (∀ d', (s.addOutstanding job m).dom d' = s.dom d') := by
  simp [State.addOutstanding]

/-- What `State.chargeResult` leaves as it was. -/
@[simp] theorem State.chargeResult_frame (s : State) (r : HubResult) (l : Lane) :
    (s.chargeResult r l).now = s.now ∧
    (s.chargeResult r l).inReset = s.inReset ∧
    (∀ l', ((s.chargeResult r l).lane l').takeCursor = (s.lane l').takeCursor) ∧
    (∀ l', ((s.chargeResult r l).lane l').scanWanted = (s.lane l').scanWanted) ∧
    (∀ l', ((s.chargeResult r l).lane l').putCursor = (s.lane l').putCursor) ∧
    (∀ l', ((s.chargeResult r l).lane l').deliveryNumber = (s.lane l').deliveryNumber) ∧
    (∀ l', ((s.chargeResult r l).lane l').roomWait = (s.lane l').roomWait) ∧
    (∀ l', ((s.chargeResult r l).lane l').limit = (s.lane l').limit) ∧
    (∀ l', ((s.chargeResult r l).lane l').admitted = (s.lane l').admitted) ∧
    (∀ l', ((s.chargeResult r l).lane l').refused = (s.lane l').refused) ∧
    (s.chargeResult r l).scanner = s.scanner ∧
    (s.chargeResult r l).routes = s.routes ∧
    (s.chargeResult r l).hub.routesLoaded = s.hub.routesLoaded ∧
    (s.chargeResult r l).hub.loading = s.hub.loading ∧
    (s.chargeResult r l).panel.scrolls = s.panel.scrolls ∧
    (s.chargeResult r l).panel.mode = s.panel.mode ∧
    (s.chargeResult r l).panel.nextSlot = s.panel.nextSlot ∧
    (s.chargeResult r l).panel.videoZero = s.panel.videoZero ∧
    (s.chargeResult r l).panel.frameZero = s.panel.frameZero ∧
    (s.chargeResult r l).panel.sent = s.panel.sent ∧
    (s.chargeResult r l).touch.link = s.touch.link ∧
    (s.chargeResult r l).touch.readPending = s.touch.readPending ∧
    (s.chargeResult r l).touch.calibration = s.touch.calibration ∧
    (s.chargeResult r l).touch.focus = s.touch.focus ∧
    (s.chargeResult r l).combiner.includes = s.combiner.includes ∧
    (s.chargeResult r l).combiner.inverts = s.combiner.inverts ∧
    (s.chargeResult r l).combiner.outputInvert = s.combiner.outputInvert ∧
    (s.chargeResult r l).combiner.alertEnable = s.combiner.alertEnable ∧
    (s.chargeResult r l).combiner.arm = s.combiner.arm ∧
    (s.chargeResult r l).pending = s.pending ∧
    (∀ d', ((s.chargeResult r l).dom d').window = (s.dom d').window) ∧
    (∀ d', ((s.chargeResult r l).dom d').status = (s.dom d').status) ∧
    (∀ d', ((s.chargeResult r l).dom d').initialising = (s.dom d').initialising) ∧
    (∀ d', ((s.chargeResult r l).dom d').remembered = (s.dom d').remembered) ∧
    (∀ d', ((s.chargeResult r l).dom d').stray = (s.dom d').stray) ∧
    (∀ d', ((s.chargeResult r l).dom d').release = (s.dom d').release) ∧
    (∀ d', ((s.chargeResult r l).dom d').enables = (s.dom d').enables) ∧
    (∀ d', ((s.chargeResult r l).dom d').urgent = (s.dom d').urgent) ∧
    (∀ d', ((s.chargeResult r l).dom d').split = (s.dom d').split) ∧
    (∀ d', ((s.chargeResult r l).dom d').readData = (s.dom d').readData) := by
  simp only [State.chargeResult]
  (repeat' split) <;> simp

/-- What `State.setMode` leaves as it was. -/
@[simp] theorem State.setMode_frame (s : State) (m : HubMode) :
    (s.setMode m).now = s.now ∧
    (s.setMode m).inReset = s.inReset ∧
    (s.setMode m).lanes = s.lanes ∧ (∀ l', (s.setMode m).lane l' = s.lane l') ∧
    (s.setMode m).scanner = s.scanner ∧
    (s.setMode m).exchanges = s.exchanges ∧
    (∀ j, (s.setMode m).entry j = s.entry j) ∧
    (s.setMode m).routes = s.routes ∧
    (s.setMode m).hub.routesLoaded = s.hub.routesLoaded ∧
    (s.setMode m).hub.loading = s.hub.loading ∧
    (s.setMode m).hub.outstanding = s.hub.outstanding ∧
    (s.setMode m).hub.fifo = s.hub.fifo ∧
    (s.setMode m).panel = s.panel ∧
    (s.setMode m).touch = s.touch ∧
    (∀ j, (s.setMode m).contact j = s.contact j) ∧
    (s.setMode m).keys = s.keys ∧
    (∀ k', (s.setMode m).key k' = s.key k') ∧
    (s.setMode m).lines = s.lines ∧
    (∀ n', (s.setMode m).line n' = s.line n') ∧
    (s.setMode m).combiner = s.combiner ∧
    (s.setMode m).pending = s.pending ∧
    (∀ d', ((s.setMode m).dom d').window = (s.dom d').window) ∧
    (∀ d', ((s.setMode m).dom d').status = (s.dom d').status) ∧
    (∀ d', ((s.setMode m).dom d').initialising = (s.dom d').initialising) ∧
    (∀ d', ((s.setMode m).dom d').remembered = (s.dom d').remembered) ∧
    (∀ d', ((s.setMode m).dom d').stray = (s.dom d').stray) ∧
    (∀ d', ((s.setMode m).dom d').release = (s.dom d').release) ∧
    (∀ d', ((s.setMode m).dom d').enables = (s.dom d').enables) ∧
    (∀ d', ((s.setMode m).dom d').urgent = (s.dom d').urgent) ∧
    (∀ d', ((s.setMode m).dom d').split = (s.dom d').split) ∧
    (∀ d', ((s.setMode m).dom d').readData = (s.dom d').readData) := by
  simp [State.setMode]

end Sys2Proof.Machine
end

