-- ==== Sys2Proof/Laws/Memory.lean ====
section
/-! SUPPORT. What the operations of exchange memory do: a byte read after a write, the canonical form, and the bytes of a
number. -/

namespace Sys2Proof.Machine

/-! ## Reads -/

theorem Memory.read_append (m m' : Memory) (x : Nat) :
    Memory.read (m ++ m') x = if (m.map Prod.fst).contains x then Memory.read m x else Memory.read m' x := by
  induction m with
  | nil => simp
  | cons c m ih =>
    obtain ⟨b, v⟩ := c
    by_cases h : b = x
    · simp [Memory.read, h]
    · have h' : ¬ x = b := fun e => h e.symm
      simp only [List.cons_append, Memory.read, h, if_false, ih, List.map_cons, List.contains_cons]
      simp [h']

/-- A byte that no cell lists reads as 0. -/
theorem Memory.read_absent (m : Memory) (x : Nat) (h : ∀ c ∈ m, c.1 ≠ x) : Memory.read m x = 0#8 := by
  induction m with
  | nil => rfl
  | cons c m ih =>
    obtain ⟨b, v⟩ := c
    have hb : b ≠ x := h (b, v) (by simp)
    simp only [Memory.read, hb, if_false]
    exact ih fun c hc => h c (by simp [hc])

theorem Memory.read_filter (m : Memory) (p : Nat → Bool) (x : Nat) :
    Memory.read (m.filter fun c => p c.1) x = if p x then Memory.read m x else 0#8 := by
  induction m with
  | nil => simp [Memory.read]
  | cons c m ih =>
    obtain ⟨b, v⟩ := c
    by_cases hp : p b = true
    · by_cases hb : b = x
      · subst hb; simp [Memory.read, hp]
      · simp [Memory.read, hp, hb, ih]
    · by_cases hb : b = x
      · subst hb; simp [hp, ih]
      · simp [Memory.read, hp, hb, ih]

theorem Memory.fst_cellsOf (a : Nat) (bs : List Byte) : ∀ c ∈ Memory.cellsOf a bs, a ≤ c.1 ∧ c.1 < a + bs.length := by
  induction bs generalizing a with
  | nil => simp [Memory.cellsOf]
  | cons b bs ih =>
    intro c hc
    unfold Memory.cellsOf at hc
    split at hc
    · have := ih (a + 1) c hc
      simp only [List.length_cons]; omega
    · rcases List.mem_cons.mp hc with rfl | hc
      · simp
      · have := ih (a + 1) c hc
        simp only [List.length_cons]; omega

theorem Memory.read_cellsOf (a : Nat) (bs : List Byte) (x : Nat) :
    Memory.read (Memory.cellsOf a bs) x = if a ≤ x then bs.getD (x - a) 0#8 else 0#8 := by
  induction bs generalizing a with
  | nil => simp [Memory.cellsOf, Memory.read]
  | cons b bs ih =>
    unfold Memory.cellsOf
    by_cases hx : x = a
    · subst hx
      split
      · next hb => simp [ih, hb]
      · simp [Memory.read]
    · have hax : ¬ a = x := fun e => hx e.symm
      have tail : (if a + 1 ≤ x then bs.getD (x - (a + 1)) 0#8 else 0#8) =
          if a ≤ x then (b :: bs).getD (x - a) 0#8 else 0#8 := by
        by_cases hle : a + 1 ≤ x
        · have : x - a = (x - (a + 1)) + 1 := by omega
          simp [hle, this, show a ≤ x by omega]
        · have : ¬ a ≤ x := by omega
          simp [hle, this]
      split
      · rw [ih]; exact tail
      · simp only [Memory.read, hax, if_false]; rw [ih]; exact tail

/-- A byte read after a write: the byte written, inside the bytes written, and the byte that stood there, outside them. -/
theorem Memory.read_write (m : Memory) (a : Nat) (bs : List Byte) (x : Nat) :
    Memory.read (Memory.write m a bs) x =
      if a ≤ x ∧ x < a + bs.length then bs.getD (x - a) 0#8 else Memory.read m x := by
  have low : ∀ c ∈ m.filter (fun c => decide (c.1 < a)), c.1 < a := by simp
  have high : ∀ c ∈ m.filter (fun c => decide (a + bs.length ≤ c.1)), a + bs.length ≤ c.1 := by simp
  have fl := Memory.read_filter m (fun k => decide (k < a)) x
  have fh := Memory.read_filter m (fun k => decide (a + bs.length ≤ k)) x
  have fm := Memory.read_cellsOf a bs x
  have none_of : ∀ (l : Memory), (∀ c ∈ l, c.1 ≠ x) → (l.map Prod.fst).contains x = false := by
    intro l hl
    simp only [List.contains_eq_mem, List.mem_map, decide_eq_false_iff_not, not_exists, not_and]
    exact fun c hc => hl c hc
  have absent : ∀ (l l' : Memory), (∀ c ∈ l, c.1 ≠ x) → Memory.read (l ++ l') x = Memory.read l' x := by
    intro l l' hl
    rw [Memory.read_append, none_of l hl]; simp
  have absent' : ∀ (l l' : Memory), (∀ c ∈ l', c.1 ≠ x) → Memory.read (l ++ l') x = Memory.read l x := by
    intro l l' hl
    rw [Memory.read_append]
    split
    · rfl
    · next hc =>
      rw [Memory.read_absent l' x hl, Memory.read_absent l x]
      intro c hcl e
      exact hc (by simp only [List.contains_eq_mem, decide_eq_true_eq]; exact List.mem_map.mpr ⟨c, hcl, e⟩)
  unfold Memory.write
  by_cases h1 : x < a
  · rw [List.append_assoc, absent', fl]
    · have : ¬ (a ≤ x ∧ x < a + bs.length) := by omega
      simp [h1, this]
    · intro c hc
      rcases List.mem_append.mp hc with hc | hc
      · have := Memory.fst_cellsOf a bs c hc; omega
      · have := high c hc; omega
  · by_cases h2 : x < a + bs.length
    · rw [absent', absent, fm]
      · simp [show a ≤ x by omega, h2]
      · intro c hc; have := low c hc; omega
      · intro c hc; have := high c hc; omega
    · rw [absent, fh]
      · have : ¬ (a ≤ x ∧ x < a + bs.length) := by omega
        simp [show a + bs.length ≤ x by omega, this]
      · intro c hc
        rcases List.mem_append.mp hc with hc | hc
        · have := low c hc; omega
        · have := Memory.fst_cellsOf a bs c hc; omega

/-- A byte read after a clearing. -/
theorem Memory.read_clear (m : Memory) (p : Nat → Bool) (x : Nat) :
    Memory.read (Memory.clear m p) x = if p x then 0#8 else Memory.read m x := by
  unfold Memory.clear
  rw [Memory.read_filter m (fun k => !p k) x]
  cases p x <;> simp

/-- The bytes read from an offset up. -/
theorem Memory.readBytes_getD (m : Memory) (a n k : Nat) (h : k < n) :
    (Memory.readBytes m a n).getD k 0#8 = Memory.read m (a + k) := by
  induction n generalizing a k with
  | zero => omega
  | succ n ih =>
    cases k with
    | zero => simp [Memory.readBytes]
    | succ k => simp only [Memory.readBytes, List.getD_cons_succ]; rw [ih (a + 1) k (by omega)]; congr 1; omega

@[simp] theorem Memory.readBytes_length (m : Memory) (a n : Nat) : (Memory.readBytes m a n).length = n := by
  induction n generalizing a with
  | zero => rfl
  | succ n ih => simp [Memory.readBytes, ih]

/-- The bytes read where they were written are those written. -/
theorem Memory.readBytes_write (m : Memory) (a : Nat) (bs : List Byte) :
    Memory.readBytes (Memory.write m a bs) a bs.length = bs := by
  apply List.ext_getElem (by simp)
  intro k hk _
  have hk' : k < bs.length := by simpa using hk
  have h := Memory.readBytes_getD (Memory.write m a bs) a bs.length k hk'
  rw [List.getD_eq_getElem _ _ hk, Memory.read_write] at h
  rw [h]
  simp [hk']

/-! ## The canonical form -/

theorem Memory.cellsOf_wf (a : Nat) (bs : List Byte) : (Memory.cellsOf a bs).wf := by
  induction bs generalizing a with
  | nil => simp [Memory.cellsOf, Memory.wf]
  | cons b bs ih =>
    unfold Memory.cellsOf
    split
    · exact ih (a + 1)
    · next hb =>
      refine ⟨List.pairwise_cons.mpr ⟨fun c hc => ?_, (ih (a + 1)).1⟩, fun c hc => ?_⟩
      · have := Memory.fst_cellsOf (a + 1) bs c hc; simp only; omega
      · rcases List.mem_cons.mp hc with rfl | hc
        · exact hb
        · exact (ih (a + 1)).2 c hc

/-- A write keeps the canonical form. -/
theorem Memory.write_wf {m : Memory} (h : m.wf) (a : Nat) (bs : List Byte) : (Memory.write m a bs).wf := by
  have low : ∀ c ∈ m.filter (fun c => decide (c.1 < a)), c.1 < a := by simp
  have high : ∀ c ∈ m.filter (fun c => decide (a + bs.length ≤ c.1)), a + bs.length ≤ c.1 := by simp
  have hm := Memory.fst_cellsOf a bs
  refine ⟨?_, fun c hc => ?_⟩
  · unfold Memory.write
    refine List.pairwise_append.mpr ⟨List.pairwise_append.mpr
      ⟨h.1.filter _, (Memory.cellsOf_wf a bs).1, fun c hc d hd => ?_⟩, h.1.filter _, fun c hc d hd => ?_⟩
    · have := low c hc; have := hm d hd; omega
    · have hd := high d hd
      rcases List.mem_append.mp hc with hc | hc
      · have := low c hc; omega
      · have := hm c hc; omega
  · unfold Memory.write at hc
    rcases List.mem_append.mp hc with hc | hc
    · rcases List.mem_append.mp hc with hc | hc
      · exact h.2 c (List.mem_of_mem_filter hc)
      · exact (Memory.cellsOf_wf a bs).2 c hc
    · exact h.2 c (List.mem_of_mem_filter hc)

/-- A clearing keeps the canonical form. -/
theorem Memory.clear_wf {m : Memory} (h : m.wf) (p : Nat → Bool) : (Memory.clear m p).wf :=
  ⟨h.1.filter _, fun c hc => h.2 c (List.mem_of_mem_filter hc)⟩

/-- A write inside a window keeps its contents inside it. -/
theorem Memory.write_below {m : Memory} {size : Nat} (h : Memory.below size m) (a : Nat) (bs : List Byte)
    (fits : a + bs.length ≤ size) : Memory.below size (Memory.write m a bs) := by
  intro c hc
  unfold Memory.write at hc
  rcases List.mem_append.mp hc with hc | hc
  · rcases List.mem_append.mp hc with hc | hc
    · exact h c (List.mem_of_mem_filter hc)
    · have := Memory.fst_cellsOf a bs c hc; omega
  · exact h c (List.mem_of_mem_filter hc)

/-- A clearing keeps a window's contents inside it. -/
theorem Memory.clear_below {m : Memory} {size : Nat} (h : Memory.below size m) (p : Nat → Bool) :
    Memory.below size (Memory.clear m p) :=
  fun c hc => h c (List.mem_of_mem_filter hc)

/-! ## The bytes of a number -/

@[simp] theorem bytesOf_length (n v : Nat) : (bytesOf n v).length = n := by
  induction n generalizing v with
  | zero => rfl
  | succ n ih => simp [bytesOf, ih]

/-- The number that the low bytes of a number spell. -/
theorem natOf_bytesOf (n v : Nat) : natOf (bytesOf n v) = v % 256 ^ n := by
  induction n generalizing v with
  | zero => simp [bytesOf, natOf, Nat.mod_one]
  | succ n ih =>
    simp only [bytesOf, natOf, ih, BitVec.toNat_ofNat]
    rw [show (256 : Nat) ^ (n + 1) = 256 * 256 ^ n from Nat.pow_succ', Nat.mod_mul]

end Sys2Proof.Machine
end

