-- ==== Sys2Proof/Laws/Ops.lean ====
section
/-! SUPPORT. What the shared operations do, said once: bytes, boards and takes, claims, admission, and the hub service. -/

namespace Sys2Proof.Machine

/-! ## Bytes -/

/-- Byte `k` of a number's low `n` bytes. -/
theorem bytesOf_getD (n v k : Nat) (h : k < n) : (bytesOf n v).getD k 0#8 = BitVec.ofNat 8 (v / 256 ^ k) := by
  induction n generalizing v k with
  | zero => omega
  | succ n ih =>
    cases k with
    | zero => simp [bytesOf]
    | succ k =>
      rw [show bytesOf (n+1) v = BitVec.ofNat 8 v :: bytesOf n (v/256) from rfl, List.getD_cons_succ, ih _ _ (by omega)]
      rw [Nat.div_div_eq_div_mul, pow_succ, mul_comm]

/-- The number that bytes spell fits them. -/
theorem natOf_lt (bs : List Byte) : natOf bs < 256 ^ bs.length := by
  induction bs with
  | nil => simp [natOf]
  | cons b bs ih =>
    have := b.isLt
    simp only [natOf, List.length_cons, pow_succ]; omega

/-- Byte `k` of the number that bytes spell. -/
theorem byte_of_natOf (bs : List Byte) (k : Nat) : BitVec.ofNat 8 (natOf bs / 256 ^ k) = bs.getD k 0#8 := by
  induction bs generalizing k with
  | nil => simp [natOf]
  | cons b bs ih =>
    cases k with
    | zero => simp [natOf]; apply BitVec.eq_of_toNat_eq; simp; have := b.isLt; omega
    | succ k =>
      rw [List.getD_cons_succ, ← ih, pow_succ', ← Nat.div_div_eq_div_mul]
      have : natOf (b :: bs) / 256 = natOf bs := by simp [natOf]; have := b.isLt; omega
      rw [this]

/-- Byte `k` of a word made of up to four bytes. -/
theorem word_byte (bs : List Byte) (h : bs.length ≤ 4) (k : Nat) :
    (BitVec.ofNat 32 (natOf bs)).extractLsb' (8 * k) 8 = bs.getD k 0#8 := by
  rw [← byte_of_natOf]
  apply BitVec.eq_of_toNat_eq
  simp only [BitVec.extractLsb'_toNat, BitVec.toNat_ofNat, Nat.shiftRight_eq_div_pow]
  have h1 : natOf bs < 2 ^ 32 := by
    have := natOf_lt bs
    have h2 : 256 ^ bs.length ≤ 256 ^ 4 := Nat.pow_le_pow_right (by omega) h
    omega
  rw [Nat.mod_eq_of_lt h1, show 256 ^ k = 2 ^ (8 * k) by rw [pow_mul]; norm_num]

/-- Byte `k` of the tail of a list. -/
theorem getD_tail (bs : List Byte) (k : Nat) : bs.tail.getD k 0#8 = bs.getD (k+1) 0#8 := by
  cases bs <;> simp

/-! ## Lanes, flags and tags -/

/-- Every lane stands in the list of the lanes. -/
theorem mem_allLanes (l : Lane) : l ∈ allLanes := by
  cases l with
  | app x => revert x; decide
  | pay => decide
  | rad => decide

/-- VIOL is true while a lane is marked auto-fenced. -/
theorem viol_iff (s : State) : s.viol = true ↔ ∃ l, (s.lane l).autoFenced = true := by
  simp [State.viol, mem_allLanes]

/-- A flag's bit lies among the 25 positions of TABLE G. -/
theorem Flag.bit_lt (f : Flag) : f.bit < 25 := by
  cases f with
  | inbound l => cases l <;> simp [Flag.bit, Lane.place] <;> omega
  | outcome l => cases l <;> simp [Flag.bit, Lane.place] <;> omega
  | _ => decide

/-- The mask of a flag has the flag's bit alone. -/
theorem Flag.getLsbD_mask (f : Flag) (b : Nat) : f.mask.getLsbD b = decide (b = f.bit) := by
  have := f.bit_lt
  rw [Flag.mask, BitVec.getLsbD_shiftLeft, Bool.eq_iff_iff]
  simp
  omega

/-- A tag finds the entry of its index where the generations agree (R29, R83). -/
theorem findTag_of_generation {s : State} {tag : Nat} {i : Fin 48} (hi : i.val = tag % 64)
    (hg : (s.entry i).generation.toNat = tag / 64) : s.findTag tag = some i := by
  have h : tag % 64 < 48 := by omega
  have e : (⟨tag % 64, h⟩ : Fin 48) = i := Fin.ext hi.symm
  simp [State.findTag, h, e, hg]

/-- A tag that agrees with no entry finds none. -/
theorem findTag_none {s : State} {tag : Nat}
    (h : ∀ i : Fin 48, i.val = tag % 64 → (s.entry i).generation.toNat ≠ tag / 64) : s.findTag tag = none := by
  unfold State.findTag
  split
  · rw [if_neg (h _ rfl)]
  · rfl

/-! ## Boards and the scanner -/

/-- A circular search finds the first slot at or after the cursor that `p` picks. -/
theorem searchBoard_eq_some (n c : Nat) (p : Nat → Bool) (i : Nat) : searchBoard n c p = some i ↔
    ∃ k, k < n ∧ i = (c + k) % n ∧ p i = true ∧ ∀ j, j < k → p ((c + j) % n) = false := by
  unfold searchBoard
  rw [List.find?_map, Option.map_eq_some_iff]
  constructor
  · rintro ⟨k, hk, rfl⟩
    rw [List.find?_eq_some_iff_getElem] at hk
    obtain ⟨h1, m, hm, h2, h3⟩ := hk
    simp at h2 hm; subst h2
    refine ⟨m, hm, rfl, h1, fun j hj => ?_⟩
    simpa using h3 j hj
  · rintro ⟨k, hk, rfl, h1, h2⟩
    refine ⟨k, ?_, rfl⟩
    rw [List.find?_eq_some_iff_getElem]
    refine ⟨h1, k, by simpa using hk, by simp, fun j hj => ?_⟩
    simpa using h2 j hj

/-- A circular search finds nothing where `p` picks no slot. -/
theorem searchBoard_eq_none (n c : Nat) (p : Nat → Bool) : searchBoard n c p = none ↔
    ∀ k, k < n → p ((c + k) % n) = false := by
  simp [searchBoard]

/-- Every board has a slot. -/
theorem slots_pos (l : Lane) : 0 < l.slots := by cases l <;> simp [Lane.slots]

/-- The lanes in cyclic order from the next-lane position. -/
theorem lanesFrom_getElem? (l : Lane) (i : Nat) (h : i < 10) :
    (lanesFrom l)[i]? = some (laneAt (l.code + Fin.ofNat 10 i)) := by
  have : ∀ (c : Fin 10) (i : Fin 10), (allLanes.rotate c.val)[i.val]? = some (laneAt (c + i)) := by decide
  have := this l.code ⟨i, h⟩
  rw [lanesFrom, this]; congr 2; simp [Fin.ofNat, Nat.mod_eq_of_lt h]

/-! ## Takes -/

/-- A take runs for the lane that the visit or the grant names. -/
theorem exec_take {s : State} {l : Lane} {first : Bool} (h : TakeBegins s l first) :
    exec .take s = .next ((s.visiting l first).takeFor l first) := by
  obtain ⟨h1, h2⟩ := h
  cases first
  · simp at h2
    simp [exec, execTake, h1, h2, State.visiting]
  · simp at h2
    simp [exec, execTake, h1, h2, State.visiting]

/-- A visit that begins leaves what the take searches. -/
theorem visiting_filledSlot (s : State) (l : Lane) (f : Bool) : (s.visiting l f).filledSlot l = s.filledSlot l := by
  cases f <;> rfl

/-- A visit that begins leaves what admission reads. -/
theorem visiting_judge (s : State) (l : Lane) (f : Bool) m : (s.visiting l f).judge l m = s.judge l m := by
  cases f <;> rfl

/-- A visit that begins leaves the buffers. -/
theorem visiting_grantBuffer (s : State) (l : Lane) (f : Bool) :
    (s.visiting l f).grantBuffer l = s.grantBuffer l := by cases f <;> rfl

/-- A visit that begins leaves the windows. -/
theorem visiting_window (s : State) (l : Lane) (f : Bool) (d) : (s.visiting l f).window d = s.window d := by
  cases f <;> rfl

/-- A visit that begins leaves the lanes. -/
theorem visiting_lane (s : State) (l : Lane) (f : Bool) (d) : (s.visiting l f).lane d = s.lane d := by cases f <;> rfl

/-- A visit that begins leaves the routes. -/
theorem visiting_routes (s : State) (l : Lane) (f : Bool) : (s.visiting l f).routes = s.routes := by cases f <;> rfl

/-- Below its quota a lane is granted the lowest-numbered free buffer (R57). -/
theorem grantBuffer_eq_some {s : State} {l : Lane} {b : Fin 30} (h : s.charged l < l.quota)
    (h2 : s.bufferFree b = true) (h3 : ∀ c, c < b → s.bufferFree c = false) :
    s.grantBuffer l = some b := by
  simp only [State.grantBuffer, h, if_true]
  rw [List.find?_eq_some_iff_getElem]
  refine ⟨h2, b.val, by simp, by simp, fun j hj => ?_⟩
  simp; apply h3; exact hj

/-- A take that admission would accept and the holding queue cannot buffer is held back (R16). -/
theorem takeFor_of_no_buffer {s : State} {l : Lane} {first : Bool} {slot : Nat} (h : s.filledSlot l = some slot)
    (hj : ∀ o, s.judge l (s.slotMessage l slot) ≠ .refuse o) (hb : s.grantBuffer l = none) :
    s.takeFor l first = s.heldBack l slot := by
  have hm : readSlot (s.window l.domain) (l.outSlot slot) = s.slotMessage l slot := rfl
  simp only [State.takeFor, h, hm, hb]
  split <;> simp_all

/-- The search that follows a held-back take begins at its slot and finds it (R17). -/
theorem filledSlot_heldBack {s : State} {l : Lane} {slot : Nat} (h : s.filledSlot l = some slot) :
    (s.heldBack l slot).filledSlot l = some slot := by
  obtain ⟨k, hk, rfl, hp, -⟩ := (searchBoard_eq_some _ _ _ _).1 h
  refine (searchBoard_eq_some _ _ _ _).2 ⟨0, slots_pos l, ?_, ?_, fun j hj => absurd hj (Nat.not_lt_zero j)⟩
  · have : ((s.heldBack l (((s.lane l).takeCursor + k) % l.slots)).lane l).takeCursor
        = ((s.lane l).takeCursor + k) % l.slots := by
      simp [State.heldBack, State.noVisit, State.updLane, State.lane, State.setLane]
    simp [this]
  · exact hp

/-- A take that settles a slot moves the cursor past it (R14). -/
theorem afterTake_eq (u : State) (l : Lane) (slot : Nat) (first : Bool) (s : State)
    (h : u.scanner = (s.visiting l first).scanner) :
    u.afterTake l slot first = { u.updLane l fun q => { q with takeCursor := (slot + 1) % l.slots } with
          scanner := scannerAfter s l first true } := by
  unfold State.afterTake scannerAfter
  cases first <;> simp [State.updLane, State.setLane, h, State.visiting]

/-- A message joins a lane's FIFO, or is dropped where the lane is fenced (R73). -/
theorem joinMessage_board (s X : State) (r : Lane) (h : Held) (e : (X.lane r).fenced = (s.lane r).fenced) :
    X.joinMessage (.board r) h = (if (s.lane r).fenced then
        State.clearBufferWait (X.updLane r fun q => { q with dropped := min (q.dropped + 1) 65535 })
      else X.updLane r fun q => { q with fifo := q.fifo ++ [.message h] }) := by
  simp only [State.joinMessage, e]; rfl

/-- A message that joins leaves the scanner. -/
theorem joinMessage_scanner (X : State) (r : Recipient) (h : Held) : (X.joinMessage r h).scanner = X.scanner := by
  cases r with
  | hub => rfl
  | board l => simp only [State.joinMessage]; split <;> simp

/-- The record of an admission leaves the scanner. -/
theorem admitted_scanner (X : State) (l : Lane) (slot tag) : (X.admitted l slot tag).scanner = X.scanner := by
  simp [State.admitted, State.writeOutcome, State.writeWindow]

/-- Two changes of one lane's record are one. -/
theorem updLane_updLane (X : State) (l : Lane) (f g : LaneState → LaneState) :
    (X.updLane l f).updLane l g = X.updLane l (g ∘ f) := by
  simp [State.updLane, State.setLane, State.lane]

/-! ## Claims -/

/-- The lowest-numbered FREE entry (R78). -/
theorem firstFree_eq_some {s : State} {i : Fin 48} (h : (s.entry i).state = .free)
    (h2 : ∀ j, j < i → (s.entry j).state ≠ .free) : s.firstFree = some i := by
  simp only [State.firstFree]
  rw [List.find?_eq_some_iff_getElem]
  refine ⟨by simp [h], i.val, by simp, by simp, fun j hj => ?_⟩
  simp; apply h2; exact hj

/-- With no LAPSED entry there is no earliest one. -/
theorem earliestLapsed_of_none (s : State) (xs : List (Fin 48))
    (h : ∀ i ∈ xs, (s.entry i).state.lapsedDeadline? = none) : s.earliestLapsed xs = none := by
  induction xs with
  | nil => rfl
  | cons i xs ih => simp [State.earliestLapsed, h i, ih (fun j hj => h j (List.mem_cons_of_mem _ hj))]

/-- The earliest LAPSED entry is one of the entries and LAPSED. -/
theorem earliestLapsed_mem (s : State) (xs : List (Fin 48)) (j : Fin 48) (h : s.earliestLapsed xs = some j) :
    j ∈ xs ∧ ∃ x, (s.entry j).state = .lapsed x := by
  induction xs generalizing j with
  | nil => simp [State.earliestLapsed] at h
  | cons i xs ih =>
    simp only [State.earliestLapsed] at h
    have hx : ∀ d, (s.entry i).state.lapsedDeadline? = some d → ∃ x, (s.entry i).state = .lapsed x := by
      intro d hd; cases hs : (s.entry i).state <;> simp_all [ExchangeState.lapsedDeadline?]
    split at h
    · exact ⟨List.mem_cons_of_mem _ (ih j h).1, (ih j h).2⟩
    · cases h; exact ⟨by simp, hx _ ‹_›⟩
    · split at h
      · cases h; exact ⟨by simp, hx _ ‹_›⟩
      · cases h; rename_i k hk _; exact ⟨List.mem_cons_of_mem _ (ih _ hk).1, (ih _ hk).2⟩

/-- The LAPSED entry with the earliest deadline, the lowest-numbered of equals (R79). -/
theorem earliestLapsed_eq_some (s : State) (xs : List (Fin 48)) (hs : xs.Pairwise (· < ·)) (i : Fin 48)
    (x : Exchange) (hi : i ∈ xs) (hx : (s.entry i).state = .lapsed x)
    (hm : ∀ j ∈ xs, ∀ y, (s.entry j).state = .lapsed y → x.deadline < y.deadline
    ∨ (x.deadline = y.deadline ∧ i ≤ j)) : s.earliestLapsed xs = some i := by
  induction xs with
  | nil => simp at hi
  | cons k xs ih =>
    rw [List.pairwise_cons] at hs
    rcases List.mem_cons.1 hi with rfl | hi'
    · simp only [State.earliestLapsed, hx, ExchangeState.lapsedDeadline?]
      split
      · simp_all
      · rfl
      · rename_i d j hd hj
        cases hd
        obtain ⟨hj1, y, hy⟩ := earliestLapsed_mem s xs j hj
        have := hm j (List.mem_cons_of_mem _ hj1) y hy
        have e : (s.entry j).state.lapsedDeadline? = some y.deadline := by rw [hy]; rfl
        show (if x.deadline ≤ ((s.entry j).state.lapsedDeadline?).getD 0 then _ else _) = _
        rw [e, if_pos]
        simp; omega
    · have := ih hs.2 hi' (fun j hj => hm j (List.mem_cons_of_mem _ hj))
      simp only [State.earliestLapsed, this]
      have e : (s.entry i).state.lapsedDeadline? = some x.deadline := by rw [hx]; rfl
      cases hk : (s.entry k).state <;> simp only [ExchangeState.lapsedDeadline?]
      rename_i y
      show (if y.deadline ≤ ((s.entry i).state.lapsedDeadline?).getD 0 then some k else some i) = some i
      rw [e]
      have h1 := hm k (by simp) y hk
      have h2 := hs.1 i hi'
      rw [if_neg]
      simp; omega

/-- The entry that a REQUEST claims (R78, R79). -/
theorem claimable_eq_some {s : State} {i : Fin 48}
    (h : ((s.entry i).state = .free ∧ ∀ j, j < i → (s.entry j).state ≠ .free)
      ∨ ((∀ j, (s.entry j).state ≠ .free) ∧ ∃ x, (s.entry i).state = .lapsed x
          ∧ ∀ j y, (s.entry j).state = .lapsed y → x.deadline < y.deadline ∨ (x.deadline = y.deadline ∧ i ≤ j))) :
          s.claimable = some i := by
  rcases h with ⟨h1, h2⟩ | ⟨h1, x, h2, h3⟩
  · simp [State.claimable, firstFree_eq_some h1 h2]
  · have : s.firstFree = none := by simp [State.firstFree, h1]
    simp only [State.claimable, this]
    apply earliestLapsed_eq_some s _ (List.pairwise_lt_finRange 48) i x (by simp) h2
    intro j _ y; exact h3 j y

/-- No entry is FREE. -/
theorem firstFree_eq_none (s : State) : s.firstFree = none ↔ ∀ i, (s.entry i).state ≠ .free := by
  simp [State.firstFree]

/-- No entry of a list is LAPSED. -/
theorem earliestLapsed_eq_none (s : State) (xs : List (Fin 48)) : s.earliestLapsed xs = none ↔
    ∀ i ∈ xs, ∀ x, (s.entry i).state ≠ .lapsed x := by
  induction xs with
  | nil => simp [State.earliestLapsed]
  | cons i xs ih =>
    simp only [State.earliestLapsed]
    have : (s.entry i).state.lapsedDeadline? = none ↔ ∀ x, (s.entry i).state ≠ .lapsed x := by
      cases (s.entry i).state <;> simp [ExchangeState.lapsedDeadline?]
    cases h1 : (s.entry i).state.lapsedDeadline? with
    | none => simp [ih]; intro _; exact this.1 h1
    | some d =>
      have h2 : ¬ ∀ x, (s.entry i).state ≠ .lapsed x := by rw [← this]; simp [h1]
      cases h3 : s.earliestLapsed xs with
      | none => simp; tauto
      | some j => simp; split_ifs <;> simp <;> tauto

/-- No entry can be claimed where none is FREE and none is LAPSED (R42). -/
theorem claimable_eq_none (s : State) : s.claimable = none ↔
    ∀ n, (s.entry n).state ≠ .free ∧ ∀ x, (s.entry n).state ≠ .lapsed x := by
  unfold State.claimable
  split
  · rename_i i h
    simp
    by_contra hc; push Not at hc
    have := (firstFree_eq_none s).2 (fun i => by
      by_cases hh : (s.entry i).state = .free
      · obtain ⟨x, hx⟩ := hc i; exact absurd hh x
      · exact hh)
    simp_all
  · rename_i h
    rw [earliestLapsed_eq_none, firstFree_eq_none] at *
    simp; exact ⟨fun g n => ⟨h n, g n⟩, fun g i => (g i).2⟩

/-- A REQUEST finds room below its limit where an entry can be claimed (R42). -/
theorem roomRefusal_eq_none {s : State} {l : Lane} (h : s.openRequests l < l.requestLimit)
    (h2 : ∃ n, (s.entry n).state = .free ∨ ∃ x, (s.entry n).state = .lapsed x) :
    s.roomRefusal l = none := by
  have : s.claimable ≠ none := by
    rw [Ne, claimable_eq_none]; push Not
    obtain ⟨n, hn⟩ := h2; refine ⟨n, fun hf => ?_⟩
    rcases hn with hn | hn
    · exact absurd hn hf
    · exact hn
  simp [State.roomRefusal, Nat.not_le.2 h]; exact this

/-! ## Removals and counters -/

/-- What a removal from the FIFOs does to a lane: the entries that are not kept go, and its buffer-wait mark is cleared where any of
the removed ones, in whichever FIFO, held a buffer (R17, R58, R64). -/
theorem filterFifos_lane (s : State) (keep : Lane → Entry → Bool) (keepHub : Held → Bool) (l : Lane) :
    (s.filterFifos keep keepHub).lane l = { s.lane l with
      fifo := (s.lane l).fifo.filter (keep l)
      bufferWait := (s.lane l).bufferWait
        && !(allLanes.any (fun k => (s.lane k).fifo.any fun e => !keep k e && e.holdsBuffer)
          || s.hub.fifo.any fun h => !keepHub h) } := by
  unfold State.filterFifos
  dsimp only
  split
  · rename_i h; simp only [h]; simp [State.clearBufferWait, State.lane, State.updLanes]
  · rename_i h; simp only [h]; simp [State.lane, State.updLanes]

/-- A counter stands where nothing is counted. -/
@[simp] theorem counterAfter_zero (c : Nat) : counterAfter c 0 = c := rfl

/-- One more, and then `n` more, are `n + 1` more. -/
theorem counterAfter_bump (c n : Nat) : counterAfter (bump c) n = counterAfter c (n + 1) := by
  unfold counterAfter bump
  split
  · subst n; simp
  · rw [if_neg (Nat.succ_ne_zero n)]; omega

/-! ## Conclusion references -/

/-- A FIFO with no reference that `p` picks stays as it is. -/
theorem orderReferences_of_none {p : Fin 48 → Bool} {fifo : List Entry} (h : ∀ e ∈ fifo, e.refersTo p = false) :
    orderReferences p fifo = fifo := by
  have h1 : fifo.takeWhile (fun e => !e.refersTo p) = fifo := List.takeWhile_eq_self_iff.2 fun e he => by simp [h e he]
  have h2 : fifo.dropWhile (fun e => !e.refersTo p) = [] := List.dropWhile_eq_nil_iff.2 fun e he => by simp [h e he]
  have h3 : pickedReferences p fifo = [] := by
    simp only [pickedReferences, List.filter_eq_nil_iff, Bool.and_eq_true, decide_eq_true_eq, not_and]
    exact fun i _ hp hm => by simpa [Entry.refersTo, hp] using h _ hm
  simp [orderReferences, h1, h2, h3]

/-- The references that the order picks stand where `p` picks them. -/
theorem refersTo_of_picked {p : Fin 48 → Bool} {fifo : List Entry} :
    ∀ e ∈ (pickedReferences p fifo).map Entry.conclusion, e.refersTo p = true := by
  intro e he
  obtain ⟨i, hi, rfl⟩ := List.mem_map.1 he
  exact (Bool.and_eq_true_iff.1 (List.mem_filter.1 hi).2).1

/-- The order of the other entries is unchanged. -/
theorem orderReferences_filter (p : Fin 48 → Bool) (fifo : List Entry) :
    (orderReferences p fifo).filter (fun e => !e.refersTo p) = fifo.filter fun e => !e.refersTo p := by
  have h : ((pickedReferences p fifo).map Entry.conclusion).filter (fun e => !e.refersTo p) = [] :=
    List.filter_eq_nil_iff.2 fun e he => by simp [refersTo_of_picked e he]
  have h' := List.takeWhile_append_dropWhile (p := fun e => !e.refersTo p) (l := fifo)
  conv_rhs => rw [← h']
  simp only [orderReferences, List.filter_append, List.filter_filter, Bool.and_self, h,
    List.append_nil]

/-- References that join a FIFO holding none of them stand behind it in ascending order (R86). -/
theorem orderReferences_append {p : Fin 48 → Bool} {fifo : List Entry} {refs : List (Fin 48)}
    (h : ∀ e ∈ fifo, e.refersTo p = false) (hr : ∀ i ∈ refs, p i = true) :
    orderReferences p (fifo ++ refs.map .conclusion)
      = fifo ++ ((List.finRange 48).filter fun i => decide (i ∈ refs)).map .conclusion := by
  have h0 : ∀ e ∈ refs.map Entry.conclusion, e.refersTo p = true := by simpa [Entry.refersTo] using hr
  have h1 : (fifo ++ refs.map Entry.conclusion).takeWhile (fun e : Entry => !e.refersTo p) = fifo := by
    rw [List.takeWhile_append_of_pos (fun e he => by simp [h e he])]
    cases refs with
    | nil => simp
    | cons i refs => simp [h0 (.conclusion i) (by simp)]
  have h2 : ((fifo ++ refs.map Entry.conclusion).dropWhile fun e : Entry => !e.refersTo p).filter (fun e : Entry => !e.refersTo p) = [] := by
    rw [List.dropWhile_append_of_pos (fun e he => by simp [h e he]), List.filter_eq_nil_iff]
    exact fun e he => by simp [h0 e ((List.dropWhile_suffix _).subset he)]
  have h3 : pickedReferences p (fifo ++ refs.map Entry.conclusion) = (List.finRange 48).filter fun i => decide (i ∈ refs) := by
    refine List.filter_congr fun i _ => ?_
    by_cases hi : i ∈ refs
    · simp [hi, hr i hi]
    · have : p i = true → .conclusion i ∉ fifo := fun hp hm => by simpa [Entry.refersTo, hp] using h _ hm
      cases hp : p i <;> simp_all
  simp [orderReferences, h1, h2, h3]

/-- The order changes FIFOs alone. -/
theorem orderConclusions_lane (was s : State) (l : Lane) : (State.orderConclusions was s).lane l = { s.lane l with
    fifo := orderReferences (fun i => (s.entry i).state.isClosing && !(was.entry i).state.isClosing) (s.lane l).fifo } := by
  simp [State.orderConclusions]

/-! ## Admission -/

/-- The domain and service codes that name no address (R21). -/
theorem address_decode_eq_none (d v : Nat) : Address.decode d v = none ↔ (d ∉ [1, 2, 3, 4] ∨ (d = 1 ∧ 8 ≤ v)
          ∨ (d = 4 ∧ 1 ≤ v) ∨ ((d = 2 ∨ d = 3) ∧ 16 ≤ v)) := by
  unfold Address.decode
  split_ifs <;> simp_all <;> omega

/-- The kind codes that name no kind (R21). -/
theorem kind_ofCode_eq_none (c : Nat) : Kind.ofCode c = none ↔ c ∉ [1,2,3] := by
  unfold Kind.ofCode; split_ifs <;> simp_all

/-- The first route of a key (R35). -/
theorem findIdx_route (rs : List Route) (src : RouteSource) (a : Address) (i : Nat) (e : Route) (h : rs[i]? = some e)
    (h2 : e.source = src) (h3 : e.target = a)
    (h4 : ∀ j f, j < i → rs[j]? = some f → ¬(f.source = e.source ∧ f.target = a)) :
    rs.findIdx? (fun r => decide (r.source = src) && decide (r.target = a)) = some i := by
  rw [List.findIdx?_eq_some_iff_getElem]
  obtain ⟨hi, he⟩ := List.getElem?_eq_some_iff.1 h
  refine ⟨hi, by simp [he, h2, h3], fun j hj => ?_⟩
  have := h4 j rs[j] hj (List.getElem?_eq_getElem _)
  rw [h2] at this
  simpa using this

/-! ## The hub service -/

/-- The request that the hub service takes is at the head of the HUB FIFO (R95). -/
theorem hubHead_of_hubTakes {s : State} {m : Message} (h : HubTakes s m) : ∃ b, s.hubHead = some b ∧ b.message = m := by
  obtain ⟨h1, h2, h3, h4⟩ := h
  rw [Option.map_eq_some_iff] at h4
  obtain ⟨b, hb, hm⟩ := h4
  refine ⟨b, ?_, hm⟩
  simp [State.hubHead, h1, State.hubBusy, h2, Nat.not_le.2 h3, hb]

/-- A hub request that is taken is judged and carried out, or completed with the check that fails (R96). -/
theorem serve_of_hubTakes {s : State} {m : Message} (h : HubTakes s m) (q : HubRequest) (hq : q.takes m.payload = true) :
    q.serve s = match q.judge (s.hubTake m) m with
      | some (r, detail) => ((s.hubTake m).chargeResult r m.sender).finish m q.code r detail []
      | none => q.run (s.hubTake m) m := by
  obtain ⟨b, hb, rfl⟩ := hubHead_of_hubTakes h
  show (match s.hubHead with | none => s | some h => _) = _
  rw [hb]
  exact if_pos hq

/-- The take of a hub request leaves the mode. -/
theorem hubTake_mode (s : State) (m : Message) : (s.hubTake m).hub.mode = s.hub.mode := by simp [State.hubTake]

/-- A lane that may not issue the request is answered AUTHORITY and charged (R48, R96). -/
theorem serve_authority {s : State} {m : Message} (h : HubTakes s m) (q : HubRequest) (hq : q.takes m.payload = true)
    (hi : q.issuer m.sender = false) :
    q.serve s = ((s.hubTake m).violate m.sender).finish m q.code .authority 0 [] := by
  rw [serve_of_hubTakes h q hq]; simp [HubRequest.judge, hi, State.chargeResult]

/-- A mode that does not carry it out answers MODE (R96). -/
theorem serve_mode {s : State} {m : Message} (h : HubTakes s m) (q : HubRequest) (hq : q.takes m.payload = true)
    (hi : q.issuer m.sender = true)
    (ha : q.available s.hub.mode = false) :
    q.serve s = (s.hubTake m).finish m q.code .mode 0 [] := by
  rw [serve_of_hubTakes h q hq]; simp [HubRequest.judge, hi, State.chargeResult, ha]

/-- A request shorter than its parameters is answered PARAMETER (R96). -/
theorem serve_short {s : State} {m : Message} (h : HubTakes s m) (q : HubRequest) (hq : q.takes m.payload = true)
    (hi : q.issuer m.sender = true)
    (ha : q.available s.hub.mode = true) (hl : m.payload.length < q.length m.payload) :
    q.serve s = (s.hubTake m).finish m q.code .parameter 0xFFFF [] := by
  rw [serve_of_hubTakes h q hq]; simp [HubRequest.judge, hi, State.chargeResult, ha, hl]

/-- A field with a value not listed is answered PARAMETER (R33, R96). -/
theorem serve_badField {s : State} {m : Message} (h : HubTakes s m) (q : HubRequest) (hq : q.takes m.payload = true)
    (hi : q.issuer m.sender = true)
    (ha : q.available s.hub.mode = true) (hl : q.length m.payload ≤ m.payload.length) {d : Nat}
    (hb : q.badField m.payload = some d) :
    q.serve s = (s.hubTake m).finish m q.code .parameter d [] := by
  rw [serve_of_hubTakes h q hq]; simp [HubRequest.judge, hi, State.chargeResult, ha, Nat.not_lt.2 hl, hb]

/-- A condition of the request's own that fails decides the result (R96). -/
theorem serve_refused {s : State} {m : Message} (h : HubTakes s m) (q : HubRequest) (hq : q.takes m.payload = true)
    (hi : q.issuer m.sender = true)
    (ha : q.available s.hub.mode = true) (hl : q.length m.payload ≤ m.payload.length) (hb : q.badField m.payload = none)
    {r d} (hr : q.refused (s.hubTake m) m = some (r, d)) :
    q.serve s = ((s.hubTake m).chargeResult r m.sender).finish m q.code r d [] := by
  rw [serve_of_hubTakes h q hq]; simp [HubRequest.judge, hi, ha, Nat.not_lt.2 hl, hb, hr]

/-- A request that passes every check is carried out (R96). -/
theorem serve_run {s : State} {m : Message} (h : HubTakes s m) (q : HubRequest) (hq : q.takes m.payload = true)
    (hi : q.issuer m.sender = true)
    (ha : q.available s.hub.mode = true) (hl : q.length m.payload ≤ m.payload.length) (hb : q.badField m.payload = none)
    (hr : q.refused (s.hubTake m) m = none) :
    q.serve s = q.run (s.hubTake m) m := by
  rw [serve_of_hubTakes h q hq]; simp [HubRequest.judge, hi, ha, Nat.not_lt.2 hl, hb, hr]

/-! ## Calibration -/

/-- A scaled value lies within the panel (R141). -/
theorem scale_le (last lo hi v : Nat) (h : lo < hi) (hv : v ≤ hi) : scale last lo hi v ≤ last := by
  unfold scale
  apply Nat.le_of_lt_succ
  rw [Nat.div_lt_iff_lt_mul (by omega)]
  have : (v - lo) * (2 * last) ≤ (hi - lo) * (2 * last) := Nat.mul_le_mul_right _ (by omega)
  have e : (last + 1) * (2 * (hi - lo)) = (hi - lo) * (2 * last) + 2 * (hi - lo) := by ring
  rw [Nat.succ_eq_add_one, e]; omega

end Sys2Proof.Machine
end

