-- ==== Sys2Proof/Tests/Slice0.lean ====
section
/-! SUPPORT. Tests of the model. The expected values come from the reference: its worked examples and tables, or hand
calculation from its rules. A `witness_` theorem shows, for a statement of Certificates/Slice0/Obligations.lean, states and
operands that meet its hypotheses, with a case for each of its clauses. -/

namespace Sys2Proof.Tests

open Sys2Proof Sys2Proof.Machine

/-! ## Ill-formed commands are refused -/

theorem test_wellFormed_report :
    Instr.wellFormed (.touchReadCompletion (some [⟨0, .down, 4095, 0⟩]) false) = true
      ∧ Instr.wellFormed (.touchReadCompletion (some [⟨0, .down, 4096, 0⟩]) false) = false
      ∧ Instr.wellFormed (.touchReadCompletion (some [⟨0, .down, 0, 4096⟩]) false) = false := by decide

theorem test_wellFormed_release :
    Instr.wellFormed (.pulseRelease .rad) = true ∧ Instr.wellFormed (.pulseRelease .pay) = false := by decide

theorem test_wellFormed_refill :
    Instr.wellFormed (.refill 63) = true ∧ Instr.wellFormed (.refill 64) = false := by decide

/-! ## States -/

/-- A domain that is UP, its boards initialised. -/
def raised (r : DomainRecord) : DomainRecord := { r with status := .up, initialising := none }

/-- The part after reset, with the three domains UP. -/
def up : State := { State.reset with app := raised State.reset.app, pay := raised State.reset.pay, rad := raised State.reset.rad }

/-- The part while a reset holds. -/
def held : State := State.reset.inResetWith [] [] [] 0

/-- A domain in a state, with board initialisation running from a time or not. -/
def withDomain (s : State) (d : Domain) (status : DomainState) (initialising : Option Nat) : State :=
  s.updDom d fun r => { r with status := status, initialising := initialising }

/-- The result of a command; the state given where it does not complete. -/
def after (c : Instr) (s : State) : State :=
  match exec c s with
  | .next t => t
  | .fault _ | .refused _ => s

/-! ## Steps and resets -/

theorem witness_StepRunsFrontCommand : { up with pending := [.take, .resume] }.pending = .take :: [.resume] := by decide

theorem witness_CommandsKeepQueueAndTime : Instr.pinReset ≠ .powerOnReset := by decide

theorem witness_ResetsOfThePart : held.inReset = true ∧ ResetHolds held := ⟨rfl, fun _ => ⟨0, rfl⟩⟩

theorem test_power_on_reset_starts_initialisation :
    (after (.resetEnd true) (after .powerOnReset up)).app.initialising = some 0
      ∧ (after (.resetEnd true) (after .powerOnReset up)).touch.link = .reading := by decide +kernel

theorem test_pin_reset_keeps_windows :
    (after .pinReset (after (.portAccess .pay 0x5000 2 (.write 0x1234#32)) up)).pay.window = [(0x5000, 0x34#8), (0x5001, 0x12#8)] := by
  decide +kernel

/-! ## The ports -/

theorem witness_WindowAccesses :
    (up.inReset = false ∧ (up.dom .rad).status ≠ .held ∧ Domain.rad.inWindow 0x3FFC 4 = true
        ∧ (up.dom .rad).initialising = none)
      ∧ (State.reset.inReset = false ∧ (State.reset.dom .pay).status ≠ .held ∧ Domain.pay.inWindow 0x4000 4 = true
        ∧ Domain.pay.isStateByte 0x4000 = false)
      ∧ ((State.reset.dom .app).initialising.isSome = true ∧ Domain.app.inWindow 0xFE00 1 = true
        ∧ Domain.app.isStateByte 0xFE00 = true) := by decide

/-- R2: the last aligned access of the PAY window, and the three ways to fall outside it: beyond its end, unaligned, and of a size
that is none of 1, 2 and 4. -/
theorem test_window_bounds :
    Domain.pay.inWindow 0x22FFC 4 = true ∧ Domain.pay.inWindow 0x23000 1 = false ∧ Domain.app.inWindow 0xFFFE 4 = false
      ∧ Domain.rad.inWindow 0x0002 4 = false ∧ Domain.rad.inWindow 0x0000 8 = false
      ∧ Domain.pay.isStateByte 0x3E00 = true ∧ Domain.pay.isStateByte 0x4000 = false := by decide

theorem witness_StrayAccesses :
    (up.inReset = false ∧ (up.dom .app).status ≠ .held ∧ Domain.app.inWindow 0xFFFE 4 = false
        ∧ ¬(4 = 4 ∧ (0xFFFE = 0x30000 ∨ 0xFFFE = 0x30004 ∨ 0xFFFE = 0x30008 ∨ 0xFFFE = 0x3000C)))
      ∧ held.inReset = true := by decide

theorem witness_PortRegisters :
    up.inReset = false ∧ (up.dom .pay).status ≠ .held ∧ (up.dom .pay).stray ≤ 255 ∧ 0#32 ≠ 0x52535452#32
      ∧ (up.dom .pay).flags = 0#32 := by decide

/-- TABLE G: FENCE is bit 20, and the OUTCOME flag of A7 bit 15. -/
theorem test_flag_bits :
    (after (.portAccess .app 0x30008 4 .read) ((up.raise .app .fence).raise .app (.outcome (.app 7)))).app.readData
      = 0x20108000#32 := by decide +kernel

theorem witness_AttentionNamesLanes :
    (up.inReset = false ∧ 0x100#32 ≠ 0x52535452#32 ∧ (0x100#32).setWidth 8 = 0#8 ∧ (0x1FF#32).setWidth 8 = 0xFF#8)
      ∧ (up.dom .app).status = .up
      ∧ ((withDomain up .rad .waiting none).dom .rad).status = .waiting
      ∧ ((withDomain up .rad .waiting none).dom .rad).initialising = none
      ∧ ((State.reset.dom .app).status = .waiting ∧ (State.reset.dom .app).initialising.isSome = true)
      ∧ ((withDomain up .app .held none).dom .app).status = .held := by decide

theorem witness_RestartAndInitialisation :
    (State.reset.dom .pay).initialising.isSome = true ∧ (State.reset.dom .pay).remembered = 0#8
      ∧ ((after (.attentionLanes .pay 0#32) State.reset).dom .pay).initialising.isSome = true
      ∧ ((after (.attentionLanes .pay 0#32) State.reset).dom .pay).remembered ≠ 0#8 := by decide

/-- R1: an access by the APP processor to 0x05000 is an access to lane A2's inbound slot 0. -/
theorem test_app_offset_of_A2_inbound_slot : (Lane.app 2).inSlot 0 = 0x5000 := by decide +kernel

theorem test_port_write_then_read :
    (after (.portAccess .rad 0x3FFC 4 .read) (after (.portAccess .rad 0x3FFC 4 (.write 0xA1B2C3D4#32)) up)).rad.readData
      = 0xA1B2C3D4#32 := by decide +kernel

theorem test_access_across_the_end_of_the_window_is_stray :
    (after (.portAccess .rad 0x3FFE 4 .read) up).rad.stray = 1 := by decide +kernel

/-- R5: the upper 24 bits of a write to ATTENTION on the APP port are disregarded. -/
theorem test_attention_names_A7 :
    ((after (.attentionLanes .app 0xFFFFFF80#32) up).lane (.app 7)).scanWanted = true
      ∧ ((after (.attentionLanes .app 0xFFFFFF80#32) up).lane (.app 0)).scanWanted = false := by decide +kernel

/-- TABLE G: IDENTITY reads 0xF4, revision 0x01, the port code and the stray access count. -/
theorem test_identity_of_pay : (after (.portAccess .pay 0x3000C 4 .read) up).pay.readData = 0xF4010200#32 := by decide +kernel

/-! ## Takes and admission -/

/-- A FILLED outbound slot with a message in it. -/
def sends (l : Lane) (i kind domain service length tag : Nat) (payload : List Byte) (s : State) : State :=
  (s.writeWindow l.domain (l.outSlot i)
    ([1#8] ++ bytesOf 1 kind ++ bytesOf 1 domain ++ bytesOf 1 service ++ bytesOf 2 length ++ [0#8, 0#8] ++ bytesOf 2 tag
      ++ bytesOf 4 3001 ++ [0#8, 0#8] ++ payload)).updLane l fun r => { r with scanWanted := true }

/-- The route table of the sale (TABLE A of Worked Sequences). -/
def saleRoutes : List Route :=
  [⟨.lane (.app 3), .pay 2, true, false, 128, 64, 30000, some ⟨2, 1000, 2, 0⟩⟩,
    ⟨.anyApp, .pay 3, false, true, 64, 0, 10, some ⟨2, 1000, 2, 0⟩⟩,
    ⟨.lane .pay, .rad 4, true, false, 496, 496, 2000, none⟩]

/-- The terminal before the sale: OPEN, with its routes and the generations that matter. -/
def sale : State :=
  { up with
    now := 100000
    routes := saleRoutes
    hub := { up.hub with mode := .openMode, routesLoaded := true }
    exchanges := ((up.exchanges.set 0 ⟨12#10, .free⟩).set 1 ⟨5#10, .free⟩).set 2 ⟨9#10, .free⟩ }

/-- The exchange of the sale's step B2. -/
def saleExchange : Exchange := ⟨.app 3, 3001#32, .pay 2, 30100000, 64⟩

/-- The sale with an exchange in entry 0. -/
def saleWith (x : ExchangeState) : State := sale.setExchange 0 x

/-- A message in a buffer, as it stands in a FIFO. -/
def heldMessage (b : Fin 30) (kind : Kind) (sender : Lane) (address : Address) (tag : Nat) : Held :=
  ⟨b, ⟨kind, sender, address, tag, 3001#32, [5#8]⟩, 0⟩

/-- The FIFO of a lane replaced. -/
def withFifo (s : State) (l : Lane) (fifo : List Entry) : State := s.updLane l fun r => { r with fifo := fifo }

/-- A lane fenced. -/
def fence (s : State) (l : Lane) : State := s.updLane l fun r => { r with fenced := true }

/-- A hub mode. -/
def inMode (s : State) (m : HubMode) : State := { s with hub := { s.hub with mode := m } }

/-- A NOTICE in A5's slot 0, which route 1 admits. -/
def flood : State := sends (.app 5) 0 2 2 3 20 0 [] sale

theorem witness_TakesGrantedAndSearched :
    (up.inReset = false ∧ up.scanner.visit = none ∧ up.granted = none)
      ∧ (TakeBegins (up.updLane .rad fun r => { r with scanWanted := true }) .rad true
        ∧ ∀ i, i < 16 → Memory.read (up.window .rad) (Lane.rad.outSlot i) ≠ slotFilled)
      ∧ flood.filledSlot (.app 5) = some 0 := by decide

/-- TABLE F: the fields of an outbound slot. -/
theorem test_slot_fields :
    (sends .pay 15 3 2 7 2 768 [0xAB#8, 0xCD#8, 0xEF#8] sale).slotMessage .pay 15
      = ⟨3, 2, 7, 2, 768, 3001#32, [0xAB#8, 0xCD#8]⟩ := by decide +kernel

theorem witness_RefusedTakes :
    (TakeBegins (sends .pay 0 0x11 2 0 0 0 [] sale) .pay true
        ∧ (sends .pay 0 0x11 2 0 0 0 [] sale).filledSlot .pay = some 0
        ∧ (sends .pay 0 0x11 2 0 0 0 [] sale).judge .pay ((sends .pay 0 0x11 2 0 0 0 [] sale).slotMessage .pay 0)
          = .refuse .badKind)
      ∧ (TakeBegins (sends .pay 0 3 2 0 0 768 [] sale) .pay true
        ∧ (sends .pay 0 3 2 0 0 768 [] sale).judge .pay ((sends .pay 0 3 2 0 0 768 [] sale).slotMessage .pay 0)
          = .refuse .stale)
      ∧ (TakeBegins (sends .pay 0 3 2 0 0 768 [] (saleWith (.lapsed saleExchange))) .pay true
        ∧ (sends .pay 0 3 2 0 0 768 [] (saleWith (.lapsed saleExchange))).judge .pay
            ((sends .pay 0 3 2 0 0 768 [] (saleWith (.lapsed saleExchange))).slotMessage .pay 0) = .refuse .late) := by
  decide

theorem witness_ViolationsCharged :
    (sale.lane .pay).limit = 0
      ∧ (((sale.updLane (.app 5) fun r => { r with limit := 255, tally := 254 }).lane (.app 5)).tally + 1 = 255
        ∧ Lane.app 5 ≠ .pay ∧ ((sale.updLane (.app 5) fun r => { r with limit := 255, tally := 254 }).lane (.app 5)).limit ≤ 255) := by
  decide

/-- A5 with three messages of its own in PAY's FIFO, which is its holding quota. -/
def atQuota : State :=
  withFifo flood .pay [.message (heldMessage 0 .notice (.app 5) (.pay 3) 0xFFFF),
    .message (heldMessage 1 .notice (.app 5) (.pay 3) 0xFFFF), .message (heldMessage 2 .notice (.app 5) (.pay 3) 0xFFFF)]

theorem witness_HeldBackTakes :
    (TakeBegins atQuota (.app 5) true ∧ atQuota.filledSlot (.app 5) = some 0
        ∧ atQuota.judge (.app 5) (atQuota.slotMessage (.app 5) 0) = .notice (.pay 3) 1
        ∧ (Lane.app 5).quota ≤ atQuota.charged (.app 5))
      ∧ ∀ b, (withFifo flood .pay ((List.finRange 30).map fun b =>
          .message (heldMessage b .notice (.app 1) (.pay 3) 0xFFFF))).bufferFree b = false := by decide

/-- A5 at its quota, the cursor at slot 0 and its NOTICE in slot 2. -/
def atQuotaPast : State :=
  sends (.app 5) 2 2 2 3 20 0 [] (withFifo sale .pay [.message (heldMessage 0 .notice (.app 5) (.pay 3) 0xFFFF),
    .message (heldMessage 1 .notice (.app 5) (.pay 3) 0xFFFF), .message (heldMessage 2 .notice (.app 5) (.pay 3) 0xFFFF)])

/-- R16, R17: a slot that the search passed and that is FILLED meanwhile is not taken ahead of the held-back one. -/
theorem test_held_back_slot_is_next :
    (sends (.app 5) 1 2 2 3 20 0 [] (after .take atQuotaPast)).filledSlot (.app 5) = some 2
      ∧ ((after .take atQuotaPast).lane (.app 5)).bufferWait = true := by decide +kernel

theorem witness_AcceptedNotices :
    TakeBegins flood (.app 5) true ∧ flood.filledSlot (.app 5) = some 0
      ∧ flood.judge (.app 5) (flood.slotMessage (.app 5) 0) = .notice (.pay 3) 1
      ∧ (Address.pay 3).recipient = .board .pay ∧ flood.charged (.app 5) < (Lane.app 5).quota
      ∧ flood.bufferFree 0 = true := by decide

/-- A3's REQUEST of step B2. -/
def beginSale : State := sends (.app 3) 0 1 2 2 40 0 [] sale

/-- A table with no FREE entry: entry 7 LAPSED, the others AWAITED. -/
def fullTable : State :=
  { beginSale with exchanges := Vector.ofFn fun i =>
      ⟨0#10, if i = 7 then .lapsed ⟨.rad, 0#32, .pay 0, 5, 0⟩ else .awaited ⟨.rad, 0#32, .pay 0, 5, 0⟩⟩ }

theorem witness_AcceptedRequests :
    (TakeBegins beginSale (.app 3) true ∧ beginSale.filledSlot (.app 3) = some 0
        ∧ beginSale.judge (.app 3) (beginSale.slotMessage (.app 3) 0) = .request (.pay 2) (some 0)
        ∧ beginSale.charged (.app 3) < (Lane.app 3).quota ∧ beginSale.bufferFree 0 = true
        ∧ (beginSale.entry 0).state = .free)
      ∧ (TakeBegins (sends (.app 3) 0 1 4 0 2 0 [0x0F#8, 0#8] sale) (.app 3) true
        ∧ (sends (.app 3) 0 1 4 0 2 0 [0x0F#8, 0#8] sale).judge (.app 3)
            ((sends (.app 3) 0 1 4 0 2 0 [0x0F#8, 0#8] sale).slotMessage (.app 3) 0) = .request .hub none)
      ∧ (fullTable.judge (.app 3) (fullTable.slotMessage (.app 3) 0) = .request (.pay 2) (some 0)
        ∧ (∀ j, (fullTable.entry j).state ≠ .free) ∧ fullTable.claimable = some 7)
      ∧ ((fence sale (.app 0)).lane (.app 0)).fenced = true := by decide

/-- PAY's ANSWER of step C10. -/
def endSale : State := sends .pay 0 3 2 0 32 768 [] (saleWith (.awaited saleExchange))

theorem witness_AcceptedAnswers :
    TakeBegins endSale .pay true ∧ endSale.filledSlot .pay = some 0
      ∧ endSale.judge .pay (endSale.slotMessage .pay 0) = .answer 0 saleExchange
      ∧ endSale.charged .pay < Lane.pay.quota ∧ endSale.bufferFree 0 = true := by decide

/-- An envelope as a take reads it. -/
def envelope (kind domain service length tag : Nat) : Slot := ⟨kind, domain, service, length, tag, 0#32, []⟩

theorem witness_AdmissionGate :
    (envelope 0 2 0 0 0).kind ∉ [1, 2, 3]
      ∧ ((envelope 1 2 0 497 0).kind ∈ [1, 2, 3] ∧ 496 < (envelope 1 2 0 497 0).length)
      ∧ (envelope 1 5 0 496 0).domain ∉ [1, 2, 3, 4] ∧ 8 ≤ (envelope 1 1 8 0 0).service
      ∧ (envelope 1 4 1 0 0).service = 1 ∧ 16 ≤ (envelope 1 2 16 0 0).service
      ∧ (Kind.ofCode 1 = some .request ∧ Address.decode 1 7 = some (.app 7) ∧ Address.decode 2 15 = some (.pay 15))
      ∧ ((fence sale .rad).lane .rad).fenced = true
      ∧ (up.hub.mode = .boot ∧ ¬(Kind.request = .request ∧ Address.app 7 = .hub))
      ∧ (inMode sale .lockdown).hub.mode = .lockdown := by decide

theorem witness_RouteSteps_hub :
    Kind.ofCode 2 = some .notice ∧ Address.decode 4 0 = some .hub ∧ sale.hub.mode = .openMode
      ∧ (up.hub.mode = .boot ∧ Kind.ofCode 1 = some .request ∧ (up.lane .pay).fenced = false)
      ∧ ((inMode sale .lockdown).hub.mode = .lockdown ∧ Lane.pay.isApp = false
        ∧ Address.decode (envelope 1 3 4 0 0).domain 4 = some (.rad 4) ∧ (envelope 1 3 4 0 0).domain ≠ 1)
      ∧ (Lane.rad.requestLimit ≤ fullTable.openRequests .rad ∧ fullTable.hub.mode = .openMode)
      ∧ (sale.openRequests .rad < Lane.rad.requestLimit ∧ (sale.entry 3).state = .free)
      ∧ (fullTable.openRequests .pay < Lane.pay.requestLimit) := by decide

theorem witness_RouteSteps_down :
    (∃ down : Prop, down ↔ (∃ x, Address.rad 4 = .app x ∧ ((sale.dom .app).status ≠ .up ∨ (sale.lane (.app x)).fenced = true))
        ∨ (∃ v, Address.rad 4 = .pay v ∧ (sale.dom .pay).status ≠ .up)
        ∨ ∃ v, Address.rad 4 = .rad v ∧ (sale.dom .rad).status ≠ .up)
      ∧ ((withDomain sale .rad .waiting none).dom .rad).status ≠ .up
      ∧ ((fence sale (.app 2)).lane (.app 2)).fenced = true := ⟨⟨_, Iff.rfl⟩, by decide, by decide⟩

/-- R41: a message to a fenced application lane finds its target down, one to fenced RAD does not. -/
theorem test_target_down :
    (fence sale (.app 2)).targetDown (.app 2) = true ∧ (fence sale .rad).targetDown (.rad 4) = false
      ∧ (withDomain sale .rad .held none).targetDown (.rad 4) = true := by decide

theorem witness_RouteSteps_route :
    (∀ e ∈ sale.routes, e.target = .rad 4 → e.source ≠ .lane .rad ∧ ¬(Lane.rad.isApp = true ∧ e.source = .anyApp))
      ∧ (sale.routes[0]? = some ⟨.lane (.app 3), .pay 2, true, false, 128, 64, 30000, some ⟨2, 1000, 2, 0⟩⟩)
      ∧ (sale.routes[1]? = some ⟨.anyApp, .pay 3, false, true, 64, 0, 10, some ⟨2, 1000, 2, 0⟩⟩
        ∧ ∀ f ∈ sale.routes, ¬(f.source = .lane (.app 5) ∧ f.target = .pay 3))
      ∧ ((sale.routes[1]?).any (Route.allows · .request) = false ∧ (sale.routes[1]?).any (Route.allows · .notice) = true)
      ∧ sale.targetDown (.pay 2) = false ∧ (withDomain sale .pay .waiting none).targetDown (.pay 2) = true
      ∧ (fullTable.entry 7).state ≠ .free := by decide

theorem witness_AnswerMatching :
    ((envelope 3 2 0 496 768).kind = 3 ∧ (envelope 3 2 0 496 768).length ≤ 496 ∧ Address.decode 2 0 = some (.pay 0)
        ∧ (sale.lane .pay).fenced = false ∧ sale.hub.mode ≠ .boot
        ∧ ((inMode sale .lockdown).hub.mode = .lockdown ∧ Lane.pay.isApp = false ∧ Lane.rad.isApp = false))
      ∧ (sale.entry 0).generation.toNat ≠ (envelope 3 2 0 0 704).tag / 64
      ∧ ((0 : Fin 48).val = (envelope 3 2 0 0 768).tag % 64 ∧ (sale.entry 0).generation.toNat = (envelope 3 2 0 0 768).tag / 64)
      ∧ (∀ i : Fin 48, i.val ≠ (envelope 3 2 0 0 816).tag % 64)
      ∧ (sale.entry 0).state = .free
      ∧ ((saleWith (.posted saleExchange)).entry 0).state = .posted saleExchange
      ∧ (((saleWith (.awaited saleExchange)).entry 0).state = .awaited saleExchange
        ∧ saleExchange.responder.recipient = .board .pay ∧ saleExchange.responder.recipient ≠ .board .rad)
      ∧ ((saleWith (.closing saleExchange .expired false)).entry 0).state = .closing saleExchange .expired false
      ∧ ((saleWith (.lapsed saleExchange)).entry 0).state = .lapsed saleExchange := by decide

/-- Step B2 of the sale: tag 12 × 64 + 0 = 768, deadline time 30,100 ms, answer limit 64, and ACCEPTED in A3's slot. -/
theorem test_begin_sale_opens_entry_0 :
    ((after .take beginSale).entry 0).state = .posted saleExchange
      ∧ (after .take beginSale).tagOf 0 = 768
      ∧ Memory.readBytes ((after .take beginSale).window .app) 0x6006 4 = [0x01#8, 0#8, 0x00#8, 0x03#8]
      ∧ ((after .take beginSale).lane (.app 3)).admitted = 1 := by decide +kernel

/-- Step B2 of the sale: entry 0's level falls to 1, and the REQUEST stands in PAY's FIFO in buffer 0. -/
theorem test_begin_sale_spends_budget :
    ((after .take beginSale).routes[0]?).bind Route.budget = some ⟨2, 1000, 1, 0⟩
      ∧ ((after .take beginSale).lane .pay).fifo.length = 1 ∧ (after .take beginSale).bufferFree 0 = false := by decide +kernel

/-- Step C10 of the sale: entry 0 goes FREE with generation 13, and the answer bears A3's reference. -/
theorem test_end_sale_frees_entry_0 :
    (after .take endSale).entry 0 = ⟨13#10, .free⟩
      ∧ ((after .take endSale).lane (.app 3)).fifo.map (fun e => e.held?.map fun h =>
          (h.message.kind, h.message.sender, h.message.tag, h.message.reference, h.message.payload.length))
        = [some (.answer, .pay, 768, 3001#32, 32)] := by decide +kernel

/-- Step C6 of the sale: a late answer frees a LAPSED entry, and is no violation. -/
theorem test_late_answer_frees_lapsed_entry :
    ((after .take (sends .pay 0 3 2 0 32 768 [] (saleWith (.lapsed saleExchange)))).entry 0) = ⟨13#10, .free⟩
      ∧ ((after .take (sends .pay 0 3 2 0 32 768 [] (saleWith (.lapsed saleExchange)))).lane .pay).refused = 1
      ∧ ((after .take (sends .pay 0 3 2 0 32 768 [] (saleWith (.lapsed saleExchange)))).lane .pay).violations = 0 := by
  decide +kernel

/-- R24 of the sale's codes, and section E: the tag of entry 12 at generation 7 is 7 × 64 + 12 = 460. -/
theorem test_tag_of_entry_12 : (sale.setEntry 12 ⟨7#10, .free⟩).tagOf 12 = 460 := by decide +kernel

/-! ## Delivery, timed events and input events -/

/-- Inbound slots that are not FREE. -/
def fillSlots (s : State) (l : Lane) (slots : List Nat) : State :=
  slots.foldl (fun q i => q.writeWindow l.domain (l.inSlot i) [2#8]) s

/-- PAY with A3's REQUEST at the head of its FIFO, and slots that are not FREE. -/
def toDeliver (slots : List Nat) : State :=
  fillSlots (withFifo (saleWith (.posted saleExchange)) .pay [.message (heldMessage 0 .request (.app 3) (.pay 2) 768)])
    .pay slots

/-- PAY with a conclusion reference at the head of its FIFO. -/
def toConclude (c : Conclusion) (late : Bool) : State :=
  withFifo (saleWith (.closing saleExchange c late)) .pay [.conclusion 0]

theorem witness_DeliveryOfTheHead :
    ((toDeliver []).inReset = false ∧ ((toDeliver []).dom .pay).status = .up ∧ ((toDeliver []).lane .pay).roomWait = false
        ∧ ((toDeliver []).lane .pay).fifo = [.message (heldMessage 0 .request (.app 3) (.pay 2) 768)])
      ∧ (∀ i, i < 16 → Memory.read ((toDeliver (List.range 16)).window .pay) (Lane.pay.inSlot i) ≠ slotFree)
      ∧ (Memory.read ((toDeliver (List.range 15)).window .pay) (Lane.pay.inSlot 15) = slotFree
        ∧ ∀ j, j < 15 → Memory.read ((toDeliver (List.range 15)).window .pay) (Lane.pay.inSlot ((0 + j) % 16)) ≠ slotFree)
      ∧ ((toDeliver []).envelopeOf .pay (.message (heldMessage 0 .request (.app 3) (.pay 2) 768))).payload.length ≤ 496
      ∧ ((toDeliver []).findTag 768 = some 0 ∧ ((toDeliver []).entry 0).state = .posted saleExchange)
      ∧ (((toConclude .expired false).lane .pay).fifo = [.conclusion 0]
        ∧ ((toConclude .expired false).entry 0).state = .closing saleExchange .expired false)
      ∧ ((toConclude .expired true).entry 0).state = .closing saleExchange .expired true
      ∧ ((toConclude .lockdown false).entry 0).state = .closing saleExchange .lockdown false := by decide

/-- Step B3 of the sale: the REQUEST is delivered with mark 3, tag 768 and reference 3001, and entry 0 goes AWAITED. -/
theorem test_begin_sale_delivered :
    Memory.readBytes ((after (.delivery .pay) (toDeliver [])).window .pay) 0x2000 17
        = [1#8, 1#8, 1#8, 2#8, 1#8, 0#8, 0#8, 3#8, 0x00#8, 0x03#8, 0xB9#8, 0x0B#8, 0#8, 0#8, 0#8, 0#8, 5#8]
      ∧ ((after (.delivery .pay) (toDeliver [])).entry 0).state = .awaited saleExchange
      ∧ (after (.delivery .pay) (toDeliver [])).pay.flags = 1#32 := by decide +kernel

/-- Step C4, and the paragraph after TABLE C: the delivery of EXPIRED leaves the entry LAPSED, or frees it where late-seen is set. -/
theorem test_expired_delivered :
    ((after (.delivery .pay) (toConclude .expired false)).entry 0).state = .lapsed saleExchange
      ∧ (after (.delivery .pay) (toConclude .expired true)).entry 0 = ⟨13#10, .free⟩ := by decide +kernel

theorem witness_InboundEnvelopes :
    ((sale.setExchange 47 (.closing saleExchange .undelivered true)).entry 47).state
      = .closing saleExchange .undelivered true := by decide

/-- A placement on the panel. -/
def place : Placement := ⟨52, 113, 1, 73, 89, true⟩

theorem witness_RefillsAndHoldLimits :
    (sale.routes[1]? = some ⟨.anyApp, .pay 3, false, true, 64, 0, 10, some ⟨2, 1000, 2, 0⟩⟩
        ∧ 0 + 1000 * 1000 ≤ ({ sale with now := 1000000 } : State).now)
      ∧ ((withFifo sale .pay [.message (heldMessage 0 .answer .rad (.rad 4) 385)]).lane .pay).fifo[0]?
          = some (.message (heldMessage 0 .answer .rad (.rad 4) 385))
      ∧ ((withFifo sale .pay [.conclusion 0, .reply ⟨1, 832, 0#32, [], 0⟩]).lane .pay).fifo[1]?
          = some (.reply ⟨1, 832, 0#32, [], 0⟩)
      ∧ ((withFifo sale .pay [.cell (.touch 0 .down place) 750000]).lane .pay).fifo[0]?
          = some (.cell (.touch 0 .down place) 750000)
      ∧ 750000 + 250 * 1000 ≤ ({ sale with now := 1000000 } : State).now := by decide

/-- After step B8: entry 0's level, 1 since step B2, is 2 again at the refill. -/
theorem test_refill :
    (after (.refill 0) { sale with
      now := 1000000, routes := [⟨.lane (.app 3), .pay 2, true, false, 128, 64, 30000, some ⟨2, 1000, 1, 0⟩⟩] }).routes
      = [⟨.lane (.app 3), .pay 2, true, false, 128, 64, 30000, some ⟨2, 1000, 2, 1000000⟩⟩] := by decide +kernel

/-- The sale's exchange at its deadline time. -/
def due (x : ExchangeState) : State := { saleWith x with now := 30100000 }

theorem witness_ExpiryConcludes_not_due :
    (∀ x, (sale.entry 47).state = .posted x ∨ (sale.entry 47).state = .awaited x → sale.now < x.deadline)
      ∧ ∀ x, ((saleWith (.posted saleExchange)).entry 0).state = .posted x
          ∨ ((saleWith (.posted saleExchange)).entry 0).state = .awaited x →
          ({ sale with now := 30099999 } : State).now < x.deadline := by
  refine ⟨fun x h => ?_, fun x h => ?_⟩
  · rcases h with h | h <;> cases h
  · rcases h with h | h
    · cases (show ExchangeState.posted saleExchange = .posted x from h); decide
    · cases h

theorem witness_ExpiryConcludes_due :
    saleExchange.deadline ≤ (due .free).now
      ∧ (((due (.posted saleExchange)).entry 0).state = .posted saleExchange ∧ saleExchange.responder ≠ .hub
        ∧ ((due (.posted saleExchange)).lane (.app 3)).fenced = false
        ∧ ¬((Lane.app 3).isApp = true ∧ (due (.posted saleExchange)).hub.mode = .lockdown))
      ∧ ((due (.awaited saleExchange)).entry 0).state = .awaited saleExchange
      ∧ ((due (.posted { saleExchange with responder := .hub })).entry 0).state = .posted { saleExchange with responder := .hub }
      ∧ ((fence (due (.awaited saleExchange)) (.app 3)).lane (.app 3)).fenced = true
      ∧ (Lane.app 3).isApp = true ∧ (inMode (due (.awaited saleExchange)) .lockdown).hub.mode = .lockdown := by decide

/-- Step C3 of the sale: an entry AWAITED at its deadline goes to CLOSING with EXPIRED, and a reference joins the FIFO. -/
theorem test_expiry :
    ((after (.expiry 0) (due (.awaited saleExchange))).entry 0).state = .closing saleExchange .expired false
      ∧ ((after (.expiry 0) (due (.awaited saleExchange))).lane (.app 3)).fifo = [.conclusion 0] := by decide +kernel

/-- A lane's FIFO with `n` event cells. -/
def cells (n : Nat) : State := withFifo sale .rad (List.replicate n (.cell (.key 0 .down) 0))

theorem witness_InputEventsPlaced_cells :
    (sale.lane .rad).fenced = false ∧ ¬(Lane.rad.isApp = true ∧ sale.hub.mode = .lockdown)
      ∧ (∀ (id : Fin 2) (p : Placement), InputEvent.key 1 .down ≠ .touch id .move p)
      ∧ (cells 23).cellsUsed < 24 ∧ 24 ≤ (cells 24).cellsUsed
      ∧ ((fence sale .rad).lane .rad).fenced = true
      ∧ ((Lane.app 0).isApp = true ∧ (inMode sale .lockdown).hub.mode = .lockdown) := by
  refine ⟨by decide, by decide, fun _ _ h => ?_, by decide⟩
  cases h

theorem witness_InputEventsPlaced_coalesced :
    ((withFifo sale .pay [.cell (.touch 0 .move place) 5, .cell (.touch 1 .down place) 6]).lane .pay).fifo
        = [] ++ .cell (.touch 0 .move place) 5 :: [.cell (.touch 1 .down place) 6]
      ∧ ∀ phase q k, Entry.cell (.touch 0 phase q) k ∉ [Entry.cell (.touch 1 .down place) 6] := by
  refine ⟨by decide, fun phase q k h => ?_⟩
  cases List.mem_singleton.mp h

theorem witness_InputEventsPlaced_not_coalesced (old : Placement) (j : Nat) (before behind : List Entry)
    (h : [Entry.cell (.touch 0 .move place) 5, .cell (.touch 0 .up place) 6]
      = before ++ .cell (.touch 0 .move old) j :: behind) :
    ∃ phase q k, Entry.cell (.touch 0 phase q) k ∈ behind := by
  rcases before with _ | ⟨b, _ | ⟨c, rest⟩⟩
  · simp only [List.nil_append, List.cons.injEq] at h
    exact ⟨.up, place, 6, by simp [← h.2]⟩
  · simp at h
  · simp at h

/-- R65: a MOVE takes the place of a MOVE of its contact that waits, and its own cell where an UP stands behind that. -/
theorem test_coalescing :
    (((withFifo sale .pay [.cell (.touch 0 .move place) 5]).placeEvent .pay (.touch 0 .move { place with x := 53 })).lane
        .pay).fifo = [.cell (.touch 0 .move { place with x := 53 }) 5]
      ∧ (((withFifo sale .pay [.cell (.touch 0 .move place) 5, .cell (.touch 0 .up place) 6]).placeEvent .pay
        (.touch 0 .move place)).lane .pay).fifo.length = 3 := by decide +kernel

/-! ## Hub requests -/

/-- A hub request with a payload. -/
def asked (l : Lane) (p : List Byte) : Message := ⟨.request, l, .hub, 768, 3001#32, p⟩

/-- The part with a hub request at the head of the HUB FIFO. -/
def asks (l : Lane) (p : List Byte) (s : State) : State :=
  { s.setExchange 0 (.posted ⟨l, 3001#32, .hub, s.now + 500000, 0⟩) with
    hub := { s.hub with fifo := [⟨0, asked l p, s.now⟩] } }

/-- The part as a request for the hub finds it after the take of the one given. -/
def afterRequest (c : Instr) (l : Lane) (p : List Byte) (s : State) : State := after c (asks l p s)

/-- Of the sale, whatever the request. -/
theorem asks_taken (l : Lane) (p : List Byte) : HubTakes (asks l p sale) (asked l p) :=
  ⟨rfl, rfl, show 0 < sale.freeReplies by decide, rfl⟩

theorem witness_HubReplies :
    (sale.entry 0).generation.toNat ≠ 769 / 64 + 1 ∧ ((0 : Fin 48).val = 768 % 64 ∧ (sale.entry 0).generation.toNat = 768 / 64)
      ∧ (((asks .pay [] sale).entry 0).state = .posted ⟨.pay, 3001#32, .hub, 600000, 0⟩)
      ∧ ((saleWith (.awaited saleExchange)).entry 0).state = .awaited saleExchange
      ∧ ((saleWith (.closing saleExchange .expired true)).entry 0).state = .closing saleExchange .expired true
      ∧ ((saleWith (.lapsed saleExchange)).entry 0).state = .lapsed saleExchange
      ∧ (((saleWith (.closing saleExchange .targetDown false)).entry 0).state = .closing saleExchange .targetDown false
        ∧ Conclusion.targetDown ≠ .expired)
      ∧ (sale.entry 0).state = .free
      ∧ (((saleWith (.posted saleExchange)).entry 0).state = .posted saleExchange ∧ saleExchange.responder ≠ .hub) := by
  decide

theorem witness_HubReplies_job :
    ({ sale with hub := { sale.hub with outstanding := [⟨.setPanes, .pay, 321⟩, ⟨.scrollPane, .pay, 322⟩] } } : State).hub.outstanding
        = [⟨.setPanes, .pay, 321⟩] ++ ⟨.scrollPane, .pay, 322⟩ :: []
      ∧ ∀ o ∈ [(⟨.setPanes, .pay, 321⟩ : Outstanding)] ++ [], o.job ≠ .scrollPane := by decide

theorem witness_HubChecks_unknown :
    HubTakes (asks .rad [] sale) (asked .rad []) ∧ (0#8).toNat = 0 ∧ 0x11 < (0x12#8).toNat := ⟨asks_taken _ _, by decide⟩

theorem witness_HubChecks :
    HubTakes (asks (.app 3) [0x02#8] sale) (asked (.app 3) [0x02#8])
      ∧ hubCatalogue[1]?.map HubRow.code = some 0x02
      ∧ (∀ row ∈ hubCatalogue[1]?, row.picks [0x02#8] = true ∧ Lane.app 3 ∉ row.issuers ∧ Lane.pay ∈ row.issuers
        ∧ HubMode.lockdown ∉ row.modes ∧ (inMode (asks .pay [0x02#8] sale) .lockdown).hub.mode = .lockdown
        ∧ HubMode.openMode ∈ row.modes ∧ [0x02#8].length < row.length [0x02#8]) := ⟨asks_taken _ _, by decide⟩

/-- R97: the reply to an unknown request code is PARAMETER, the code, detail 0xFFFF, in the requester's FIFO. -/
theorem test_unknown_request_code :
    ((afterRequest .unknownRequestCode .rad [0x12#8, 0#8] sale).lane .rad).fifo
        = [.reply ⟨0, 768, 3001#32, [4#8, 0x12#8, 0xFF#8, 0xFF#8], 100000⟩]
      ∧ (afterRequest .unknownRequestCode .rad [0x12#8, 0#8] sale).entry 0 = ⟨13#10, .free⟩ := by decide +kernel

/-- R48: AUTHORITY is a violation charged to the requester. -/
theorem test_authority_is_a_violation :
    ((afterRequest .setFocus (.app 1) [5#8, 0#8, 1#8] sale).lane (.app 1)).violations = 1
      ∧ (afterRequest .setFocus (.app 1) [5#8, 0#8, 1#8] sale).touch.focus = 0
      ∧ (afterRequest .setFocus (.app 0) [5#8, 0#8, 7#8] sale).touch.focus = 7 := by decide +kernel

/-- The image entry of the sale's route 0 (TABLE I of Envelopes and Formats, TABLE A of Worked Sequences). -/
def saleEntry : List Byte :=
  [3#8, 2#8, 2#8, 1#8, 128#8, 0#8, 64#8, 0#8, 0x30#8, 0x75#8, 1#8, 2#8, 0xE8#8, 3#8] ++ List.replicate 18 0#8

theorem test_sale_entry :
    imageRoute saleEntry 7
      = some ⟨.lane (.app 3), .pay 2, true, false, 128, 64, 30000, some ⟨2, 1000, 2, 7⟩⟩ := by decide +kernel

/-- What a judgement passes. -/
def passed {α : Type} (e : Except Nat α) : Option α := match e with | .ok a => some a | .error _ => none

/-- The detail of a judgement that fails. -/
def failed {α : Type} (e : Except Nat α) : Option Nat := match e with | .ok _ => none | .error k => some k

/-- The part with an image read and its judgement to come. -/
def loading (image : RouteImage) : State := { up with hub := { up.hub with loading := some ⟨image, 0⟩ } }

theorem witness_LoadRoutes :
    (HubTakes (asks .pay [1#8, 0#8] sale) (asked .pay [1#8, 0#8]) ∧ 2 ≤ [1#8, 0#8].length)
      ∧ ((loading ⟨1, [saleEntry]⟩).hub.loading = some ⟨⟨1, [saleEntry]⟩, 0⟩
        ∧ (passed (RouteImage.judge ⟨1, [saleEntry]⟩ 0)).map List.length = some 1)
      ∧ failed (RouteImage.judge ⟨65, []⟩ 0) = some 0xFFFF
      ∧ (imageRoute (15#8 :: saleEntry.tail) 0).isSome = true
      ∧ imageRoute (10#8 :: saleEntry.tail) 0 = none
      ∧ failed (RouteImage.judge ⟨2, [saleEntry, saleEntry]⟩ 0) = some 1 :=
  ⟨⟨asks_taken _ _, by decide⟩, ⟨rfl, by decide⟩, by decide, by decide, by decide, by decide⟩

/-- R54: a hub in BOOT goes to OPEN with the image's table. -/
theorem test_load_routes_completion :
    (after .loadRoutesCompletion (loading ⟨1, [saleEntry]⟩)).hub.mode = .openMode
      ∧ (after .loadRoutesCompletion (loading ⟨1, [saleEntry]⟩)).routes.length = 1
      ∧ (after .loadRoutesCompletion (loading ⟨65, []⟩)).hub.mode = .boot := by decide +kernel

/-- A pane record of TABLE J. -/
def paneRecord (height owner source marks base offset : Nat) : List Byte :=
  bytesOf 2 height ++ bytesOf 1 owner ++ bytesOf 1 source ++ bytesOf 1 marks ++ bytesOf 1 base ++ bytesOf 2 offset

/-- The pane table of step B4 of the sale, for the entry of the PIN. -/
def pinPanes : List Pane :=
  [⟨40, false, .appVideo, false, false, 0, 0⟩, ⟨240, true, .secure, true, true, 16, 0⟩,
    ⟨40, false, .appVideo, false, false, 0, 0⟩]

/-- PAY's SET PANES of step B4, with a height for its last pane. -/
def setPin (last : Nat) : List Byte :=
  [2#8, 0#8, 3#8, 0#8, 0#8, 0#8] ++ paneRecord 40 1 1 0 0 0 ++ paneRecord 240 2 2 3 16 0 ++ paneRecord last 1 1 0 0 0

/-- The table of the PIN active. -/
def pinTable (s : State) : State := { s with panel := { s.panel with active := ⟨0#16, pinPanes⟩ } }

theorem witness_PaneRequests_set :
    HubTakes (asks .pay (setPin 40) sale) (asked .pay (setPin 40)) ∧ sale.hub.mode ≠ .lockdown
      ∧ (setPin 40).head? = some 0x02#8 ∧ byteAt (setPin 40) 2 = 3 ∧ 6 + 8 * 3 ≤ (setPin 40).length
      ∧ passed (panesFrom (setPin 40) 0 3) = some pinPanes ∧ panesRefused pinPanes = none
      ∧ (passed (panesFrom (setPin 41) 0 3)).bind panesRefused = some 3
      ∧ failed (panesFrom (setPin 0) 0 3) = some 2
      ∧ byteAt ([2#8, 0#8, 0#8, 0#8, 0#8, 0#8] : List Byte) 2 = 0 ∧ 6 + 8 * 0 ≤ [2#8, 0#8, 0#8, 0#8, 0#8, 0#8].length
      ∧ 4 < byteAt ([2#8, 0#8, 5#8] : List Byte) 2 := ⟨asks_taken _ _, by decide⟩

theorem witness_PaneRequests_panes :
    panesRefused [⟨160, true, .secure, true, false, 0, 0⟩, ⟨160, true, .secure, true, false, 0, 0⟩] = some 1
      ∧ panesRefused [⟨320, false, .secure, false, false, 0, 0⟩] = some 0
      ∧ panesRefused [⟨319, false, .appVideo, false, false, 0, 0⟩] = some 1
      ∧ (∃ fails : Nat → Pane → Prop, ∀ j p, fails j p ↔ ¬(p.ownerPay = false ↔ p.source = .appVideo)
        ∨ (p.ownerPay = false ∧ (p.capture = true ∨ p.shade = true)) ∨ (p.shade = true ∧ p.capture = false)
        ∨ (p.capture = true ∧ ∃ i q, i < j ∧ pinPanes[i]? = some q ∧ q.capture = true)
        ∨ (p.source = .secure ∧ (256 < p.height ∨ 256 < p.base + p.height ∨ p.height ≤ p.offset)))
      ∧ ∃ record : Nat → Option Pane, ∀ k, record k = paneOf (((setPin 40).drop (6 + 8 * k)).take 8) :=
  ⟨by decide, by decide, by decide, ⟨_, fun _ _ => Iff.rfl⟩, _, fun _ => rfl⟩

theorem witness_PaneRequests_scroll :
    HubTakes (asks .pay [3#8, 0#8, 1#8, 0#8, 239#8, 0#8] sale) (asked .pay [3#8, 0#8, 1#8, 0#8, 239#8, 0#8])
      ∧ (pinTable sale).panel.active.panes[1]? = some ⟨240, true, .secure, true, true, 16, 0⟩
      ∧ byteAt ([3#8, 0#8, 1#8, 0#8, 239#8, 0#8] : List Byte) 4 = 239
      ∧ 3 < byteAt ([3#8, 0#8, 4#8, 0#8, 0#8, 0#8] : List Byte) 2
      ∧ (pinTable sale).panel.active.panes[3]? = none := ⟨asks_taken _ _, by decide⟩

/-- Step B4 of the sale: the table of three panes is staged. -/
theorem test_set_panes_stages :
    (afterRequest .setPanes .pay (setPin 40) sale).panel.staged = some ⟨0#16, pinPanes⟩
      ∧ (afterRequest .setPanes .pay (setPin 40) sale).hub.outstanding = [⟨.setPanes, .pay, 768⟩]
      ∧ (afterRequest .setPanes .pay (setPin 41) sale).panel.staged = none := by decide +kernel

/-- A SET CALIBRATION of the sale's record, with an xmax. -/
def setCalibrationTo (xmax : Nat) : List Byte :=
  [4#8, 0#8] ++ bytesOf 2 200 ++ bytesOf 2 xmax ++ bytesOf 2 150 ++ bytesOf 2 3950 ++ [0#8, 0#8, 0#8, 0#8]

theorem witness_SettingRequests :
    HubTakes (asks .pay (setCalibrationTo 456) sale) (asked .pay (setCalibrationTo 456))
      ∧ 14 ≤ (setCalibrationTo 456).length
      ∧ (byteAt ([5#8, 0#8, 7#8] : List Byte) 2 = (7 : Fin 8).val ∧ 7 < byteAt ([5#8, 0#8, 8#8] : List Byte) 2)
      ∧ (Lane.pay ∈ [.app 0, .pay, .rad] ∧ Lane.app 0 ∈ [.app 0, .pay, .rad])
      ∧ (byteAt ([9#8, 0#8, 0xFF#8, 0xFF#8, 0#8, 0#8, 1#8, 0#8] : List Byte) 6 ≤ 1
        ∧ 1 < byteAt ([9#8, 0#8, 0#8, 0#8, 0#8, 0#8, 2#8, 0#8] : List Byte) 6)
      ∧ Lane.ofCode (byteAt ([0x0D#8, 0#8, 9#8, 255#8] : List Byte) 2) = some .rad
      ∧ 9 < byteAt ([0x0D#8, 0#8, 10#8, 255#8] : List Byte) 2 := ⟨asks_taken _ _, by decide⟩

/-- R140: a maximum exceeds its minimum by at least 256. -/
theorem test_set_calibration :
    (afterRequest .setCalibration .pay (setCalibrationTo 456) sale).touch.calibration = ⟨200, 456, 150, 3950, false, false, false⟩
      ∧ (afterRequest .setCalibration .pay (setCalibrationTo 455) sale).touch.calibration = Calibration.default := by decide +kernel

/-- R164: a domain sets its own groups, and groups it does not have are disregarded. -/
theorem test_set_notices :
    ((afterRequest .setNotices .rad [9#8, 0#8, 0xFF#8, 0xFF#8, 1#8, 0#8, 0#8, 0#8] sale).rad.enables = 0x00FF#16)
      ∧ ((afterRequest .setNotices .rad [9#8, 0#8, 0xFF#8, 0xFF#8, 1#8, 0#8, 0#8, 0#8] sale).rad.urgent = 0x0001#16)
      ∧ ((afterRequest .setNotices .rad [9#8, 0#8, 0xFF#8, 0xFF#8, 1#8, 0#8, 0#8, 0#8] sale).rad.split = false) := by decide +kernel

/-- Step A of the sale: PAY sets lane A5's violation limit to 5. -/
theorem test_set_violation_limit :
    ((afterRequest .setViolationLimit .pay [0x0D#8, 0#8, 5#8, 5#8] sale).lane (.app 5)).limit = 5 := by decide +kernel

/-- A SET LINE MAP of a line, with its direction, owner, edge, expected level, rest level and tag. -/
def setLineTo (n direction owner edge expected rest : Nat) : List Byte :=
  [6#8, 0#8] ++ bytesOf 1 n ++ [0#8] ++ bytesOf 1 direction ++ bytesOf 1 owner ++ bytesOf 1 edge ++ bytesOf 1 expected
    ++ bytesOf 1 rest ++ [0x7A#8, 1#8, 0#8]

theorem witness_LineAndCombinerSettings :
    HubTakes (asks .pay (setLineTo 11 0 3 3 1 1) sale) (asked .pay (setLineTo 11 0 3 3 1 1))
      ∧ 12 ≤ (setLineTo 11 0 3 3 1 1).length
      ∧ (byteAt (setLineTo 11 0 3 3 1 1) 2 = (11 : Fin 12).val ∧ byteAt (setLineTo 11 0 3 3 1 1) 4 = 0
        ∧ byteAt (setLineTo 11 0 3 3 1 1) 5 = 3 ∧ byteAt (setLineTo 11 0 3 3 1 1) 6 = 3
        ∧ byteAt (setLineTo 11 0 3 3 1 1) 7 = 1 ∧ byteAt (setLineTo 11 0 3 3 1 1) 8 = 1
        ∧ (0x7A#8).toNat = byteAt (setLineTo 11 0 3 3 1 1) 9 ∧ byteAt (setLineTo 11 0 3 3 1 1) 10 = 1)
      ∧ byteAt (setLineTo 0 1 0 1 0 0) 4 = 1
      ∧ (11 < byteAt (setLineTo 12 0 0 1 0 0) 2 ∧ byteAt (setLineTo 0 0 0 0 0 0) 6 = 0 ∧ 3 < byteAt (setLineTo 0 0 4 1 0 0) 5)
      ∧ 8 ≤ [7#8, 0#8, 0#8, 0x10#8, 0#8, 0#8, 6#8, 0#8].length := ⟨asks_taken _ _, by decide⟩

theorem test_set_line_map :
    ((afterRequest .setLineMap .pay (setLineTo 4 1 1 1 0 1) sale).line 4)
      = ⟨⟨true, some .app, .rise, false, true, 0x7A#8, true⟩, .off, false, .resting⟩ := by decide +kernel

/-- Step A of the sale: the combiner includes VIOL alone, with alert enable and lockdown arm. -/
theorem test_set_combiner :
    (afterRequest .setCombiner .pay [7#8, 0#8, 0#8, 0x10#8, 0#8, 0#8, 6#8, 0#8] sale).combiner
      = ⟨0x1000#14, 0#14, false, true, true, false⟩ := by decide +kernel

/-- An OUT line of a domain. -/
def outLine (n : Fin 12) (d : Domain) (o : OutputState) (s : State) : State :=
  s.setLine n ⟨⟨true, some d, .both, false, false, 0#8, false⟩, .off, false, o⟩

theorem witness_LinesDriven :
    HubTakes (asks .rad [8#8, 0#8, 11#8, 1#8, 0#8, 0#8] sale) (asked .rad [8#8, 0#8, 11#8, 1#8, 0#8, 0#8])
      ∧ Lane.rad ∈ [.app 0, .pay, .rad] ∧ 6 ≤ [8#8, 0#8, 11#8, 1#8, 0#8, 0#8].length
      ∧ (((outLine 11 .rad .resting sale).line 11).entry.owner = some .rad
        ∧ ((outLine 11 .rad .resting sale).line 11).entry.out = true)
      ∧ byteAt ([8#8, 0#8, 11#8, 3#8, 0xE8#8, 3#8] : List Byte) 4 + 256 * byteAt ([8#8, 0#8, 11#8, 3#8, 0xE8#8, 3#8] : List Byte) 5
        = 1000
      ∧ (sale.line 11).entry.owner ≠ some .rad
      ∧ ((sale.setLine 11 { sale.line 11 with entry := { LineEntry.default with owner := some .rad } }).line 11).entry.out = false
      ∧ (11 < byteAt ([8#8, 0#8, 12#8, 1#8, 0#8, 0#8] : List Byte) 2 ∧ 3 < byteAt ([8#8, 0#8, 0#8, 4#8, 0#8, 0#8] : List Byte) 3)
      ∧ ((outLine 0 .pay (.pulsing 100000) sale).line 0).output = .pulsing 100000
      ∧ (((outLine 0 .pay .resting sale).line 0).entry.out = true ∧ (sale.line 0).entry.out = false) :=
  ⟨asks_taken _ _, by decide⟩

/-- R155: an OUT line whose rest level is low stands at high while a pulse runs, and an IN line is not driven. -/
theorem test_line_levels :
    ((outLine 0 .pay .resting sale).line 0).driven = some false
      ∧ ((outLine 0 .pay (.driven true) sale).line 0).driven = some true
      ∧ ((outLine 0 .pay (.pulsing 100000) sale).line 0).driven = some true ∧ (sale.line 0).driven = none := by decide

theorem test_drive_line_pulse :
    ((afterRequest .driveLinePulse .rad [8#8, 0#8, 11#8, 3#8, 0xE8#8, 3#8] (outLine 11 .rad .resting sale)).line 11).output
        = .pulsing 1100000
      ∧ ((afterRequest .driveLinePulse .rad [8#8, 0#8, 11#8, 3#8, 0xE9#8, 3#8] (outLine 11 .rad .resting sale)).line 11).output
        = .resting := by decide +kernel

theorem test_drive_line_of_another_domain :
    ((afterRequest .driveLine .rad [8#8, 0#8, 11#8, 1#8, 0#8, 0#8] (outLine 11 .pay .resting sale)).line 11).output = .resting
      ∧ ((afterRequest .driveLine .rad [8#8, 0#8, 11#8, 1#8, 0#8, 0#8] (outLine 11 .pay .resting sale)).lane .rad).tally = 1 := by
  decide +kernel

theorem witness_DomainResets :
    HubTakes (asks .pay [0x0A#8, 0#8, 3#8, 1#8] sale) (asked .pay [0x0A#8, 0#8, 3#8, 1#8])
      ∧ 4 ≤ [0x0A#8, 0#8, 3#8, 1#8].length ∧ (sale.dom .rad).status ≠ .held
      ∧ ((withDomain sale .rad .held none).dom .rad).status = .held
      ∧ ((withDomain sale .rad .held none).updDom .rad fun r => { r with release := some 100000 }).rad.release = some 100000
      ∧ HubTakes (asks .pay [0x0A#8, 0#8, 1#8, 2#8] (withDomain sale .app .held none)) (asked .pay [0x0A#8, 0#8, 1#8, 2#8]) :=
  ⟨asks_taken _ _, by decide, by decide, by decide, by decide, rfl, rfl, by decide, rfl⟩

theorem witness_DomainResets_parameter :
    HubTakes (asks .pay [0x0A#8, 0#8, 2#8, 1#8] sale) (asked .pay [0x0A#8, 0#8, 2#8, 1#8])
      ∧ byteAt ([0x0A#8, 0#8, 2#8, 1#8] : List Byte) 2 ∉ [1, 3]
      ∧ HubTakes (asks .pay [0x0A#8, 0#8, 3#8, 4#8] sale) (asked .pay [0x0A#8, 0#8, 3#8, 4#8])
      ∧ byteAt ([0x0A#8, 0#8, 3#8, 4#8] : List Byte) 3 ∉ [1, 2, 3] := ⟨asks_taken _ _, by decide, asks_taken _ _, by decide⟩

/-- R106: PAY has no reset output; those of APP and RAD are asserted in reset, and while their domain is HELD. -/
theorem test_reset_outputs :
    held.resetOutput .app = true ∧ (withDomain sale .rad .held none).resetOutput .rad = true
      ∧ sale.resetOutput .rad = false := by decide

/-- R113: the release falls 20 ms after the PULSE. -/
theorem test_domain_reset_pulse :
    (afterRequest .domainResetPulse .pay [0x0A#8, 0#8, 3#8, 3#8] sale).rad.release = some 120000
      ∧ (afterRequest .domainResetPulse .pay [0x0A#8, 0#8, 3#8, 3#8] sale).resetOutput .rad = true := by decide +kernel

theorem test_domain_reset_release :
    (afterRequest .domainResetRelease .pay [0x0A#8, 0#8, 1#8, 2#8] (withDomain sale .app .held none)).app.status = .waiting
      ∧ (afterRequest .domainResetRelease .pay [0x0A#8, 0#8, 1#8, 2#8] (withDomain sale .app .held none)).app.initialising
        = some 100000 := by decide +kernel

theorem witness_FenceRequests :
    HubTakes (asks .pay [0x0B#8, 0#8, 9#8] sale) (asked .pay [0x0B#8, 0#8, 9#8]) ∧ 3 ≤ [0x0B#8, 0#8, 9#8].length
      ∧ (Lane.ofCode (byteAt ([0x0B#8, 0#8, 9#8] : List Byte) 2) = some .rad ∧ (sale.lane .rad).fenced = false)
      ∧ ((fence sale .rad).lane .rad).fenced = true
      ∧ (8 = byteAt ([0x0B#8, 0#8, 8#8] : List Byte) 2 ∧ 9 < byteAt ([0x0C#8, 0#8, 10#8] : List Byte) 2) :=
  ⟨asks_taken _ _, by decide⟩

theorem test_fence_and_restore :
    ((afterRequest .fenceLane .pay [0x0B#8, 0#8, 5#8] sale).lane (.app 5)).fenced = true
      ∧ (afterRequest .fenceLane .pay [0x0B#8, 0#8, 5#8] sale).app.flags = Flag.fence.mask
      ∧ ((afterRequest .restoreLane .pay [0x0C#8, 0#8, 5#8] (fence sale (.app 5))).lane (.app 5)).fenced = false := by decide +kernel

theorem witness_CountersAndStatus :
    HubTakes (asks .rad [0x0E#8, 0#8, 9#8] sale) (asked .rad [0x0E#8, 0#8, 9#8]) ∧ 3 ≤ [0x0E#8, 0#8, 9#8].length
      ∧ (Lane.rad ∈ [.app 0, .pay, .rad] ∧ Lane.ofCode (byteAt ([0x0E#8, 0#8, 9#8] : List Byte) 2) = some .rad)
      ∧ (Lane.ofCode (byteAt ([0x0E#8, 0#8, 8#8] : List Byte) 2) = some .pay ∧ Lane.rad ≠ .pay ∧ Lane.pay.domain ≠ Lane.rad.domain)
      ∧ HubTakes (asks (.app 7) [0x0F#8, 0#8] sale) (asked (.app 7) [0x0F#8, 0#8]) :=
  ⟨asks_taken _ _, by decide, by decide, by decide, asks_taken _ _⟩

theorem witness_CountersAndStatus_parameter :
    HubTakes (asks .rad [0x0E#8, 0#8, 10#8] sale) (asked .rad [0x0E#8, 0#8, 10#8]) ∧ 3 ≤ [0x0E#8, 0#8, 10#8].length
      ∧ 9 < byteAt ([0x0E#8, 0#8, 10#8] : List Byte) 2 := ⟨asks_taken _ _, by decide⟩

/-- A5 as part D of the sale leaves it. -/
def flooded : State :=
  sale.updLane (.app 5) fun r =>
    { r with admitted := 2, refused := 6, violations := 5, tally := 5, limit := 5, fenced := true, autoFenced := true }

/-- Step E1 of the sale: the values of A5, and its counters at 0 thereafter. -/
theorem test_read_counters :
    ((afterRequest .readCounters .pay [0x0E#8, 0#8, 5#8] flooded).lane .pay).fifo
        = [.reply ⟨0, 768, 3001#32, [1#8, 0x0E#8, 0#8, 0#8, 2#8, 0#8, 6#8, 0#8, 5#8, 0#8, 0#8, 0#8, 0#8, 0#8, 5#8, 5#8, 3#8],
          100000⟩]
      ∧ ((afterRequest .readCounters .pay [0x0E#8, 0#8, 5#8] flooded).lane (.app 5)).refused = 0
      ∧ ((afterRequest .readCounters .pay [0x0E#8, 0#8, 5#8] flooded).lane (.app 5)).tally = 5 := by decide +kernel

theorem test_status :
    ((afterRequest .status (.app 7) [0x0F#8, 0#8] flooded).lane (.app 7)).fifo
      = [.reply ⟨0, 768, 3001#32, [1#8, 0x0F#8, 0#8, 0#8, 2#8, 3#8, 3#8, 3#8, 0x20#8, 0#8, 0#8, 2#8, 0#8, 32#8, 47#8], 100000⟩] := by
  decide +kernel

/-- The combiner as the sale sets it, with an output. -/
def armed (s : State) (output : Bool) : State := { s with combiner := ⟨0x1000#14, 0#14, false, true, true, output⟩ }

theorem witness_ResumeAndRestart :
    (HubTakes (inMode (asks .pay [0x10#8, 0#8] (armed sale false)) .lockdown) (asked .pay [0x10#8, 0#8])
        ∧ (inMode (asks .pay [0x10#8, 0#8] (armed sale false)) .lockdown).hub.mode = .lockdown)
      ∧ ((armed sale false).combiner.output = false ∧ (armed sale true).combiner.output = true)
      ∧ HubTakes (asks .pay [0x11#8, 0#8] sale) (asked .pay [0x11#8, 0#8]) :=
  ⟨⟨⟨rfl, rfl, by decide, rfl⟩, rfl⟩, by decide, asks_taken _ _⟩

/-- Step E3 of the sale, and the last paragraph: RESUME returns the hub to OPEN, or is BUSY while the output is true. -/
theorem test_resume :
    (after .resume (inMode (asks .pay [0x10#8, 0#8] (armed sale false)) .lockdown)).hub.mode = .openMode
      ∧ (after .resume (inMode (asks .pay [0x10#8, 0#8] (armed sale true)) .lockdown)).hub.mode = .lockdown := by decide +kernel

theorem test_restart_hub :
    (afterRequest .restartHub .pay [0x11#8, 0#8] sale).hub.mode = .boot
      ∧ (afterRequest .restartHub .pay [0x11#8, 0#8] sale).routes = []
      ∧ (afterRequest .restartHub .pay [0x11#8, 0#8] sale).entry 0 = ⟨12#10, .free⟩ := by decide +kernel

/-! ## Removal, fences, LOCKDOWN and the combiner -/

/-- Step E2 of the sale: with no lane auto-fenced, VIOL and the output become false, and the hub stays in LOCKDOWN. -/
theorem test_restore_lane_lowers_alert :
    (after .restoreLane (inMode (asks .pay [0x0C#8, 0#8, 5#8] (armed flooded true)) .lockdown)).alertPin = false
      ∧ (after .restoreLane (inMode (asks .pay [0x0C#8, 0#8, 5#8] (armed flooded true)) .lockdown)).hub.mode = .lockdown := by
  decide +kernel

theorem witness_LaneFence : (sale.lane (.app 5)).fenced = false ∧ (atQuotaPast.lane .pay).fenced = false := by decide

/-- The hypothesis on `released` in the statements of removals, fences, LOCKDOWN and expiries is met by one value. -/
theorem exists_released (p : Prop) : ∃ released : Bool, released = true ↔ p := by
  by_cases h : p
  · exact ⟨true, by simp [h]⟩
  · exact ⟨false, by simp [h]⟩

/-- A5's slot 6 in part D of the sale, the tally at 4 and the budget spent. -/
def lastStraw : State :=
  (armed { flood with routes := [⟨.anyApp, .pay 3, false, true, 64, 0, 10, some ⟨2, 1000, 0, 0⟩⟩] } false).updLane (.app 5)
    fun r => { r with tally := 4, limit := 5 }

/-- Part D of the sale: the fifth BUDGET fences A5, VIOL raises the output, and the hub enters LOCKDOWN. -/
theorem test_flood_locks_down :
    ((after .take lastStraw).lane (.app 5)).autoFenced = true ∧ (after .take lastStraw).alertPin = true
      ∧ (after .take lastStraw).hub.mode = .lockdown ∧ (after .take lastStraw).panel.active = lockdownTable
      ∧ (after .take lastStraw).pay.flags = Flag.fence.mask ||| Flag.alarm.mask ||| Flag.mode.mask := by decide +kernel

/-- Exchanges of PAY with A2, in entry 3, and with a responder given, in entry 7. -/
def payWaits (a : Address) (s : State) : State :=
  (s.setExchange 3 (.awaited ⟨.pay, 0#32, .app 2, 30100000, 0⟩)).setExchange 7 (.awaited ⟨.pay, 0#32, a, 30100000, 0⟩)

/-- R86: entry 7, which the fence of A5 closes first, and entry 3, which LOCKDOWN closes, are concluded in one event. -/
theorem test_references_ascend_at_auto_fence :
    ((after .take (payWaits (.app 5) lastStraw)).lane .pay).fifo = [.conclusion 3, .conclusion 7]
      ∧ ((after .take (payWaits (.app 5) lastStraw)).entry 3).state
        = .closing ⟨.pay, 0#32, .app 2, 30100000, 0⟩ .lockdown false
      ∧ ((after .take (payWaits (.app 5) lastStraw)).entry 7).state
        = .closing ⟨.pay, 0#32, .app 5, 30100000, 0⟩ .targetDown false := by decide +kernel

/-- RAD auto-fenced, its exchange with PAY open, and VIOL inverted, so that the removal of RAD brings LOCKDOWN. -/
def radFalls : State :=
  { (payWaits (.rad 4) sale).updLane .rad fun r => { r with fenced := true, autoFenced := true } with
    combiner := ⟨0x1000#14, 0x1000#14, false, true, true, false⟩ }

/-- R86: entry 7, which the removal of RAD closes first, and entry 3, which LOCKDOWN closes, are concluded in one event. -/
theorem test_references_ascend_at_removal :
    ((after (.selfAnnouncedRestart .rad) radFalls).lane .pay).fifo = [.conclusion 3, .conclusion 7]
      ∧ (after (.selfAnnouncedRestart .rad) radFalls).hub.mode = .lockdown := by decide +kernel

/-- PAY's SET PANES waiting, its exchange in entry 0, an exchange of PAY with A2 in entry 3, a message of A1 in PAY's FIFO, and
buffer-wait marks of A1 and RAD. -/
def lockedOut : State :=
  (withFifo ((payWaits (.rad 4) sale).setEntry 0 ⟨12#10, .awaited ⟨.pay, 77#32, .hub, 30100000, 0⟩⟩) .pay
      [.message (heldMessage 4 .notice (.app 1) (.pay 3) 0xFFFF)]).updLanes
    (fun l r => { r with bufferWait := decide (l = .app 1 ∨ l = .rad) }) |> fun s =>
      { s with hub := { s.hub with outstanding := [⟨.setPanes, .pay, 768⟩] } }

theorem witness_LockdownEntry :
    (lockedOut.hub.outstanding.filter fun o => decide (o.job = .setPanes)) = [⟨.setPanes, .pay, 768⟩]
      ∧ ((0 : Fin 48).val = 768 % 64 ∧ (lockedOut.entryLocked (lockedOut.entry 0)).generation.toNat = 768 / 64
        ∧ (lockedOut.entryLocked (lockedOut.entry 0)).state = .awaited ⟨.pay, 77#32, .hub, 30100000, 0⟩)
      ∧ (.message (heldMessage 4 .notice (.app 1) (.pay 3) 0xFFFF) ∈ (lockedOut.lane .pay).fifo
        ∧ (Entry.message (heldMessage 4 .notice (.app 1) (.pay 3) 0xFFFF)).holdsBuffer = true)
      ∧ ∀ o ∈ sale.hub.outstanding, o.job ≠ .setPanes := by decide +kernel

/-- R17, R97, R125: the conclusion goes before the CANCELLED reply, the exchange ends, and the marks are cleared. -/
theorem test_lockdown_cancels_set_panes :
    (lockedOut.enterLockdown.lane .pay).fifo
        = [.conclusion 3, .reply ⟨0, 768, 77#32, [7#8, 2#8, 0#8, 0#8], 100000⟩]
      ∧ lockedOut.enterLockdown.entry 0 = ⟨13#10, .free⟩
      ∧ (lockedOut.enterLockdown.lane (.app 1)).bufferWait = false ∧ (lockedOut.enterLockdown.lane .rad).bufferWait = false := by
  decide +kernel

/-- No conclusion reference stands where no FIFO holds an entry. -/
theorem conclusionsSound_of_empty {s : State} (h : ∀ i : Fin 10, s.lanes[i].fifo = []) : ConclusionsSound s := by
  intro l i
  have h' : (s.lane l).fifo = [] := h _
  rw [h']
  exact ⟨by simp, fun m => nomatch m⟩

theorem witness_ViolationsCharged_lockdown :
    ((payWaits (.app 5) lastStraw).lane (.app 5)).fenced = false ∧ ConclusionsSound (payWaits (.app 5) lastStraw)
      ∧ (payWaits (.app 5) lastStraw).hub.mode ≠ .lockdown
      ∧ ((payWaits (.app 5) lastStraw).violate (.app 5)).hub.mode = .lockdown
      ∧ (∀ o ∈ (payWaits (.app 5) lastStraw).hub.outstanding, o.job ≠ .setPanes)
      ∧ (payWaits (.app 5) lastStraw).concludedFor (fun j => decide (j = .app 5) || j.isApp) .pay = [3, 7] :=
  ⟨by decide, conclusionsSound_of_empty (by decide), by decide, by decide +kernel, by decide, by decide +kernel⟩

theorem witness_DomainRemoval_lockdown :
    ConclusionsSound radFalls ∧ radFalls.hub.mode ≠ .lockdown ∧ (radFalls.removeDomain .rad).hub.mode = .lockdown
      ∧ (∀ o ∈ radFalls.hub.outstanding, o.job ≠ .setPanes) ∧ Lane.pay.domain ≠ .rad
      ∧ radFalls.concludedFor (fun j => decide (j.domain = .rad) || j.isApp) .pay = [3, 7] :=
  ⟨conclusionsSound_of_empty (by decide), by decide, by decide +kernel, by decide, by decide, by decide +kernel⟩

/-- The combiner's inputs. -/
def inputs (s : State) (n : Fin 14) : Bool :=
  if h : n.val < 12 then (s.line ⟨n.val, h⟩).mismatch
  else if n.val = 12 then (List.finRange 10).any fun i => (s.lane (laneAt i)).autoFenced
  else decide (s.panel.mode = .freeRun)

theorem witness_CombinerEvaluation :
    ((∀ n : Fin 12, inputs (armed sale false) ⟨n.val, by omega⟩ = ((armed sale false).line n).mismatch)
        ∧ inputs (armed sale false) 12 = false ∧ (∀ i, ((armed sale false).lane (laneAt i)).autoFenced = false)
        ∧ inputs (armed sale false) 13 = true ∧ (armed sale false).panel.mode = .freeRun)
      ∧ (inputs (armed flooded false) 12 = true ∧ ((armed flooded false).lane (.app 5)).autoFenced = true
        ∧ (armed flooded false).combiner.includes.getLsbD 12 = true ∧ (armed flooded false).hub.mode ≠ .lockdown) := by decide

/-! ## The panel -/

/-- The part in FOLLOWING mode. -/
def following (s : State) : State := { s with panel := { s.panel with mode := .following } }

/-- The table of the PIN staged, with contact 0 held by A3 and the SET PANES outstanding. -/
def staged : State :=
  { (following sale).setContact 0 (some ⟨some (.app 3), place⟩) with
    panel := { sale.panel with mode := .following, staged := some ⟨0#16, pinPanes⟩, nextSlot := 320 }
    hub := { sale.hub with outstanding := [⟨.setPanes, .pay, 321⟩] } }

/-- Step B5 of the sale: the staged table becomes active, capture begins, and A3's contact is cancelled. -/
theorem test_staged_table_applied :
    (after .appFrameStart staged).panel.active.panes = pinPanes ∧ (after .appFrameStart staged).secureLamp = true
      ∧ (after .appFrameStart staged).app.flags = Flag.capture.mask
      ∧ (after .appFrameStart staged).pay.flags = Flag.panes.mask ||| Flag.capture.mask
      ∧ (after .appFrameStart staged).contact 0 = some ⟨none, place⟩
      ∧ ((after .appFrameStart staged).lane (.app 3)).fifo = [.cell (.touch 0 .cancel place) 100000] := by decide +kernel

/-- The staged table, with A3's contact, a key of A5's, and a scroll of the pane that stands, outstanding. -/
def stagedScroll : State :=
  { staged.setKey 4 ⟨true, 0, some (.app 5)⟩ with
    hub := { sale.hub with outstanding := [⟨.scrollPane, .pay, 384⟩, ⟨.setPanes, .pay, 321⟩] }
    exchanges := (staged.setExchange 1 (.awaited ⟨.pay, 0#32, .hub, 30100000, 0⟩)).exchanges.set 0
      ⟨6#10, .awaited ⟨.pay, 0#32, .hub, 30100000, 0⟩⟩ }

theorem witness_FrameStart :
    staged.capture = false ∧ staged.frameStart.capture = true ∧ staged.contact 0 = some ⟨some (.app 3), place⟩
      ∧ staged.panel.staged.isSome = true ∧ sale.panel.staged.isSome = false := by decide

/-- R97, R124, R145: the scroll's DONE goes before the SET PANES', and A5's key is cancelled. -/
theorem test_frame_start_lanes :
    (stagedScroll.frameStart.lane .pay).fifo
        = [.reply ⟨0, 384, 0#32, [1#8, 3#8, 0#8, 0#8], 100000⟩, .reply ⟨1, 321, 0#32, [1#8, 2#8, 0#8, 0#8], 100000⟩]
      ∧ (stagedScroll.frameStart.lane (.app 5)).fifo = [.cell (.key 4 .cancel) 100000] := by decide +kernel

/-- A panel mode and the times of its timers. -/
def frames (mode : FrameMode) (video frame : Nat) : State :=
  { sale with panel := { sale.panel with mode := mode, videoZero := video, frameZero := frame } }

theorem witness_FramesBegin :
    ((frames .following 0 0).inReset = false ∧ (frames .following 0 0).panel.mode = .following
        ∧ (frames .following 0 0).panel.videoZero + 100 * 1000 ≤ (frames .following 0 0).now)
      ∧ ((frames .freeRun 0 83333).panel.mode = .freeRun
        ∧ (frames .freeRun 0 83333).panel.frameZero + 16667 ≤ (frames .freeRun 0 83333).now) := by decide

/-- A part whose next row slot is the one given. -/
def atSlot (n : Nat) (s : State) : State := { s with panel := { s.panel with nextSlot := n } }

theorem witness_RowSlots :
    (held.inReset = true ∧ sale.panel.mode = .freeRun
        ∧ ((atSlot 320 (following sale)).panel.mode = .following ∧ 320 ≤ (atSlot 320 (following sale)).panel.nextSlot))
      ∧ ((atSlot 319 (following sale)).panel.nextSlot < 320 ∧ (following sale).panel.active.panes[0]?
          = some ⟨320, false, .appVideo, false, false, 0, 0⟩
        ∧ ∀ q ∈ (following sale).panel.active.panes, ¬(q.capture = true ∧ q.shade = true))
      ∧ ((pinTable (following sale)).panel.active.panes[0]? = some ⟨40, false, .appVideo, false, false, 0, 0⟩
        ∧ ∃ q ∈ (pinTable (following sale)).panel.active.panes, q.capture = true ∧ q.shade = true)
      ∧ ((atSlot 279 (pinTable sale)).panel.nextSlot = ((pinPanes.take 1).map Pane.height).sum + 239
        ∧ (pinTable sale).panel.active.panes[1]?.map Pane.source = some .secure ∧ sale.panel.mode = .freeRun
        ∧ (frames .freeRun 0 (100000 - 279 * 52)).panel.frameZero + 279 * 52 ≤ (frames .freeRun 0 0).now)
      ∧ ((inMode sale .lockdown).panel.mode = .freeRun ∧ lockdownTable.panes[0]?.map Pane.source = some .fill) := by decide

/-- R134, and step B5 of the sale: red 12, green 40 and blue 17 are shaded to red 0, green 63 and blue 31. -/
theorem test_shading : shadePixel 0x6511#16 = 0x07FF#16 ∧ shadePixel 0xA29F#16 = 0xF81F#16 := by decide +kernel

theorem witness_PayRowsHideAppVideo :
    PanelSound (atSlot 40 (pinTable sale))
      ∧ (pinTable sale).panel.active.panes[1]? = some ⟨240, true, .secure, true, true, 16, 0⟩
      ∧ (atSlot 40 (pinTable sale)).panel.nextSlot = ((pinPanes.take 1).map Pane.height).sum + 0 := by
  refine ⟨⟨⟨by decide, by decide, by decide, fun p h => ?_, by decide⟩, fun t h => ?_, by decide⟩, by decide, by decide⟩
  case refine_2 => cases (show none = some t from h)
  have h' : p ∈ pinPanes := h
  simp only [pinPanes, List.mem_cons, List.not_mem_nil, or_false] at h'
  rcases h' with rfl | rfl | rfl <;> simp [Pane.Sound]

/-! ## Touch and keys -/

/-- The sale's calibration record. -/
def calibration : Calibration := ⟨200, 3900, 150, 3950, false, false, false⟩

theorem witness_CalibratedCoordinates : calibration.xmin < calibration.xmax ∧ calibration.ymin < calibration.ymax := by decide

/-- Step B7 of the sale: raw (1000, 1500) is x 52, y 113, in pane 1 at row 73, on store line 89. -/
theorem test_pin_digit_placed :
    (⟨0#16, pinPanes⟩ : PaneTable).place (calibration.x 1000 1500) (calibration.y 1000 1500) = ⟨52, 113, 1, 73, 89, true⟩ := by decide +kernel

theorem witness_TouchRouted_placed :
    (pinTable sale).panel.active.panes[1]? = some ⟨240, true, .secure, true, true, 16, 0⟩
      ∧ (pinTable sale).touch.calibration.y 0 4095 = ((pinPanes.take 2).map Pane.height).sum + 39
      ∧ (pinTable sale).touch.calibration.y 0 1452 = ((pinPanes.take 1).map Pane.height).sum + 73
      ∧ (pinTable sale).panel.active.panes[2]? = some ⟨40, false, .appVideo, false, false, 0, 0⟩ := by decide +kernel

/-- The touch link in a state. -/
def linked (link : LinkState) (s : State) : State := { s with touch := { s.touch with link := link } }

theorem witness_TouchRouted :
    (sale.inReset = false ∧ sale.touch.link = .idle ∧ (linked .reading sale).touch.link = .reading
        ∧ (linked .retrying sale).touch.link = .retrying)
      ∧ sale.contact 0 = none ∧ staged.contact 0 = some ⟨some (.app 3), place⟩
      ∧ (∃ tell : State → Option Lane → TouchPhase → Placement → State,
        (∀ q phase p, tell q none phase p = q)
          ∧ ∀ q l phase p, tell q (some l) phase p = q.placeEvent l (.touch 0 phase p)) :=
  ⟨by decide, by decide, by decide,
    fun q own phase p => match own with | none => q | some l => q.placeEvent l (.touch 0 phase p),
    fun _ _ _ => rfl, fun _ _ _ _ => rfl⟩

/-- Step B1 of the sale with focus on A3: a DOWN in the APP pane is given to the focus lane; R143 gives it to PAY in LOCKDOWN. -/
theorem test_touch_down_to_focus :
    let read := linked .reading { sale with touch := { sale.touch with focus := 3 } }
    let down := Instr.touchReadCompletion (some [⟨0, .down, 0, 0⟩, ⟨2, .down, 0, 0⟩]) false
    ((after down read).lane (.app 3)).fifo = [.cell (.touch 0 .down ⟨0, 0, 0, 0, 0, false⟩) 100000]
      ∧ (after down (inMode read .lockdown)).contact 0 = some ⟨some .pay, ⟨0, 0, 0, 0, 0, false⟩⟩
      ∧ (after down read).touch.link = .idle := by decide +kernel

/-- A key with a state and a timer. -/
def keyed (k : Fin 16) (r : Key) (s : State) : State := s.setKey k r

theorem witness_KeysSensed :
    sale.inReset = false
      ∧ (((keyed 15 ⟨false, 19, none⟩ sale).key 15).timer = 19 ∧ ((keyed 15 ⟨false, 19, none⟩ sale).key 15).pressed = false)
      ∧ (((keyed 15 ⟨true, 19, some .pay⟩ sale).key 15).pressed = true ∧ ((keyed 15 ⟨true, 19, some .pay⟩ sale).key 15).owner = some .pay)
      ∧ ((keyed 15 ⟨true, 19, none⟩ sale).key 15).owner = none
      ∧ (sale.app.status = .up ∧ (sale.lane (.app 0)).fenced = false ∧ (withDomain sale .app .waiting none).app.status ≠ .up)
      ∧ ∀ k, (0#16).getLsbD k.val ≠ (sale.key k).pressed → (sale.key k).timer + 1 < 20 := by decide

theorem witness_KeysSensed_shares (down : BitVec 16) (own : Option Lane) :
    ∃ (tell : State → Option Lane → InputEvent → State) (accept share : State → Fin 16 → State),
      (∀ q e, tell q none e = q) ∧ (∀ q l e, tell q (some l) e = q.placeEvent l e)
        ∧ (∀ q k, accept q k =
          if (q.key k).pressed then (tell q (q.key k).owner (.key k .up)).setKey k ⟨false, 0, none⟩
          else (tell q own (.key k .down)).setKey k ⟨true, 0, own⟩)
        ∧ ∀ q k, share q k =
          if down.getLsbD k.val = (q.key k).pressed then q.setKey k { q.key k with timer := 0 }
          else if (q.key k).timer + 1 < 20 then q.setKey k { q.key k with timer := (q.key k).timer + 1 }
          else accept q k :=
  ⟨State.produce, _, _, fun _ _ => rfl, fun _ _ _ => rfl, fun _ _ => rfl, fun _ _ => rfl⟩

/-- R149: two changes accepted in one sensing give their events in ascending key number. -/
theorem test_two_keys :
    ((after (.keySense 0x0004#16) (keyed 9 ⟨true, 19, some .pay⟩ (keyed 2 ⟨false, 19, none⟩ (inMode sale .lockdown)))).lane .pay).fifo
      = [.cell (.key 2 .down) 100000, .cell (.key 9 .up) 100000] := by decide +kernel

/-- R148: the twentieth sensing that differs accepts the press. -/
theorem test_key_press :
    ((after (.keySense 0x8000#16) (keyed 15 ⟨false, 19, none⟩ sale)).key 15) = ⟨true, 0, some (.app 0)⟩
      ∧ ((after (.keySense 0x8000#16) (keyed 15 ⟨false, 18, none⟩ sale)).key 15) = ⟨false, 19, none⟩
      ∧ ((after (.keySense 0x0000#16) (keyed 15 ⟨false, 19, none⟩ sale)).key 15) = ⟨false, 0, none⟩ := by decide +kernel

/-! ## Lines and notices -/

/-- A line that APP owns, with deliver-events, edge RISE and expected level low, and a filter. -/
def inLine (n : Fin 12) (filter : Filter) (s : State) : State :=
  s.setLine n ⟨⟨false, some .app, .rise, false, false, 0x7A#8, true⟩, filter, false, .resting⟩

theorem witness_LinesSampled :
    sale.inReset = false
      ∧ (((inLine 11 (.settled false 2) sale).line 11).filter = .settled (!true) 2
        ∧ ((inLine 11 (.settled false 2) sale).line 11).entry.owner = some .app
        ∧ ((inLine 11 (.settled false 2) sale).line 11).entry.edge = .rise)
      ∧ ((inLine 11 (.settled true 2) sale).line 11).filter = .settled (!false) 2
      ∧ (sale.setLine 11 { sale.line 11 with filter := .settled false 2 }).line 11
          = ⟨LineEntry.default, .settled (!true) 2, false, .resting⟩
      ∧ ((inLine 0 (.settling (some (true, 2))) sale).line 0).filter = .settling (some (true, 2)) := by decide

theorem witness_LinesSampled_shares (levels : BitVec 12) :
    ∃ (take tell change settle : State → Fin 12 → Bool → State) (filtered share : State → Fin 12 → State)
      (judge : State → State → Fin 12 → State),
      (∀ q n level, take q n level = q.setLine n
        { q.line n with filter := .settled level 0, mismatch := level != (q.line n).entry.expected })
      ∧ (∀ q n level (e : LineEntry), e = (q.line n).entry →
        (∀ d, e.owner = some d → e.edge = .both ∨ (e.edge = .rise ∧ level = true) ∨ (e.edge = .fall ∧ level = false) →
            tell q n level = if e.deliver then
                (q.raise d .line).placeEvent (match d with | .app => .app 0 | .pay => .pay | .rad => .rad)
                  (.line e.tag n level (q.line n).mismatch)
              else q.raise d .line)
          ∧ (e.owner = none ∨ (e.edge = .rise ∧ level = false) ∨ (e.edge = .fall ∧ level = true) → tell q n level = q))
      ∧ (∀ q r n, judge q r n = if (r.line n).mismatch = (q.line n).mismatch then r else r.evaluate)
      ∧ (∀ q n level, change q n level = judge q (tell (take q n level) n level) n)
      ∧ (∀ q n level, settle q n level = judge q (take q n level) n)
      ∧ (∀ q n, filtered q n = q.setLine n { q.line n with filter := match (q.line n).filter with
        | .off => .off
        | .settling none => .settling (some (levels.getLsbD n.val, 1))
        | .settling (some (candidate, run)) =>
          if levels.getLsbD n.val ≠ candidate then .settling (some (levels.getLsbD n.val, 1))
          else .settling (some (candidate, run + 1))
        | .settled level count => if levels.getLsbD n.val = level then .settled level 0 else .settled level (count + 1) })
      ∧ ∀ q n, share q n = match (q.line n).filter with
        | .settling (some (candidate, run)) =>
          if levels.getLsbD n.val = candidate ∧ 2 ≤ run then settle q n candidate else filtered q n
        | .settled level count =>
          if levels.getLsbD n.val ≠ level ∧ 2 ≤ count then change q n (levels.getLsbD n.val) else filtered q n
        | .off | .settling none => filtered q n := by
  refine ⟨_, fun q n level => q.tellOwner n level, _, _, _, _, _, fun _ _ _ => rfl, ?_, fun _ _ _ => rfl, fun _ _ _ => rfl,
    fun _ _ _ => rfl, fun _ _ => rfl, fun _ _ => rfl⟩
  rintro q n level e rfl
  refine ⟨fun d hd he => ?_, fun h => ?_⟩
  · have hf : (q.line n).entry.edge.fits level = true := by
      rcases he with h | ⟨h, rfl⟩ | ⟨h, rfl⟩ <;> simp [h, Edge.fits]
    simp only [State.tellOwner, hd, hf, if_true]
    cases d <;> rfl
  · rcases h with h | ⟨h, rfl⟩ | ⟨h, rfl⟩
    · simp [State.tellOwner, h]
    · cases ho : (q.line n).entry.owner <;> simp [State.tellOwner, ho, h, Edge.fits]
    · cases ho : (q.line n).entry.owner <;> simp [State.tellOwner, ho, h, Edge.fits]

/-- R151: two filtered changes in one sampling give their LINE events in ascending line number. -/
theorem test_two_lines :
    ((after (.lineSample 0x801#12) (inLine 11 (.settled false 2) (inLine 0 (.settled false 2) sale))).lane (.app 0)).fifo
      = [.cell (.line 0x7A#8 0 true true) 100000, .cell (.line 0x7A#8 11 true true) 100000] := by decide +kernel

/-- R151 to R154: the third high sample of a settled low line is a filtered change, told to A0. -/
theorem test_third_sample :
    ((after (.lineSample 0x800#12) (inLine 11 (.settled false 2) sale)).line 11).filter = .settled true 0
      ∧ ((after (.lineSample 0x800#12) (inLine 11 (.settled false 2) sale)).line 11).mismatch = true
      ∧ ((after (.lineSample 0x800#12) (inLine 11 (.settled false 2) sale)).lane (.app 0)).fifo
        = [.cell (.line 0x7A#8 11 true true) 100000]
      ∧ ((after (.lineSample 0x800#12) (inLine 11 (.settled false 1) sale)).line 11).filter = .settled false 2 := by decide +kernel

theorem witness_EventLines :
    (held.inReset = true ∧ (withDomain sale .app .held none).app.status = .held)
      ∧ (sale.inReset = false ∧ (sale.dom .pay).status ≠ .held ∧ ∀ b, 25 ≤ b → (sale.dom .pay).flags.getLsbD b = false)
      ∧ ∃ group : Nat → Nat, ∀ b, group b = if b < 8 then 0 else if b < 16 then 1 else b - 14 :=
  ⟨by decide, ⟨by decide, by decide, fun _ _ => BitVec.getLsbD_zero⟩, _, fun _ => rfl⟩

theorem test_event_lines :
    (sale.raise .pay (.inbound .pay)).routineLine .pay = true ∧ (sale.raise .pay (.inbound .pay)).urgentLine .pay = false
      ∧ (sale.raise .pay .alarm).routineLine .pay = false := by decide +kernel

/-! ## What every step keeps -/

/-- The part in LOCKDOWN after reset, with a take that waits. -/
def waits : State := { inMode State.reset .lockdown with pending := [.take] }

theorem waits_lane (l : Lane) : waits.lane l = LaneState.reset := by
  have h : ∀ i : Fin 10, waits.lanes[i] = LaneState.reset := by decide
  exact h _

theorem waits_entry (i : Fin 48) : waits.entry i = ⟨0#10, .free⟩ := by revert i; decide

/-- The step that the witnesses below share. -/
theorem waits_goes_on : ∃ t, step waits = .next t := ⟨_, rfl⟩

theorem witness_ResetHoldsKept :
    (ResetHolds { held with pending := [.take] } ∧ ∃ t, step { held with pending := [.take] } = .next t)
      ∧ (ResetHolds { held with pending := [.pinReset] } ∧ { held with pending := [.pinReset] }.inReset = true
        ∧ { held with pending := [.pinReset] }.pending.head? ≠ some .powerOnReset
        ∧ ∃ t, step { held with pending := [.pinReset] } = .next t) :=
  ⟨⟨fun _ => ⟨0, rfl⟩, _, rfl⟩, fun _ => ⟨0, rfl⟩, rfl, by decide, _, rfl⟩

theorem witness_WindowsKept : (WindowsCanonical waits ∧ WindowsBounded waits) ∧ ∃ t, step waits = .next t := by
  refine ⟨⟨fun d => ?_, ⟨by decide, by decide⟩, fun d => ?_⟩, waits_goes_on⟩ <;> cases d <;> decide

theorem witness_PanelSoundKept : PanelSound waits ∧ ∃ t, step waits = .next t := by
  refine ⟨⟨⟨by decide, by decide, by decide, fun p h => ?_, by decide⟩, fun t h => ?_, by decide⟩, waits_goes_on⟩
  case refine_2 => cases (show none = some t from h)
  have h' : p ∈ defaultTable.panes := h
  simp only [defaultTable, List.mem_cons, List.not_mem_nil, or_false] at h'
  subst h'
  simp [Pane.Sound]

theorem witness_CombinerAndLockdownKept :
    (ResetHolds waits ∧ OutputFormed waits ∧ LockdownFollows waits) ∧ ∃ t, step waits = .next t := by
  refine ⟨⟨fun h => ?_, ?_, fun _ => rfl⟩, waits_goes_on⟩
  · exact absurd h (by decide)
  · unfold OutputFormed; decide

theorem witness_AppShutOutKept : AppShutOut waits ∧ ∃ t, step waits = .next t := by
  refine ⟨fun _ => ⟨fun x e h => ?_, by decide, fun i x h _ => ?_⟩, waits_goes_on⟩
  · rw [waits_lane] at h; cases h
  · rw [waits_entry] at h; cases h

/-- Capture active, with contact 0 and key 3 held by PAY and a DOWN of contact 1 to come. -/
def capturing : State :=
  keyed 3 ⟨true, 0, some .pay⟩ ((linked .reading (pinTable sale)).setContact 0 (some ⟨some .pay, place⟩))

theorem capturing_withholds : InputsWithheld capturing := by
  refine fun _ => ⟨fun i c l h ho => ?_, fun k l h => ?_⟩
  · have hc : ∀ i : Fin 2, capturing.contact i = none ∨ capturing.contact i = some ⟨some .pay, place⟩ := by decide
    rcases hc i with hi | hi <;> rw [hi] at h <;> cases h
    cases ho; rfl
  · have hk : ∀ k : Fin 16, (capturing.key k).owner = none ∨ (capturing.key k).owner = some .pay := by decide
    rcases hk k with hi | hi <;> rw [hi] at h <;> cases h
    rfl

theorem witness_InputsWithheldKept :
    InputsWithheld { capturing with pending := [.take] } ∧ ∃ t, step { capturing with pending := [.take] } = .next t :=
  ⟨capturing_withholds, _, rfl⟩

theorem witness_CaptureBlocksInput :
    InputsWithheld capturing ∧ capturing.capture = true
      ∧ (∃ t, exec (.touchReadCompletion (some [⟨1, .down, 0, 0⟩]) false) capturing = .next t)
      ∧ ∃ place : Entry → Bool, ∀ e, place e = match e with
        | .cell (.touch _ phase _) _ => decide (phase ≠ .cancel)
        | .cell (.key _ action) _ => decide (action ≠ .cancel)
        | .cell (.line _ _ _ _) _ | .message _ | .reply _ | .conclusion _ => false :=
  ⟨capturing_withholds, by decide, ⟨_, rfl⟩, _, fun _ => rfl⟩

theorem witness_LinesRestKept :
    (ResetHolds waits ∧ DomainsSound waits ∧ LinesSafe waits) ∧ ∃ t, step waits = .next t := by
  refine ⟨⟨fun h => absurd h (by decide), ⟨fun d => ?_, by decide⟩, ⟨fun n d h _ => ?_, fun h m => ?_, fun l h => ?_⟩⟩,
    waits_goes_on⟩
  · cases d <;> decide
  · have hr : ∀ n : Fin 12, (waits.line n).output = .resting := by decide
    exact hr n
  · cases m
  · cases (show none = some l from h)

theorem witness_ReferencesSoundKept : (RequestsPosted waits ∧ ConclusionsSound waits) ∧ ∃ t, step waits = .next t := by
  refine ⟨⟨⟨fun l h m => ?_, fun tag => ?_⟩, fun l i => ?_⟩, waits_goes_on⟩
  · rw [waits_lane] at m; cases m
  · have h : waits.boardEntries = [] := by decide
    simp [h]
  · rw [waits_lane]; exact ⟨by simp [LaneState.reset], fun m => nomatch m⟩

theorem witness_RequestsBoundedKept : RequestsBounded waits ∧ ∃ t, step waits = .next t := by
  refine ⟨fun l => ?_, waits_goes_on⟩
  have h : waits.openRequests l = 0 := by simp [State.openRequests, waits_entry, ExchangeState.open?]
  omega

theorem witness_StorageBoundedKept :
    (BuffersBounded waits ∧ RepliesBounded waits ∧ CellsBounded waits) ∧ ∃ t, step waits = .next t := by
  refine ⟨⟨⟨by decide, fun l => ?_⟩, ⟨by decide, by decide⟩, by unfold CellsBounded; decide⟩, waits_goes_on⟩
  have h : waits.heldMessages = [] := by decide
  simp [State.charged, h]

theorem witness_RangesKept :
    (LevelsBounded waits ∧ CountsBounded waits ∧ FencesSound waits) ∧ ∃ t, step waits = .next t := by
  refine ⟨⟨fun r h => ?_, ⟨fun l => ?_, fun d => ?_⟩, fun l h => ?_, by decide⟩, waits_goes_on⟩
  · cases h
  · rw [waits_lane]; cases l <;> simp [LaneBounded, LaneState.reset, Lane.slots]
  · cases d <;> decide
  · rw [waits_lane] at h; cases h

end Sys2Proof.Tests
end

/-! PROOFS. What a step can do: the commands, the hub service and the takes by cases, and what every command but the resets
leaves as it was. -/

namespace Sys2Proof

/-- The commands that reset the part or end its reset. -/
def Instr.isReset : Instr → Bool
  | .powerOnReset | .pinReset | .resetEnd _ => true
  | _ => false

theorem Instr.isReset_eq_true {c : Instr} (h : c.isReset = true) :
    c = .powerOnReset ∨ c = .pinReset ∨ ∃ low, c = .resetEnd low := by
  cases c <;> simp_all [Instr.isReset]

end Sys2Proof

namespace Sys2Proof.Machine

/-! ## Steps -/

/-- A property is kept by every step where neither the queue nor the timebase matters to it and every command keeps it. -/
theorem kept_of_exec {p : State → Prop} (queue : ∀ s rest, p s → p { s with pending := rest })
    (tick : ∀ s, p s → p s.tick) (command : ∀ c s t, p s → exec c s = .next t → p t) : Kept p := by
  intro s t hs h
  unfold step at h
  split at h
  · unfold State.idle at h
    split at h
    · exact command _ _ _ hs h
    · cases h; exact tick s hs
  · exact command _ _ _ (queue s _ hs) h

/-! ## The hub service -/

/-- The message that the hub service finds at the head is one that it takes (R95). -/
theorem hubTakes_of_hubHead {s : State} {h : Held} (e : s.hubHead = some h) : HubTakes s h.message := by
  unfold State.hubHead at e
  split at e
  · cases e
  · next hb =>
    obtain ⟨h1, h2, h3⟩ : s.inReset = false ∧ s.hub.loading = none ∧ s.hub.outstanding.length < s.freeReplies := by
      simpa [State.hubBusy] using hb
    exact ⟨h1, h2, h3, by simp [e]⟩

/-- What holds of the state before, after each failed check and after the execution of a taken request, holds after the hub
service has served a command (R95, R96). -/
theorem serve_induction {P : State → Prop} {q : HubRequest} {s : State} (idle : P s)
    (fails : ∀ m r detail, HubTakes s m → P (((s.hubTake m).chargeResult r m.sender).finish m q.code r detail []))
    (runs : ∀ m, HubTakes s m → q.judge (s.hubTake m) m = none → P (q.run (s.hubTake m) m)) : P (q.serve s) := by
  cases hh : s.hubHead with
  | none => simpa [HubRequest.serve, hh] using idle
  | some h =>
    have ht := hubTakes_of_hubHead hh
    by_cases hq : q.takes h.message.payload = true
    · rw [serve_of_hubTakes ht q hq]
      split
      · exact fails _ _ _ ht
      · next hj => exact runs _ ht hj
    · simpa [HubRequest.serve, hh, hq] using idle

/-- A request that passes its checks meets its own conditions, and its parameters hold listed values (R96). -/
theorem judge_eq_none {q : HubRequest} {s : State} {m : Message} (h : q.judge s m = none) :
    q.issuer m.sender = true ∧ q.available s.hub.mode = true ∧ q.length m.payload ≤ m.payload.length
      ∧ q.badField m.payload = none ∧ q.refused s m = none := by
  unfold HubRequest.judge at h
  split_ifs at h with h1 h2 h3
  split at h
  · cases h
  · exact ⟨by simpa using h1, by simpa using h2, by omega, ‹_›, h⟩

/-! ## Takes -/

/-- What holds after each way that a take can end holds after the take (R14, R37, R57). -/
theorem takeFor_induction {P : State → Prop} {s : State} {l : Lane} {first : Bool}
    (empty : P (s.updLane l fun r => { r with scanWanted := false }).noVisit)
    (refused : ∀ slot m o, slot < l.slots → s.judge l m = .refuse o → P ((s.refuseTake l slot m o).afterTake l slot first))
    (held : ∀ slot, slot < l.slots → P (s.heldBack l slot))
    (request : ∀ slot m a route b, slot < l.slots → m = s.slotMessage l slot → s.judge l m = .request a route →
      P ((s.acceptRequest l slot m a route b).afterTake l slot first))
    (notice : ∀ slot m a route b, slot < l.slots → m = s.slotMessage l slot → s.judge l m = .notice a route →
      P ((s.acceptNotice l slot m a route b).afterTake l slot first))
    (answer : ∀ slot m i x b, slot < l.slots → m = s.slotMessage l slot → s.judge l m = .answer i x →
      P ((s.acceptAnswer l slot m i x b).afterTake l slot first)) : P (s.takeFor l first) := by
  cases hf : s.filledSlot l with
  | none => simpa [State.takeFor, hf] using empty
  | some slot =>
    have hs : slot < l.slots := by
      obtain ⟨k, -, rfl, -⟩ := (searchBoard_eq_some _ _ _ _).1 hf
      exact Nat.mod_lt _ (slots_pos l)
    simp only [State.takeFor, hf]
    split
    · exact refused _ _ _ hs ‹_›
    · exact held _ hs
    · exact held _ hs
    · exact held _ hs
    · exact request _ _ _ _ _ hs rfl ‹_›
    · exact notice _ _ _ _ _ hs rfl ‹_›
    · exact answer _ _ _ _ _ hs rfl ‹_›

/-- What holds where no take begins and after the take of a visit holds after the command (R13, R14). -/
theorem take_induction {P : State → Prop} {s t : State} (h : exec .take s = .next t) (none : P s)
    (take : ∀ l first, TakeBegins s l first → P ((s.visiting l first).takeFor l first)) : P t := by
  by_cases hr : s.inReset = true
  · simp only [exec, execTake, hr, if_true] at h; cases h; exact none
  have hr : s.inReset = false := by simpa using hr
  cases hv : s.scanner.visit with
  | some l =>
    have hb : TakeBegins s l false := ⟨hr, by simp [hv]⟩
    rw [exec_take hb] at h; cases h; exact take _ _ hb
  | none =>
    cases hg : s.granted with
    | none => simp only [exec, execTake, hr, hv, hg] at h; cases h; exact none
    | some l =>
      have hb : TakeBegins s l true := ⟨hr, by simp [hv, hg]⟩
      rw [exec_take hb] at h; cases h; exact take _ _ hb

end Sys2Proof.Machine

/-! PROOFS. What every event but a reset keeps of the records: the windows and payloads within their sizes, and the counters,
cursors, levels and fences within their ranges (O50, O60). -/

namespace Sys2Proof.Machine

/-! ## What is kept -/

/-- The entry's payload, if it has one, fits a slot. -/
def Entry.Fits : Entry → Prop
  | .message h => h.message.payload.length ≤ Config.maxPayload
  | .reply r => r.payload.length ≤ Config.maxPayload
  | .cell _ _ | .conclusion _ => True

/-- A window of a domain is canonical and within its size. -/
def WindowSound (d : Domain) (m : Memory) : Prop := m.wf ∧ Memory.below d.windowSize m

/-- `WindowsCanonical` and `WindowsBounded`, by record. -/
structure WindowsSound (s : State) : Prop where
  window : ∀ d, WindowSound d (s.dom d).window
  fifo : ∀ l, ∀ e ∈ (s.lane l).fifo, e.Fits
  hub : ∀ h ∈ s.hub.fifo, h.message.payload.length ≤ Config.maxPayload

/-- A lane's counters, cursors and fences are as `CountsBounded` and `FencesSound` have them. -/
def LaneSound (l : Lane) (r : LaneState) : Prop :=
  LaneBounded l r ∧ (r.autoFenced = true → r.fenced = true) ∧ (l = .pay → r.fenced = false)

/-- `LevelsBounded`, `CountsBounded` and `FencesSound`, by record. -/
structure RangesSound (s : State) : Prop where
  level : LevelsBounded s
  lane : ∀ l, LaneSound l (s.lane l)
  stray : ∀ d, (s.dom d).stray ≤ 255
  flags : ∀ d, (s.dom d).flags.toNat < 2 ^ 25

theorem mem_boardEntries {s : State} {e : Entry} : e ∈ s.boardEntries ↔ ∃ l, e ∈ (s.lane l).fifo := by
  simp [State.boardEntries, mem_allLanes]

theorem payloadsFit_iff (s : State) : PayloadsFit s ↔
    (∀ l, ∀ e ∈ (s.lane l).fifo, e.Fits) ∧ ∀ h ∈ s.hub.fifo, h.message.payload.length ≤ Config.maxPayload := by
  have held : ∀ h, h ∈ s.heldMessages ↔ (∃ l, .message h ∈ (s.lane l).fifo) ∨ h ∈ s.hub.fifo := by
    intro h
    rw [State.heldMessages, List.mem_append, List.mem_filterMap, ← mem_boardEntries]
    refine or_congr_left ⟨fun ⟨e, he, hh⟩ => ?_, fun he => ⟨_, he, rfl⟩⟩
    cases e <;> cases hh
    exact he
  have replies : ∀ r, r ∈ s.heldReplies ↔ ∃ l, .reply r ∈ (s.lane l).fifo := by
    intro r
    rw [State.heldReplies, List.mem_filterMap, ← mem_boardEntries]
    refine ⟨fun ⟨e, he, hr⟩ => ?_, fun he => ⟨_, he, rfl⟩⟩
    cases e <;> cases hr
    exact he
  simp only [PayloadsFit, held, replies]
  refine ⟨fun ⟨hm, hr⟩ => ⟨fun l e he => ?_, fun h hh => hm h (.inr hh)⟩,
    fun ⟨hf, hh⟩ => ⟨fun h hm => hm.elim (fun ⟨l, hl⟩ => hf l _ hl) (hh h), fun r ⟨l, hl⟩ => hf l _ hl⟩⟩
  cases e with
  | message h => exact hm h (.inl ⟨l, he⟩)
  | reply r => exact hr r ⟨l, he⟩
  | cell _ _ => trivial
  | conclusion _ => trivial

theorem windowsSound_iff (s : State) : WindowsSound s ↔ WindowsCanonical s ∧ WindowsBounded s := by
  refine ⟨fun h => ⟨fun d => (h.window d).1, (payloadsFit_iff s).2 ⟨h.fifo, h.hub⟩, fun d => (h.window d).2⟩,
    fun ⟨hc, hp, hb⟩ => ?_⟩
  obtain ⟨hf, hh⟩ := (payloadsFit_iff s).1 hp
  exact ⟨fun d => ⟨hc d, hb d⟩, hf, hh⟩

theorem rangesSound_iff (s : State) : RangesSound s ↔ LevelsBounded s ∧ CountsBounded s ∧ FencesSound s := by
  refine ⟨fun h => ⟨h.level, ⟨fun l => (h.lane l).1, fun d => ⟨h.stray d, h.flags d⟩⟩, fun l => (h.lane l).2.1,
    (h.lane .pay).2.2 rfl⟩, fun ⟨hl, ⟨hb, hd⟩, ha, hp⟩ => ⟨hl, fun l => ⟨hb l, ha l, ?_⟩, fun d => (hd d).1, fun d => (hd d).2⟩⟩
  rintro rfl; exact hp

/-! ## Tame changes -/

/-- A change that keeps the timebase, the reset and the queue, and what `WindowsSound` and `RangesSound` say. -/
structure Tame (s t : State) : Prop where
  now : t.now = s.now
  inReset : t.inReset = s.inReset
  pending : t.pending = s.pending
  windows : WindowsSound s → WindowsSound t
  ranges : RangesSound s → RangesSound t

@[refl] theorem Tame.refl (s : State) : Tame s s := ⟨rfl, rfl, rfl, id, id⟩

@[trans] theorem Tame.trans {s t u : State} (h : Tame s t) (h' : Tame t u) : Tame s u :=
  ⟨h'.now.trans h.now, h'.inReset.trans h.inReset, h'.pending.trans h.pending, h'.windows ∘ h.windows, h'.ranges ∘ h.ranges⟩

/-- Of two tame changes, the one that a condition chooses is tame. -/
theorem Tame.ite {p : Prop} [Decidable p] {s t u : State} (h : p → Tame s t) (h' : ¬p → Tame s u) :
    Tame s (if p then t else u) := by
  split
  · exact h ‹_›
  · exact h' ‹_›

/-- The records that tame changes are about are the same. -/
def SameRecords (s t : State) : Prop :=
  t.now = s.now ∧ t.inReset = s.inReset ∧ t.pending = s.pending ∧ (∀ d, t.dom d = s.dom d) ∧ (∀ l, t.lane l = s.lane l)
    ∧ t.routes = s.routes ∧ t.hub.fifo = s.hub.fifo

/-- A tame change of a domain's record. -/
def DomTame (d : Domain) (r r' : DomainRecord) : Prop :=
  (WindowSound d r.window → WindowSound d r'.window) ∧ (r.stray ≤ 255 → r'.stray ≤ 255)
    ∧ (r.flags.toNat < 2 ^ 25 → r'.flags.toNat < 2 ^ 25)

/-- A tame change of a lane's record. -/
def LaneTame (l : Lane) (r r' : LaneState) : Prop :=
  (∀ e ∈ r'.fifo, e ∈ r.fifo ∨ e.Fits) ∧ (LaneSound l r → LaneSound l r')

section
variable {s t : State} (h : Tame s t)
include h

theorem Tame.same {u : State} (same : SameRecords t u) : Tame s u := by
  obtain ⟨hn, hi, hp, hd, hl, hr, hf⟩ := same
  refine h.trans ⟨hn, hi, hp, fun w => ⟨?_, ?_, ?_⟩, fun w => ⟨?_, ?_, ?_, ?_⟩⟩
  · simpa [hd] using w.window
  · simpa [hl] using w.fifo
  · simpa [hf] using w.hub
  · simpa [LevelsBounded, hr] using w.level
  · simpa [hl] using w.lane
  · simpa [hd] using w.stray
  · simpa [hd] using w.flags

theorem Tame.updLanes {f : Lane → LaneState → LaneState} (hf : ∀ l, LaneTame l (t.lane l) (f l (t.lane l))) : Tame s (t.updLanes f) := by
  refine h.trans ⟨rfl, rfl, rfl, fun w => ⟨by simpa using w.window, fun l e he => ?_, w.hub⟩,
    fun w => ⟨w.level, fun l => ?_, by simpa using w.stray, by simpa using w.flags⟩⟩
  · rw [State.lane_updLanes] at he
    exact ((hf l).1 e he).elim (w.fifo l e) id
  · rw [State.lane_updLanes]; exact (hf l).2 (w.lane l)

theorem Tame.updLane {l : Lane} {f : LaneState → LaneState} (hf : LaneTame l (t.lane l) (f (t.lane l))) : Tame s (t.updLane l f) := by
  refine h.trans ⟨rfl, rfl, rfl, fun w => ⟨by simpa using w.window, fun k e he => ?_, w.hub⟩,
    fun w => ⟨w.level, fun k => ?_, by simpa using w.stray, by simpa using w.flags⟩⟩
  · rw [State.lane_updLane] at he
    split at he
    · exact (hf.1 e he).elim (w.fifo l e) id
    · exact w.fifo k e he
  · rw [State.lane_updLane]
    split
    · next hk => subst hk; exact hf.2 (w.lane k)
    · exact w.lane k

theorem Tame.updDom {d : Domain} {f : DomainRecord → DomainRecord} (hf : DomTame d (t.dom d) (f (t.dom d))) : Tame s (t.updDom d f) := by
  refine h.trans ⟨by simp, by simp, by simp, fun w => ⟨fun k => ?_, by simpa using w.fifo, by simpa using w.hub⟩,
    fun w => ⟨by simpa [LevelsBounded] using w.level, by simpa using w.lane, fun k => ?_, fun k => ?_⟩⟩
  all_goals rw [State.dom_updDom]; split
  · next hk => subst hk; exact hf.1 (w.window k)
  · exact w.window k
  · next hk => subst hk; exact hf.2.1 (w.stray k)
  · exact w.stray k
  · next hk => subst hk; exact hf.2.2 (w.flags k)
  · exact w.flags k

/-- A tame change of the HUB FIFO. -/
theorem Tame.hubFifo {q : List Held}
    (hq : ∀ x ∈ q, x ∈ t.hub.fifo ∨ x.message.payload.length ≤ Config.maxPayload) :
    Tame s { t with hub := { t.hub with fifo := q } } :=
  h.trans ⟨rfl, rfl, rfl, fun w => ⟨by simpa using w.window, w.fifo, fun x hx => (hq x hx).elim (w.hub x) id⟩,
    fun w => ⟨w.level, w.lane, by simpa using w.stray, by simpa using w.flags⟩⟩

/-- A tame change of the route table. -/
theorem Tame.routes {rs : List Route}
    (hr : (∀ r ∈ t.routes, ∀ b, r.budget = some b → b.level ≤ b.burst) → ∀ r ∈ rs, ∀ b, r.budget = some b → b.level ≤ b.burst) :
    Tame s { t with routes := rs } :=
  h.trans ⟨rfl, rfl, rfl, fun w => ⟨by simpa using w.window, w.fifo, w.hub⟩,
    fun w => ⟨hr w.level, w.lane, by simpa using w.stray, by simpa using w.flags⟩⟩

end

/-! ## The changes of a lane's record -/

section
variable {l : Lane}

/-- Entries that fit may join a FIFO, and any may leave it. -/
theorem laneTame_fifo (r : LaneState) {fifo : List Entry} (h : ∀ e ∈ fifo, e ∈ r.fifo ∨ e.Fits) :
    LaneTame l r { r with fifo := fifo } := ⟨h, id⟩

theorem laneTame_dropped (r : LaneState) (k : Nat) : LaneTame l r { r with dropped := bumpBy r.dropped k } := by
  refine ⟨fun e => .inl, fun ⟨hb, hf⟩ => ⟨?_, hf⟩⟩
  simp only [LaneBounded, bumpBy] at hb ⊢; omega

end

end Sys2Proof.Machine

/-! PROOFS. The shared operations keep the records (O50, O60). -/

namespace Sys2Proof.Machine

/-! ## The shared operations are tame -/

section
variable {s t : State}

/-! ### Notices, counters and FIFOs -/

theorem flags_or_lt {v : Word} {f : Flag} (h : v.toNat < 2 ^ 25) : (v ||| f.mask).toNat < 2 ^ 25 := by
  rw [BitVec.toNat_or]
  refine Nat.or_lt_two_pow h ?_
  have := f.bit_lt
  rw [Flag.mask, BitVec.toNat_shiftLeft, Nat.shiftLeft_eq]
  refine lt_of_le_of_lt (Nat.mod_le _ _) ?_
  simpa using Nat.pow_lt_pow_right (a := 2) (by decide) this

theorem Tame.raise (h : Tame s t) (d : Domain) (f : Flag) : Tame s (t.raise d f) :=
  h.updDom ⟨id, id, flags_or_lt⟩

theorem Tame.raiseAll (h : Tame s t) (f : Flag) : Tame s (t.raiseAll f) := ((h.raise _ f).raise _ f).raise _ f

theorem Tame.countDropped (h : Tame s t) (l : Lane) (k : Nat) : Tame s (t.countDropped l k) :=
  h.updLane <| laneTame_dropped _ k

theorem Tame.clearBufferWait (h : Tame s t) : Tame s t.clearBufferWait :=
  h.updLanes fun _ => ⟨fun _ => .inl, id⟩

theorem Tame.filterFifos (h : Tame s t) (keep : Lane → Entry → Bool) (keepHub : Held → Bool) :
    Tame s (t.filterFifos keep keepHub) := by
  have hf : Tame s { t.updLanes (fun l r => { r with fifo := r.fifo.filter (keep l) }) with
      hub := { t.hub with fifo := t.hub.fifo.filter keepHub } } :=
    (h.updLanes fun l => laneTame_fifo _ fun e he => .inl (List.mem_of_mem_filter he)).hubFifo
      fun x hx => .inl (List.mem_of_mem_filter hx)
  unfold State.filterFifos
  dsimp only
  split
  · exact hf.clearBufferWait
  · exact hf

theorem Tame.removeAt (h : Tame s t) (l : Lane) (place : Nat) : Tame s (t.removeAt l place) := by
  have hf : Tame s (t.updLane l fun r => { r with fifo := r.fifo.eraseIdx place }) :=
    h.updLane <| laneTame_fifo _ fun e he => .inl (List.mem_of_mem_eraseIdx he)
  unfold State.removeAt
  dsimp only
  split
  · exact hf.clearBufferWait
  · exact hf

theorem Tame.join (h : Tame s t) (l : Lane) {e : Entry} (he : e.Fits) : Tame s (t.join l e) :=
  h.updLane <| laneTame_fifo _ fun x hx => (List.mem_append.1 hx).imp_right fun hx => by
    rw [List.mem_singleton.1 hx]; exact he

/-- The coalescing looks past the head, overwrites a cell at the head, or fails (R65). -/
theorem coalesce_cons (id : Fin 2) (place : Placement) (e : Entry) (rest : List Entry) :
    coalesce id place (e :: rest) = (coalesce id place rest).map (e :: ·)
      ∨ (∃ event joined, coalesce id place (e :: rest) = some (.cell event joined :: rest))
      ∨ coalesce id place (e :: rest) = none := by
  cases e with
  | cell event joined =>
    cases event with
    | touch id' phase old =>
      simp only [coalesce]
      split_ifs
      · exact .inl rfl
      · exact .inr (.inl ⟨_, _, rfl⟩)
      · exact .inr (.inr rfl)
    | key _ _ => exact .inl rfl
    | line _ _ _ _ => exact .inl rfl
  | message _ => exact .inl rfl
  | reply _ => exact .inl rfl
  | conclusion _ => exact .inl rfl

/-- A coalesced FIFO holds entries that it held before, and cells (R65). -/
theorem mem_coalesce {id : Fin 2} {place : Placement} {fifo fifo' : List Entry} (h : coalesce id place fifo = some fifo') :
    ∀ e ∈ fifo', e ∈ fifo ∨ ∃ event joined, e = .cell event joined := by
  induction fifo generalizing fifo' with
  | nil => cases h
  | cons e rest ih =>
    rcases coalesce_cons id place e rest with he | ⟨event, joined, he⟩ | he <;> rw [he] at h
    · obtain ⟨rest', hr, rfl⟩ := Option.map_eq_some_iff.1 h
      intro x hx
      rcases List.mem_cons.1 hx with rfl | hx
      · simp
      · exact (ih hr x hx).imp_left (List.mem_cons_of_mem _)
    · cases h
      intro x hx
      rcases List.mem_cons.1 hx with rfl | hx
      · exact .inr ⟨_, _, rfl⟩
      · exact .inl (List.mem_cons_of_mem _ hx)
    · cases h

theorem mem_coalesced {event : InputEvent} {fifo fifo' : List Entry} (h : event.coalesced fifo = some fifo') :
    ∀ e ∈ fifo', e ∈ fifo ∨ ∃ event joined, e = .cell event joined := by
  unfold InputEvent.coalesced at h
  split at h
  · exact mem_coalesce h
  all_goals cases h

theorem bump_le (n : Nat) : bump n ≤ 65535 := min_le_right _ _

theorem Tame.loseEvent (h : Tame s t) (l : Lane) (e : InputEvent) : Tame s (t.loseEvent l e) :=
  (h.updLane ⟨fun _ => .inl, fun ⟨⟨h1, h2, h3, h4, h5, h6, h7, h8, _⟩, hf⟩ =>
    ⟨⟨h1, h2, h3, h4, h5, h6, h7, h8, bump_le _⟩, hf⟩⟩).raise _ _

theorem Tame.placeEvent (h : Tame s t) (l : Lane) (e : InputEvent) : Tame s (t.placeEvent l e) := by
  unfold State.placeEvent
  split
  · exact h.countDropped l 1
  split
  · exact h
  split
  · next fifo hc =>
    exact h.updLane (laneTame_fifo _ fun x hx => (mem_coalesced hc x hx).imp_right fun ⟨_, _, hx⟩ => hx ▸ trivial)
  split
  · exact h.join l trivial
  · exact h.loseEvent l e

/-! ### The exchange table -/

theorem Tame.setEntry (h : Tame s t) (i : Fin 48) (e : ExchangeEntry) : Tame s (t.setEntry i e) :=
  h.same (by simp [SameRecords])

theorem Tame.setExchange (h : Tame s t) (i : Fin 48) (x : ExchangeState) : Tame s (t.setExchange i x) := h.setEntry _ _

theorem Tame.freeEntry (h : Tame s t) (i : Fin 48) : Tame s (t.freeEntry i) := h.setEntry _ _

theorem Tame.claim (h : Tame s t) (i : Fin 48) (x : Exchange) : Tame s (t.claim i x) := h.same (by simp [SameRecords])

theorem Tame.conclude (h : Tame s t) (i : Fin 48) (x : Exchange) (c : Conclusion) : Tame s (t.conclude i x c) := by
  unfold State.conclude
  split
  · exact (h.freeEntry i).countDropped _ 1
  split
  · exact h.freeEntry i
  · exact (h.setExchange i _).join _ trivial

theorem Tame.orderConclusions (h : Tame s t) (was : State) : Tame s (State.orderConclusions was t) := by
  unfold State.orderConclusions
  refine Tame.updLanes (f := fun _ r => { r with fifo := orderReferences _ r.fifo }) h fun l => laneTame_fifo _ fun e he => ?_
  simp only [orderReferences, List.mem_append, List.mem_map, List.mem_filter] at he
  rcases he with (he | ⟨_, _, rfl⟩) | ⟨he, _⟩
  · exact .inl ((List.takeWhile_prefix _).subset he)
  · exact .inr trivial
  · exact .inl ((List.dropWhile_suffix _).subset he)

theorem Tame.removeRequest (h : Tame s t) (tag : Nat) : Tame s (t.removeRequest tag) := h.filterFifos _ _

theorem Tame.expire (h : Tame s t) (i : Fin 48) : Tame s (t.expire i) := by
  unfold State.expire
  split
  · split
    · exact (h.removeRequest _).conclude _ _ _
    · exact h.conclude _ _ _
  · exact h.conclude _ _ _
  all_goals exact h

theorem Tame.concluded (h : Tame s t) (i : Fin 48) : Tame s (t.concluded i) := h.same (by simp [SameRecords])

theorem Tame.responderRemoved (h : Tame s t) (i : Fin 48) : Tame s (t.responderRemoved i) := by
  unfold State.responderRemoved
  split
  · exact h.conclude _ _ _
  · exact h.conclude _ _ _
  · exact h.setExchange _ _
  · exact h.freeEntry _
  all_goals exact h

theorem Tame.removeFrom (h : Tame s t) (gone : Lane → Bool) (keepHub : Bool) (i : Fin 48) :
    Tame s (State.removeFrom gone keepHub t i) := by
  unfold State.removeFrom
  split
  · exact h
  split_ifs
  · exact h
  · exact h.freeEntry i
  · exact h.responderRemoved i
  · exact h

/-- A fold of tame changes is tame. -/
theorem Tame.foldl {α : Type} {f : State → α → State} (hf : ∀ t a, Tame t (f t a)) (h : Tame s t) (xs : List α) :
    Tame s (xs.foldl f t) := by
  induction xs generalizing t with
  | nil => exact h
  | cons x xs ih => exact ih (h.trans (hf t x))

theorem Tame.removeExchanges (h : Tame s t) (gone : Lane → Bool) (keepHub : Bool) :
    Tame s (t.removeExchanges gone keepHub) :=
  h.foldl (fun u i => (Tame.refl u).removeFrom gone keepHub i) _

theorem Tame.lockEntry (h : Tame s t) (i : Fin 48) : Tame s (t.lockEntry i) := by
  unfold State.lockEntry
  split
  · exact h
  split_ifs
  · exact h
  · exact h.freeEntry i
  · split
    · exact h.conclude _ _ _
    · exact h.conclude _ _ _
    all_goals exact h
  · exact h

theorem Tame.lockExchanges (h : Tame s t) : Tame s t.lockExchanges := h.foldl (fun u i => (Tame.refl u).lockEntry i) _

theorem Tame.lateSeen (h : Tame s t) (tag : Nat) : Tame s (t.lateSeen tag) := h.same (by simp [SameRecords])

theorem Tame.hubAwaits (h : Tame s t) (tag : Nat) : Tame s (t.hubAwaits tag) := h.same (by simp [SameRecords])

theorem Tame.placeReply (h : Tame s t) (l : Lane) (tag : Nat) (reference : Word) {payload : List Byte}
    (fits : payload.length ≤ Config.maxPayload) : Tame s (t.placeReply l tag reference payload) := h.join l fits

theorem Tame.complete (h : Tame s t) (tag : Nat) {payload : List Byte} (fits : payload.length ≤ Config.maxPayload) :
    Tame s (t.complete tag payload) := by
  unfold State.complete
  split
  · exact h
  split
  · exact (h.freeEntry _).placeReply _ _ _ fits
  · exact h.setExchange _ _
  · exact h.freeEntry _
  all_goals exact h

/-- A reply of a code, a detail and a few bytes of data fits a slot. -/
theorem replyBytes_fits (r : HubResult) (code detail : Nat) {data : List Byte} (h : data.length ≤ 16) :
    (replyBytes r code detail data).length ≤ Config.maxPayload := by
  simp [replyBytes, Config.maxPayload]; omega

theorem Tame.completeJobs (h : Tame s t) (job : Job) (r : HubResult) (detail : Nat) : Tame s (t.completeJobs job r detail) :=
  have hl : Tame s { t with hub := { t.hub with outstanding := t.hub.outstanding.filter fun o => decide (o.job ≠ job) } } :=
    h.same (by simp [SameRecords])
  hl.foldl (fun u o => (Tame.refl u).complete _ (replyBytes_fits r job.code detail (data := []) (Nat.zero_le _))) _

/-! ### Contacts, keys and the panel path -/

theorem Tame.setContact (h : Tame s t) (i : Fin 2) (c : Option Contact) : Tame s (t.setContact i c) :=
  h.same (by simp [SameRecords])

theorem Tame.setKey (h : Tame s t) (k : Fin 16) (r : Key) : Tame s (t.setKey k r) := h.same (by simp [SameRecords])

theorem Tame.setLine (h : Tame s t) (n : Fin 12) (r : Line) : Tame s (t.setLine n r) := h.same (by simp [SameRecords])

theorem Tame.updLines (h : Tame s t) (f : Line → Line) : Tame s (t.updLines f) := h.same (by simp [SameRecords])

theorem Tame.cancelContact (h : Tame s t) (p : Lane → Bool) (i : Fin 2) : Tame s (State.cancelContact p t i) := by
  unfold State.cancelContact
  split
  · split
    · exact (h.placeEvent _ _).setContact _ _
    · exact h
  all_goals exact h

theorem Tame.cancelKey (h : Tame s t) (p : Lane → Bool) (k : Fin 16) : Tame s (State.cancelKey p t k) := by
  unfold State.cancelKey
  split
  · split
    · exact (h.placeEvent _ _).setKey _ _
    · exact h
  · exact h

theorem Tame.cancelInputs (h : Tame s t) (p : Lane → Bool) : Tame s (t.cancelInputs p) :=
  (h.foldl (fun u i => (Tame.refl u).cancelContact p i) _).foldl (fun u k => (Tame.refl u).cancelKey p k) _

theorem Tame.endInputs (h : Tame s t) (p : Lane → Bool) : Tame s (t.endInputs p) := h.same (by simp [SameRecords])

/-- The panel path's own records. -/
theorem Tame.panel (h : Tame s t) (p : Panel) : Tame s { t with panel := p } := h.same (by simp [SameRecords])

/-- The touch router's own records. -/
theorem Tame.touch (h : Tame s t) (x : Touch) : Tame s { t with touch := x } := h.same (by simp [SameRecords])

theorem Tame.captureChange (h : Tame s t) (had : Bool) : Tame s (State.captureChange had t) := by
  unfold State.captureChange
  split_ifs
  · exact h
  · exact (h.raiseAll _).cancelInputs _
  · exact h.raiseAll _

theorem Tame.setActive (h : Tame s t) (table : PaneTable) : Tame s (t.setActive table) := (h.panel _).captureChange _

theorem Tame.applyScrolls (h : Tame s t) : Tame s t.applyScrolls := (h.panel _).completeJobs _ _ _

theorem Tame.applyStaged (h : Tame s t) : Tame s t.applyStaged := by
  unfold State.applyStaged
  split
  · exact h
  · exact ((h.panel _).completeJobs _ _ _).raise _ _

theorem Tame.frameStart (h : Tame s t) : Tame s t.frameStart := ((h.applyScrolls.applyStaged.captureChange _).panel _).panel _

theorem Tame.outputRest (h : Tame s t) : Tame s t.outputRest := h.same (by simp [SameRecords])

/-! ### The combiner and LOCKDOWN -/

theorem Tame.lockPanel (h : Tame s t) : Tame s t.lockPanel := ((h.panel _).completeJobs _ _ _).setActive _

theorem Tame.restLines (h : Tame s t) (p : Domain → Bool) : Tame s (t.restLines p) := h.same (by simp [SameRecords])

theorem Tame.enterLockdown (h : Tame s t) : Tame s t.enterLockdown := by
  have hm : Tame s { t with hub := { t.hub with mode := .lockdown } } := h.same (by simp [SameRecords])
  exact (((hm.filterFifos _ _).lockExchanges.lockPanel.cancelInputs _).restLines _).raiseAll _

theorem Tame.evaluate (h : Tame s t) : Tame s t.evaluate := by
  have hf : Tame s t.formOutput := by
    unfold State.formOutput
    split
    · exact h
    · exact Tame.raise (h.same (by simp [SameRecords])) _ _
  unfold State.evaluate State.lockdownIfDue
  split
  · exact hf.enterLockdown
  · exact hf

theorem Tame.evaluateViol (h : Tame s t) (was : State) : Tame s (State.evaluateViol was t) := by
  unfold State.evaluateViol
  split
  · exact h
  · exact h.evaluate.orderConclusions was

/-! ### Fences and domains -/

theorem laneTame_fenced {l : Lane} (hl : l ≠ .pay) (r : LaneState) : LaneTame l r { r with fenced := true } :=
  ⟨fun _ => .inl, fun ⟨hb, _, _⟩ => ⟨hb, fun _ => rfl, fun e => absurd e hl⟩⟩

theorem Tame.fenceLane (h : Tame s t) {l : Lane} (hl : l ≠ .pay) : Tame s (t.fenceLane l) :=
  ((((((h.updLane (laneTame_fenced hl _)).countDropped l _).filterFifos _ _).removeExchanges _ _).cancelInputs _).raise _ _).raise
    _ _

end
end Sys2Proof.Machine

/-! PROOFS. Violations, domain changes and port accesses keep the records (O50, O60). -/

namespace Sys2Proof.Machine

section
variable {s t : State}

/-! ### Violations -/

/-- A fence leaves its lane fenced (R117). -/
theorem fenceLane_fenced (s : State) (l : Lane) : ((s.fenceLane l).lane l).fenced = true := by
  simp [State.fenceLane]

theorem Tame.autoFence (h : Tame s t) {l : Lane} (hl : l ≠ .pay) : Tame s (t.autoFence l) := by
  have hf : Tame s (if (t.lane l).fenced then t else t.fenceLane l) := by
    split
    · exact h
    · exact h.fenceLane hl
  have fenced : ((if (t.lane l).fenced then t else t.fenceLane l).lane l).fenced = true := by
    split
    · assumption
    · exact fenceLane_fenced t l
  exact (hf.updLane ⟨fun _ => .inl, fun ⟨hb, _, hp⟩ => ⟨hb, fun _ => fenced, hp⟩⟩).evaluateViol t

theorem Tame.violate (h : Tame s t) (l : Lane) : Tame s (t.violate l) := by
  have hv : Tame s (t.updLane l fun r => { r with violations := bump r.violations, tally := bumpByte r.tally }) :=
    h.updLane ⟨fun _ => .inl, fun ⟨⟨h1, h2, _, h4, h5, h6, _, h8, h9⟩, hf⟩ =>
      ⟨⟨h1, h2, min_le_right _ _, h4, h5, h6, bump_le _, h8, h9⟩, hf⟩⟩
  unfold State.violate
  dsimp only
  split
  · next hl => exact hv.autoFence hl.1
  · exact hv

/-! ### Domains -/

theorem Tame.startInit (h : Tame s t) (d : Domain) : Tame s (t.startInit d) :=
  (h.updDom ⟨id, fun _ => Nat.zero_le _, id⟩).updLanes fun l => by
    split
    · exact ⟨fun _ => .inl, id⟩
    · exact ⟨fun _ => .inl, id⟩

theorem Tame.raiseDomain (h : Tame s t) (d : Domain) : Tame s (t.raiseDomain d) := by
  unfold State.raiseDomain
  split
  · exact h
  · exact h.raise _ _

theorem Tame.attend (h : Tame s t) (d : Domain) (set : Byte) : Tame s (t.attend d set) :=
  h.updLanes fun l => by
    split
    · exact ⟨fun _ => .inl, id⟩
    · exact ⟨fun _ => .inl, id⟩

theorem Tame.goUp (h : Tame s t) (d : Domain) : Tame s (t.goUp d) := (h.updDom ⟨id, id, id⟩).raiseDomain d

/-- A clearing keeps a window sound. -/
theorem WindowSound.clear {d : Domain} {m : Memory} (h : WindowSound d m) (p : Nat → Bool) : WindowSound d (m.clear p) :=
  ⟨Memory.clear_wf h.1 p, Memory.clear_below h.2 p⟩

theorem Tame.finishInit (h : Tame s t) (d : Domain) : Tame s (t.finishInit d) := by
  have hi : Tame s ((t.updDom d fun r =>
      { r with window := Memory.clear r.window d.isStateByte, initialising := none, remembered := 0#8 }).updLanes fun l r =>
        if l.domain = d then { r with takeCursor := 0, putCursor := 0, deliveryNumber := 0#16 } else r) :=
    (h.updDom ⟨fun w => w.clear _, id, id⟩).updLanes fun l => by
      split
      · exact ⟨fun _ => .inl, fun ⟨⟨_, _, hc⟩, hf⟩ => ⟨⟨slots_pos l, slots_pos l, hc⟩, hf⟩⟩
      · exact ⟨fun _ => .inl, id⟩
  unfold State.finishInit
  dsimp only
  split
  · exact hi
  · exact (hi.goUp d).attend d _

theorem laneTame_unfenced {l : Lane} {gap : Bool} (r : LaneState) :
    LaneTame l r { r with gapPending := gap, fenced := false, autoFenced := false, tally := 0 } :=
  ⟨fun _ => .inl, fun ⟨⟨h1, h2, _, h4⟩, _⟩ => ⟨⟨h1, h2, Nat.zero_le _, h4⟩, nofun, fun _ => rfl⟩⟩

theorem Tame.removeDomain (h : Tame s t) (d : Domain) : Tame s (t.removeDomain d) := by
  have hv : Tame s (t.endVisit d) := h.same (by simp [SameRecords])
  have hx := (((hv.updDom (d := d) (f := fun r => { r with flags := 0#32 }) ⟨id, id, fun _ => by simp⟩).filterFifos
    (fun l e => decide (l.domain ≠ d) && !e.isRequest fun m => decide (m.sender.domain = d))
    fun h => decide (h.message.sender.domain ≠ d)).removeExchanges (fun l => decide (l.domain = d)) false).updLanes
    (f := fun l r => if l.domain = d then
      { r with gapPending := false, fenced := false, autoFenced := false, tally := 0 } else r) fun l => by
      split
      · exact laneTame_unfenced _
      · exact ⟨fun _ => .inl, id⟩
  have hl := (hx.endInputs fun l => decide (l.domain = d)).restLines fun d' => decide (d' = d)
  unfold State.removeDomain
  dsimp only
  refine (Tame.raiseDomain ?_ d).evaluateViol t
  split
  · exact hl.same (by simp [SameRecords])
  · exact hl

theorem Tame.holdDomain (h : Tame s t) (d : Domain) : Tame s (t.holdDomain d) := (h.updDom ⟨id, id, id⟩).removeDomain d

theorem Tame.releaseDomain (h : Tame s t) (d : Domain) : Tame s (t.releaseDomain d) :=
  ((h.updDom ⟨id, id, id⟩).startInit d).raiseDomain d

theorem Tame.selfRestart (h : Tame s t) (d : Domain) : Tame s (t.selfRestart d) := by
  unfold State.selfRestart
  split
  · exact (h.removeDomain d).startInit d
  · exact (h.removeDomain d).startInit d
  all_goals exact h

/-! ### Ports -/

theorem Tame.nameLanes (h : Tame s t) (d : Domain) (set : Byte) : Tame s (t.nameLanes d set) := by
  unfold State.nameLanes
  split
  · exact h
  split
  · exact h.attend d set
  · exact (h.goUp d).attend d set
  · exact h.updDom ⟨id, id, id⟩
  · exact h

theorem Tame.writeAttention (h : Tame s t) (d : Domain) (value : Word) : Tame s (t.writeAttention d value) := by
  unfold State.writeAttention
  split
  · exact h.selfRestart d
  · exact h.nameLanes d _

theorem Tame.clearFlags (h : Tame s t) (d : Domain) (value : Word) : Tame s (t.clearFlags d value) :=
  h.updDom ⟨id, id, fun hf => by rw [BitVec.toNat_and]; exact lt_of_le_of_lt Nat.and_le_left hf⟩

theorem Tame.clearStray (h : Tame s t) (d : Domain) : Tame s (t.clearStray d) := h.updDom ⟨id, fun _ => Nat.zero_le _, id⟩

theorem Tame.returnData (h : Tame s t) (d : Domain) (w : Word) : Tame s (t.returnData d w) := h.updDom ⟨id, id, id⟩

/-- A write within a window is tame. -/
theorem Tame.writeWindow (h : Tame s t) {d : Domain} {a : Nat} {bs : List Byte}
    (fits : WindowsSound t → a + bs.length ≤ d.windowSize) : Tame s (t.writeWindow d a bs) := by
  refine h.trans ⟨by simp, by simp, by simp, fun w => ⟨fun k => ?_, by simpa using w.fifo, by simpa using w.hub⟩,
    fun w => ⟨by simpa [LevelsBounded] using w.level, by simpa using w.lane, by simpa using w.stray, by simpa using w.flags⟩⟩
  have hw := State.window_writeWindow t d k a bs
  unfold State.window at hw
  rw [hw]
  split
  · next hk => subst hk; exact ⟨Memory.write_wf (w.window k).1 _ _, Memory.write_below (w.window k).2 _ _ (fits w)⟩
  · exact w.window k

/-- What lies in a port's window: sizes, alignment and end (R1). -/
theorem inWindow_iff (d : Domain) (offset size : Nat) : d.inWindow offset size = true ↔
    size ∈ [1, 2, 4] ∧ offset % size = 0 ∧ offset + size ≤ d.windowSize := by
  simp [Domain.inWindow, and_assoc, or_assoc]

theorem Tame.storeWindow (h : Tame s t) {d : Domain} {offset : Nat} {bs : List Byte}
    (some : 0 < bs.length) (fits : offset + bs.length ≤ d.windowSize) : Tame s (t.storeWindow d offset bs) := by
  unfold State.storeWindow
  split
  · exact h.writeWindow fun _ => by rw [List.length_tail]; omega
  · exact h.writeWindow fun _ => fits

theorem Tame.writeRegister (h : Tame s t) (d : Domain) (value : Word) (r : PortRegister) :
    Tame s (t.writeRegister d value r) := by
  cases r with
  | attention => exact h.writeAttention d value
  | acknowledge => exact h.clearFlags d value
  | status => exact h
  | identity => exact h.clearStray d

theorem Tame.access (h : Tame s t) (d : Domain) (offset size : Nat) (op : PortOp) : Tame s (t.access d offset size op) := by
  unfold State.access
  split
  · next hw =>
    obtain ⟨hs, _, hf⟩ := (inWindow_iff d offset size).1 hw
    have pos : 0 < size := by rcases hs with _ | ⟨_, _ | ⟨_, _ | ⟨_, ⟨⟩⟩⟩⟩ <;> decide
    split
    · exact h.returnData d _
    · exact h.storeWindow (by simpa using pos) (by simpa using hf)
  split
  · split
    · exact h.returnData d _
    · exact h.writeRegister d _ _
  · have hs : Tame s (t.updDom d fun r => { r with stray := bumpByte r.stray }) :=
      h.updDom ⟨id, fun _ => min_le_right _ _, id⟩
    unfold State.strayAccess
    split
    · exact hs.returnData d _
    · exact hs

end
end Sys2Proof.Machine

/-! PROOFS. Takes and deliveries keep the records (O50, O60). -/

namespace Sys2Proof.Machine

section
variable {s t : State}

/-! ### Takes -/

/-- An outbound slot of a lane lies in its domain's window (TABLE A). -/
theorem outSlot_fits {l : Lane} {i : Nat} (h : i < l.slots) : l.outSlot i + 512 ≤ l.domain.windowSize := by
  cases l <;> simp [Lane.slots, Lane.outSlot, Lane.domain, Domain.windowSize] at * <;> omega

/-- An inbound slot of a lane lies in its domain's window (TABLE A). -/
theorem inSlot_fits {l : Lane} {i : Nat} (h : i < l.slots) : l.inSlot i + 512 ≤ l.domain.windowSize := by
  cases l <;> simp [Lane.slots, Lane.inSlot, Lane.domain, Domain.windowSize] at * <;> omega

theorem Tame.writeOutcome (h : Tame s t) {l : Lane} {slot : Nat} (hs : slot < l.slots) (o : TakeOutcome) (tag : Nat) :
    Tame s (t.writeOutcome l slot o tag) := by
  have := outSlot_fits hs
  refine ((h.writeWindow fun _ => ?_).writeWindow fun _ => ?_).writeWindow fun _ => ?_
  · rw [bytesOf_length]; omega
  · rw [bytesOf_length]; omega
  · rw [List.length_singleton]; omega

theorem Tame.refuseTake (h : Tame s t) {l : Lane} {slot : Nat} (hs : slot < l.slots) (m : Slot) (o : TakeOutcome) :
    Tame s (t.refuseTake l slot m o) := by
  have hr := Tame.raise ((h.writeOutcome hs o m.refusedTag).updLane (l := l) (f := fun r => { r with refused := bump r.refused })
    ⟨fun _ => .inl, fun ⟨⟨h1, h2, h3, h4, h5, _, h7⟩, hf⟩ => ⟨⟨h1, h2, h3, h4, h5, bump_le _, h7⟩, hf⟩⟩) l.domain (.outcome l)
  unfold State.refuseTake
  dsimp only
  have hl := Tame.ite (p := o = .late) (fun _ => hr.lateSeen m.tag) fun _ => hr
  exact Tame.ite (fun _ => hl.violate l) fun _ => hl

theorem Tame.afterTake (h : Tame s t) (l : Lane) (slot : Nat) (first : Bool) : Tame s (t.afterTake l slot first) := by
  have hc : Tame s (t.updLane l fun r => { r with takeCursor := (slot + 1) % l.slots }) :=
    h.updLane ⟨fun _ => .inl, fun ⟨⟨_, hb⟩, hf⟩ => ⟨⟨Nat.mod_lt _ (slots_pos l), hb⟩, hf⟩⟩
  exact hc.same (by simp [SameRecords, State.afterTake])

theorem Tame.heldBack (h : Tame s t) {l : Lane} {slot : Nat} (hs : slot < l.slots) : Tame s (t.heldBack l slot) := by
  have hc : Tame s (t.updLane l fun r => { r with takeCursor := slot, bufferWait := true }) :=
    h.updLane ⟨fun _ => .inl, fun ⟨⟨_, hb⟩, hf⟩ => ⟨⟨hs, hb⟩, hf⟩⟩
  exact hc.same (by simp [SameRecords, State.heldBack, State.noVisit])

theorem Tame.spend (h : Tame s t) (route : Option Nat) : Tame s (t.spend route) := by
  cases route with
  | none => exact h
  | some i =>
    refine h.routes fun hb r hr b hrb => ?_
    obtain ⟨k, hk, rfl⟩ := List.mem_iff_getElem.1 hr
    rw [List.getElem_modify] at hrb
    split at hrb
    · obtain ⟨b', hb', rfl⟩ := Option.map_eq_some_iff.1 hrb
      have := hb _ (List.getElem_mem _) _ hb'
      dsimp only; omega
    · exact hb _ (List.getElem_mem _) _ hrb

theorem Tame.joinMessage (h : Tame s t) (r : Recipient) {x : Held} (hx : x.message.payload.length ≤ Config.maxPayload) :
    Tame s (t.joinMessage r x) := by
  cases r with
  | hub => exact h.hubFifo fun y hy => (List.mem_append.1 hy).imp_right fun hy => by rw [List.mem_singleton.1 hy]; exact hx
  | board l =>
    unfold State.joinMessage
    dsimp only
    split
    · exact (h.countDropped l 1).clearBufferWait
    · exact h.join l hx

theorem Tame.admitted (h : Tame s t) {l : Lane} {slot : Nat} (hs : slot < l.slots) (tag : Nat) :
    Tame s (t.admitted l slot tag) :=
  (h.writeOutcome hs .accepted tag).updLane
    ⟨fun _ => .inl, fun ⟨⟨h1, h2, h3, h4, _, h6⟩, hf⟩ => ⟨⟨h1, h2, h3, h4, bump_le _, h6⟩, hf⟩⟩

/-- What a take reads of a slot's payload fits a slot (R22). -/
theorem slotMessage_fits (s : State) (l : Lane) (slot : Nat) :
    (s.slotMessage l slot).payload.length ≤ Config.maxPayload := by
  simp [State.slotMessage, readSlot]

theorem Tame.acceptRequest (h : Tame s t) {l : Lane} {slot : Nat} (hs : slot < l.slots) {m : Slot}
    (hm : m.payload.length ≤ Config.maxPayload) (a : Address) (route : Option Nat) (b : Fin 30) :
    Tame s (t.acceptRequest l slot m a route b) := by
  unfold State.acceptRequest
  split
  · exact h
  dsimp only
  refine Tame.admitted ?_ hs _
  split
  · exact (((h.spend route).claim _ _).joinMessage _ hm).conclude _ _ _
  · exact ((h.spend route).claim _ _).joinMessage _ hm

theorem Tame.acceptNotice (h : Tame s t) {l : Lane} {slot : Nat} (hs : slot < l.slots) {m : Slot}
    (hm : m.payload.length ≤ Config.maxPayload) (a : Address) (route : Nat) (b : Fin 30) :
    Tame s (t.acceptNotice l slot m a route b) :=
  ((h.spend _).joinMessage _ hm).admitted hs _

theorem Tame.acceptAnswer (h : Tame s t) {l : Lane} {slot : Nat} (hs : slot < l.slots) {m : Slot}
    (hm : m.payload.length ≤ Config.maxPayload) (i : Fin 48) (x : Exchange) (b : Fin 30) :
    Tame s (t.acceptAnswer l slot m i x b) :=
  ((h.freeEntry i).joinMessage _ hm).admitted hs _

theorem Tame.takeFor (h : Tame s t) (l : Lane) (first : Bool) : Tame s (t.takeFor l first) := by
  refine takeFor_induction ?_ ?_ ?_ ?_ ?_ ?_
  · have hw : Tame s (t.updLane l fun r => { r with scanWanted := false }) := h.updLane ⟨fun _ => .inl, id⟩
    exact hw.same (by simp [SameRecords, State.noVisit])
  · exact fun _ m o hs _ => (h.refuseTake hs m o).afterTake _ _ _
  · exact fun _ hs => h.heldBack hs
  · rintro _ _ a route b hs rfl _; exact (h.acceptRequest hs (slotMessage_fits _ _ _) a route b).afterTake _ _ _
  · rintro _ _ a route b hs rfl _; exact (h.acceptNotice hs (slotMessage_fits _ _ _) a route b).afterTake _ _ _
  · rintro _ _ i x b hs rfl _; exact (h.acceptAnswer hs (slotMessage_fits _ _ _) i x b).afterTake _ _ _

/-! ### Deliveries -/

/-- The bytes of an envelope whose payload fits fill a slot (R22). -/
theorem Envelope.bytes_length (e : Envelope) (n : Half) (h : e.payload.length ≤ Config.maxPayload) :
    (e.bytes n).length = 512 := by
  simp [Envelope.bytes, Config.maxPayload] at h ⊢; omega

/-- The envelope of an entry that fits has a payload that fits. -/
theorem envelopeOf_fits (s : State) (l : Lane) {e : Entry} (h : e.Fits) :
    (s.envelopeOf l e).payload.length ≤ Config.maxPayload := by
  cases e with
  | message x => exact h
  | reply x => exact h
  | cell event _ => cases event <;> simp [State.envelopeOf, InputEvent.envelope, InputEvent.payload, Config.maxPayload]
  | conclusion i => simp only [State.envelopeOf]; split <;> simp [Exchange.envelope]

theorem Tame.tellDelivered (h : Tame s t) (e : Entry) : Tame s (t.tellDelivered e) := by
  unfold State.tellDelivered State.requestDelivered
  split
  · split
    · split
      · exact h
      · split
        · exact h.setExchange _ _
        all_goals exact h
    · exact h
  · exact h
  · exact h
  · exact h.concluded _

theorem Tame.deliver (h : Tame s t) {l : Lane} {e : Entry} {slot : Nat} (he : e ∈ (t.lane l).fifo) (hs : slot < l.slots) :
    Tame s (t.deliver l e slot) := by
  unfold State.deliver
  dsimp only
  refine Tame.tellDelivered (Tame.raise (Tame.removeAt (Tame.updLane (h.writeWindow fun w => ?_) ?_) _ _) _ _) e
  · rw [Envelope.bytes_length _ _ (envelopeOf_fits t l (w.fifo l e he))]; exact inSlot_fits hs
  · exact ⟨fun _ => .inl, fun ⟨⟨h1, _, h3⟩, hf⟩ => ⟨⟨h1, Nat.mod_lt _ (slots_pos l), h3⟩, hf⟩⟩

end
end Sys2Proof.Machine

/-! PROOFS. The hub service, the route tables, the settings and the devices keep the records (O50, O60). -/

namespace Sys2Proof.Machine

section
variable {s t : State}

/-! ### The hub service -/

theorem Tame.hubTake (h : Tame s t) (m : Message) : Tame s (t.hubTake m) :=
  (h.hubFifo fun _ hx => .inl (List.mem_of_mem_tail hx)).clearBufferWait.hubAwaits m.tag

theorem Tame.finish (h : Tame s t) (m : Message) (code : Nat) (r : HubResult) (detail : Nat) {data : List Byte}
    (fits : data.length ≤ 16 := by exact Nat.zero_le _) : Tame s (t.finish m code r detail data) :=
  h.complete _ (replyBytes_fits r code detail fits)

theorem Tame.chargeResult (h : Tame s t) (r : HubResult) (l : Lane) : Tame s (t.chargeResult r l) :=
  Tame.ite (fun _ => h.violate l) fun _ => h

theorem Tame.addOutstanding (h : Tame s t) (job : Job) (m : Message) : Tame s (t.addOutstanding job m) :=
  h.same (by simp [SameRecords])

/-- A request whose execution is tame is served tamely. -/
theorem Tame.serve {q : HubRequest}
    (run : ∀ u m, q.judge u m = none → Tame s u → Tame s (q.run u m)) : Tame s (q.serve s) :=
  serve_induction (Tame.refl s)
    (fun m r _ _ => (((Tame.refl s).hubTake m).chargeResult r m.sender).finish m q.code r _)
    fun m _ hj => run _ m hj ((Tame.refl s).hubTake m)

theorem Tame.setMode (h : Tame s t) (m : HubMode) : Tame s (t.setMode m) :=
  Tame.raiseAll (h.same (by simp [SameRecords])) _

/-! ### Route tables -/

/-- A budget that an image gives stands at its burst (R54). -/
theorem imageRoute_level {e : List Byte} {now : Nat} {r : Route} (h : imageRoute e now = some r) :
    ∀ b, r.budget = some b → b.level ≤ b.burst := by
  unfold imageRoute at h
  split at h
  · next budget _ _ hb =>
    split at h
    · cases h
      rintro b rfl
      unfold imageBudget at hb
      split_ifs at hb <;> cases hb
      exact le_rfl
    · cases h
  · cases h

/-- The budgets of a judged image stand at their bursts (R54). -/
theorem judgeEntries_level {now : Nat} {done : List Route} {es : List (List Byte)} {table : List Route}
    (h : judgeEntries now done es = .ok table) (hd : ∀ r ∈ done, ∀ b, r.budget = some b → b.level ≤ b.burst) :
    ∀ r ∈ table, ∀ b, r.budget = some b → b.level ≤ b.burst := by
  induction es generalizing done with
  | nil => cases h; exact hd
  | cons e rest ih =>
    unfold judgeEntries at h
    split at h
    · cases h
    · next r hr =>
      split at h
      · cases h
      · refine ih h fun x hx => ?_
        rcases List.mem_append.1 hx with hx | hx
        · exact hd x hx
        · rw [List.mem_singleton.1 hx]; exact imageRoute_level hr

theorem Tame.loadRoutesCompletion (h : exec .loadRoutesCompletion s = .next t) : Tame s t := by
  simp only [exec, execLoadRoutesCompletion] at h
  split at h
  · cases h; exact Tame.refl s
  · next job _ =>
    have hl : Tame s { s with hub := { s.hub with loading := none } } := (Tame.refl s).same (by simp [SameRecords])
    split at h
    · next table hj =>
      cases h
      have ht : ∀ r ∈ table, ∀ b, r.budget = some b → b.level ≤ b.burst := by
        unfold RouteImage.judge at hj
        split at hj
        · cases hj
        · exact judgeEntries_level hj (by simp)
      have hr := (hl.routes (rs := table) fun _ => ht).same (u := { s with
        routes := table, hub := { s.hub with loading := none, routesLoaded := true } }) (by simp [SameRecords])
      exact (Tame.ite (fun _ => hr.setMode _) fun _ => hr).completeJobs _ _ _
    · cases h; exact hl.completeJobs _ _ _

theorem Tame.refill (s : State) (k : Nat) : Tame s { s with routes := s.routes.modify k fun r =>
    { r with budget := r.budget.map fun b => if b.due s.now then b.refill s.now else b } } := by
  refine (Tame.refl s).routes fun hb r hr b hrb => ?_
  obtain ⟨i, hi, rfl⟩ := List.mem_iff_getElem.1 hr
  rw [List.getElem_modify] at hrb
  split at hrb
  · obtain ⟨b', hb', rfl⟩ := Option.map_eq_some_iff.1 hrb
    split
    · exact min_le_right _ _
    · exact hb _ (List.getElem_mem _) _ hb'
  · exact hb _ (List.getElem_mem _) _ hrb

/-! ### Settings, lines and devices -/

theorem Tame.restore (h : Tame s t) (l : Lane) : Tame s (t.restore l) := by
  have hc : Tame s (t.updLane l fun r => { r with fenced := false, autoFenced := false, tally := 0 }) :=
    h.updLane (laneTame_unfenced _)
  have ht : Tame s (t.updLane l fun r => { r with tally := 0 }) :=
    h.updLane ⟨fun _ => .inl, fun ⟨⟨h1, h2, _, h4⟩, hf⟩ => ⟨⟨h1, h2, Nat.zero_le _, h4⟩, hf⟩⟩
  exact Tame.ite (fun _ => ((hc.raise _ _).raise _ _).evaluateViol t) fun _ => ht

theorem byteAt_le (p : List Byte) (i : Nat) : byteAt p i ≤ 255 := by
  unfold byteAt; omega

theorem Tame.hold (h : Tame s t) (d : Domain) : Tame s (t.hold d) :=
  Tame.ite (fun _ => Tame.completeJobs (h.updDom ⟨id, id, id⟩) _ _ _) fun _ => h.holdDomain d

theorem laneTame_clearCounters {l : Lane} (r : LaneState) : LaneTame l r r.clearCounters := by
  refine ⟨fun _ => .inl, fun ⟨⟨h1, h2, h3, h4, _⟩, hf⟩ => ⟨⟨h1, h2, h3, h4, ?_⟩, hf⟩⟩
  simp [LaneState.clearCounters]

theorem laneTame_restart {l : Lane} (r : LaneState) : LaneTame l r r.restart := by
  refine ⟨fun _ he => (nomatch he), fun ⟨⟨h1, h2, _, h4, _⟩, _⟩ => ⟨⟨h1, h2, Nat.zero_le _, h4, ?_⟩, nofun, fun _ => rfl⟩⟩
  simp [LaneState.restart, LaneState.clearCounters]

theorem Tame.clearHub (h : Tame s t) : Tame s t.clearHub := by
  have hl := ((h.updLanes (f := fun _ r => r.restart) fun l => laneTame_restart _).hubFifo (q := []) nofun).routes
    (rs := []) (by simp)
  have hs := Tame.same hl (u := { (State.dropExchanges
      { t.updLanes (fun _ r => r.restart) with hub := Hub.reset, routes := [] }) with
    scanner := { t.scanner with visit := none }, panel := { t.panel with staged := none, scrolls := [] } })
    (by simp [SameRecords, State.dropExchanges, Hub.reset])
  exact ((hs.setActive defaultTable).endInputs fun _ => true).touch _

theorem Tame.evaluateMismatch (h : Tame s t) (was : Bool) (n : Fin 12) : Tame s (State.evaluateMismatch was n t) :=
  Tame.ite (fun _ => h) fun _ => h.evaluate

theorem Tame.tellOwner (h : Tame s t) (n : Fin 12) (level : Bool) : Tame s (t.tellOwner n level) := by
  unfold State.tellOwner
  dsimp only
  split
  · exact h
  · exact Tame.ite (fun _ => Tame.ite (fun _ => (h.raise _ _).placeEvent _ _) fun _ => h.raise _ _) fun _ => h

theorem Tame.filteredChange (h : Tame s t) (n : Fin 12) (level : Bool) : Tame s (t.filteredChange n level) :=
  ((h.setLine _ _).tellOwner _ _).evaluateMismatch _ _

theorem Tame.settle (h : Tame s t) (n : Fin 12) (level : Bool) : Tame s (t.settle n level) :=
  (h.setLine _ _).evaluateMismatch _ _

theorem Tame.sampleLine (h : Tame s t) (levels : BitVec 12) (n : Fin 12) : Tame s (State.sampleLine levels t n) := by
  unfold State.sampleLine
  dsimp only
  split
  · exact h
  · exact h.setLine _ _
  · exact Tame.ite (fun _ => h.setLine _ _) fun _ => Tame.ite (fun _ => h.setLine _ _) fun _ => h.settle _ _
  · exact Tame.ite (fun _ => h.setLine _ _) fun _ => Tame.ite (fun _ => h.setLine _ _) fun _ => h.filteredChange _ _

theorem Tame.setFrameMode (h : Tame s t) (m : FrameMode) : Tame s (t.setFrameMode m) := ((h.panel _).raiseAll _).evaluate

theorem Tame.produce (h : Tame s t) (owner : Option Lane) (e : InputEvent) : Tame s (t.produce owner e) := by
  cases owner with
  | none => exact h
  | some l => exact h.placeEvent l e

theorem Tame.beginContact (h : Tame s t) (i : Fin 2) (p : Placement) : Tame s (t.beginContact i p) :=
  (h.produce _ _).setContact _ _

theorem Tame.takeContact (h : Tame s t) (c : RawContact) : Tame s (t.takeContact c) := by
  unfold State.takeContact
  split
  · unfold State.touchContact
    split
    · exact h.beginContact _ _
    · exact h
    · exact h
    · exact h
    · exact ((h.produce _ _).setContact _ _).beginContact _ _
    · exact (h.produce _ _).setContact _ _
    · exact (h.produce _ _).setContact _ _
    · exact h
  · exact h

theorem Tame.takeReport (h : Tame s t) (report : List RawContact) : Tame s (t.takeReport report) :=
  h.foldl (fun u c => (Tame.refl u).takeContact c) _

theorem Tame.endRead (h : Tame s t) (low : Bool) : Tame s (t.endRead low) := h.same (by simp [SameRecords, State.endRead])

theorem Tame.dropReport (h : Tame s t) : Tame s t.dropReport :=
  Tame.raise (h.updLane ⟨fun _ => .inl, fun ⟨⟨h1, h2, h3, h4, h5, h6, h7, h8, _⟩, hf⟩ =>
    ⟨⟨h1, h2, h3, h4, h5, h6, h7, h8, bump_le _⟩, hf⟩⟩) _ _

theorem Tame.acceptKey (h : Tame s t) (k : Fin 16) : Tame s (t.acceptKey k) :=
  Tame.ite (fun _ => (h.produce _ _).setKey _ _) fun _ => (h.produce _ _).setKey _ _

theorem Tame.senseKey (h : Tame s t) (down : BitVec 16) (k : Fin 16) : Tame s (State.senseKey down t k) :=
  Tame.ite (fun _ => h.setKey _ _) fun _ => Tame.ite (fun _ => h.setKey _ _) fun _ => h.acceptKey k

end
end Sys2Proof.Machine

/-! PROOFS. Every command but a reset keeps the records (O50, O60). -/

namespace Sys2Proof.Machine

/-! ## The commands are tame -/

/-- The port commands. -/
theorem Tame.portCommand {s t : State} {d : Domain} (h : Tame s t) : Tame s (if s.portOpen d then t else s) :=
  Tame.ite (fun _ => h) fun _ => Tame.refl s

section
variable {s t : State}

theorem Tame.portAccess {d : Domain} {offset size : Nat} {op : PortOp}
    (h : exec (.portAccess d offset size op) s = .next t) : Tame s t := by
  simp only [exec, execPortAccess] at h
  split at h
  · split at h
    · cases h; exact (Tame.refl s).returnData d _
    · cases h; exact Tame.refl s
  · split at h
    · cases h; exact (Tame.refl s).access d offset size op
    · cases h; exact Tame.refl s

theorem Tame.boardInitialisationComplete {d : Domain} (h : exec (.boardInitialisationComplete d) s = .next t) : Tame s t := by
  simp only [exec, execBoardInitialisationComplete] at h
  split at h
  · cases h; exact Tame.refl s
  · cases h; exact (Tame.refl s).finishInit d

theorem Tame.take (h : exec .take s = .next t) : Tame s t := by
  refine take_induction h (Tame.refl s) fun l first _ => ?_
  have hv : Tame s (s.visiting l first) := Tame.ite (fun _ => (Tame.refl s).same (by simp [SameRecords])) fun _ => Tame.refl s
  exact hv.takeFor l first

theorem Tame.delivery {l : Lane} (h : exec (.delivery l) s = .next t) : Tame s t := by
  simp only [exec, execDelivery] at h
  split at h
  · cases h; exact Tame.refl s
  split at h
  · cases h; exact Tame.refl s
  · next e rest hf =>
    split at h
    · cases h; exact (Tame.refl s).updLane ⟨fun _ => .inl, id⟩
    · next slot hs =>
      cases h
      obtain ⟨k, -, rfl, -⟩ := (searchBoard_eq_some _ _ _ _).1 hs
      exact (Tame.refl s).deliver (by simp [hf]) (Nat.mod_lt _ (slots_pos l))

theorem Tame.panelCommand {c : Instr} (hc : c ∈ [.appFrameStart, .videoLoss, .freeRunRowSlot, .freeRunFrameEnd])
    (h : exec c s = .next t) : Tame s t := by
  have hb : Tame s s.beginPanelEvent := (Tame.refl s).panel _
  fin_cases hc <;> dsimp only [exec] at h
  · simp only [execAppFrameStart] at h
    split at h
    · cases h; exact Tame.refl s
    split at h
    · cases h; exact (hb.outputRest.panel _).frameStart
    · cases h; exact ((hb.setFrameMode _).panel _).frameStart
  · cases h; exact Tame.ite (fun _ => (hb.outputRest.setFrameMode _).frameStart.panel _) fun _ => Tame.refl s
  · cases h; exact Tame.ite (fun _ => (hb.panel _).panel _) fun _ => Tame.refl s
  · cases h; exact Tame.ite (fun _ => hb.frameStart.panel _) fun _ => Tame.refl s

theorem Tame.holdLimitDrop {l : Lane} {place : Nat} (h : exec (.holdLimitDrop l place) s = .next t) : Tame s t := by
  simp only [exec, execHoldLimitDrop] at h
  split at h <;> cases h
  · exact ((Tame.refl s).removeAt l place).countDropped l 1
  · exact Tame.refl s

theorem Tame.eventCellDrop {l : Lane} {place : Nat} (h : exec (.eventCellDrop l place) s = .next t) : Tame s t := by
  simp only [exec, execEventCellDrop] at h
  split at h <;> cases h
  · exact ((Tame.refl s).removeAt l place).loseEvent l _
  · exact Tame.refl s

theorem Tame.unknownRequestCode (h : exec .unknownRequestCode s = .next t) : Tame s t := by
  simp only [exec, execUnknownRequestCode] at h
  split at h
  · cases h; exact Tame.refl s
  · split at h <;> cases h
    · exact ((Tame.refl s).hubTake _).finish _ _ _ _
    · exact Tame.refl s

theorem Tame.appInputRow {px : List Pixel} (h : exec (.appInputRow px) s = .next t) : Tame s t := by
  simp only [exec, execAppInputRow] at h
  (repeat' split at h) <;> cases h
  · exact Tame.refl s
  · exact Tame.refl s
  · exact (((Tame.refl s).panel _).panel _).panel _
  · exact Tame.refl s

theorem Tame.reportReadyFall (h : exec .reportReadyFall s = .next t) : Tame s t := by
  simp only [exec, execReportReadyFall] at h
  (repeat' split at h) <;> cases h
  · exact Tame.refl s
  all_goals exact (Tame.refl s).touch _

theorem Tame.touchReadCompletion {report : Option (List RawContact)} {low : Bool}
    (h : exec (.touchReadCompletion report low) s = .next t) : Tame s t := by
  simp only [exec, execTouchReadCompletion] at h
  split at h <;> cases h
  · exact Tame.refl s
  · exact (Tame.refl s).touch _
  · exact (Tame.refl s).dropReport.endRead low
  all_goals exact ((Tame.refl s).takeReport _).endRead low

theorem Tame.keySense {down : BitVec 16} (h : exec (.keySense down) s = .next t) : Tame s t := by
  simp only [exec, execKeySense] at h
  split at h <;> cases h
  · exact Tame.refl s
  · exact (Tame.refl s).foldl (fun u k => (Tame.refl u).senseKey down k) _

theorem Tame.keyChangeAccepted {k : Fin 16} (h : exec (.keyChangeAccepted k) s = .next t) : Tame s t := by
  simp only [exec, execKeyChangeAccepted] at h
  split at h <;> cases h
  · exact (Tame.refl s).acceptKey k
  · exact Tame.refl s

theorem Tame.lineSample {levels : BitVec 12} (h : exec (.lineSample levels) s = .next t) : Tame s t := by
  simp only [exec, execLineSample] at h
  have hf : Tame s ((List.finRange 12).foldl (State.sampleLine levels) s) :=
    (Tame.refl s).foldl (fun u n => (Tame.refl u).sampleLine levels n) _
  split at h
  · cases h; exact Tame.refl s
  · rw [← Host.Outcome.next.inj h]; exact hf

theorem Tame.filteredChangeCommand {n : Fin 12} (h : exec (.filteredChange n) s = .next t) : Tame s t := by
  simp only [exec, execFilteredChange] at h
  split at h <;> cases h
  · exact (Tame.refl s).filteredChange _ _
  all_goals exact Tame.refl s

theorem Tame.settlingEnd {n : Fin 12} (h : exec (.settlingEnd n) s = .next t) : Tame s t := by
  simp only [exec, execSettlingEnd] at h
  split at h <;> cases h
  · exact (Tame.refl s).settle _ _
  all_goals exact Tame.refl s

/-- Every command but a reset is tame. -/
theorem exec_tame {c : Instr} (hc : c.isReset = false) (h : exec c s = .next t) : Tame s t := by
  have h0 := Tame.refl s
  cases c
  case powerOnReset => cases hc
  case pinReset => cases hc
  case resetEnd => cases hc
  case portAccess => exact Tame.portAccess h
  case attentionLanes d v => cases h; exact Tame.portCommand (h0.writeAttention d v)
  case selfAnnouncedRestart d => cases h; exact Tame.portCommand (h0.selfRestart d)
  case boardInitialisationComplete => exact Tame.boardInitialisationComplete h
  case acknowledge d v => cases h; exact Tame.portCommand (h0.clearFlags d v)
  case identityWrite d _ => cases h; exact Tame.portCommand (h0.clearStray d)
  case statusWrite => cases h; exact h0
  case take => exact Tame.take h
  case refill k => cases h; exact Tame.refill s k
  case delivery => exact Tame.delivery h
  case holdLimitDrop => exact Tame.holdLimitDrop h
  case eventCellDrop => exact Tame.eventCellDrop h
  case expiry i => cases h; exact Tame.ite (fun _ => h0.expire i) fun _ => h0
  case unknownRequestCode => exact Tame.unknownRequestCode h
  case loadRoutes => cases h; exact Tame.serve fun _ m _ hu => Tame.addOutstanding (hu.same (by simp [SameRecords])) _ m
  case loadRoutesCompletion => exact Tame.loadRoutesCompletion h
  case setPanes => cases h; exact Tame.serve fun _ m _ hu => ((hu.panel _).completeJobs _ _ _).addOutstanding _ m
  case scrollPane => cases h; exact Tame.serve fun _ m _ hu => (hu.panel _).addOutstanding _ m
  case setCalibration => cases h; exact Tame.serve fun _ m _ hu => (hu.touch _).finish m _ _ _
  case setFocus => cases h; exact Tame.serve fun _ m _ hu => (hu.touch _).finish m _ _ _
  case setLineMap => cases h; exact Tame.serve fun _ m _ hu => ((hu.setLine _ _).evaluateMismatch _ _).finish m _ _ _
  case setCombiner =>
    cases h; exact Tame.serve fun _ m _ hu => (Tame.evaluate (hu.same (by simp [SameRecords]))).finish m _ _ _
  case driveLine => cases h; exact Tame.serve fun _ m _ hu => (hu.setLine _ _).finish m _ _ _
  case driveLinePulse => cases h; exact Tame.serve fun _ m _ hu => (hu.setLine _ _).finish m _ _ _
  case pulseEnd n => cases h; exact Tame.ite (fun _ => h0.setLine _ _) fun _ => h0
  case setNotices => cases h; exact Tame.serve fun _ m _ hu => Tame.finish (hu.updDom ⟨id, id, id⟩) m _ _ _
  case domainResetHold => cases h; exact Tame.serve fun _ m _ hu => (hu.hold _).finish m _ _ _
  case domainResetRelease =>
    cases h; exact Tame.serve fun _ m _ hu => ((hu.releaseDomain _).completeJobs _ _ _).finish m _ _ _
  case domainResetPulse =>
    cases h; exact Tame.serve fun _ m _ hu => Tame.addOutstanding ((hu.holdDomain _).updDom ⟨id, id, id⟩) _ m
  case pulseRelease d => cases h; exact Tame.ite (fun _ => (h0.releaseDomain d).completeJobs _ _ _) fun _ => h0
  case fenceLane =>
    cases h
    refine Tame.serve fun u m hj hu => ?_
    have hl : laneAtByte m.payload 2 ≠ .pay := by
      obtain ⟨-, -, -, -, hr⟩ := judge_eq_none hj
      intro e; simp [fenceLaneRequest, e] at hr
    exact (Tame.ite (fun _ => hu) fun _ => hu.fenceLane hl).finish m _ _ _
  case restoreLane => cases h; exact Tame.serve fun _ m _ hu => (hu.restore _).finish m _ _ _
  case setViolationLimit =>
    cases h
    exact Tame.serve fun _ m _ hu => Tame.finish (hu.updLane ⟨fun _ => .inl, fun ⟨⟨h1, h2, _, _, h5⟩, hf⟩ =>
      ⟨⟨h1, h2, Nat.zero_le _, byteAt_le _ _, h5⟩, hf⟩⟩) m _ _ _
  case readCounters =>
    cases h; exact Tame.serve fun _ m _ hu => (hu.updLane (laneTame_clearCounters _)).finish m _ _ _ (by simp [countersOf])
  case status => cases h; exact Tame.serve fun _ m _ hu => hu.finish m _ _ _ (by simp [State.statusData])
  case resume => cases h; exact Tame.serve fun _ m _ hu => (hu.setMode _).finish m _ _ _
  case restartHub =>
    cases h
    exact Tame.serve fun _ m _ hu => (hu.clearHub.evaluate.raiseAll _).placeReply _ _ _ (replyBytes_fits _ _ _ (Nat.zero_le _))
  case appFrameStart => exact Tame.panelCommand (by decide) h
  case appInputRow => exact Tame.appInputRow h
  case videoLoss => exact Tame.panelCommand (by decide) h
  case freeRunRowSlot => exact Tame.panelCommand (by decide) h
  case freeRunFrameEnd => exact Tame.panelCommand (by decide) h
  case reportReadyFall => exact Tame.reportReadyFall h
  case touchReadCompletion => exact Tame.touchReadCompletion h
  case keySense => exact Tame.keySense h
  case keyChangeAccepted => exact Tame.keyChangeAccepted h
  case lineSample => exact Tame.lineSample h
  case filteredChange => exact Tame.filteredChangeCommand h
  case settlingEnd => exact Tame.settlingEnd h

end
end Sys2Proof.Machine

/-! PROOFS. The invariants through the resets, and the part in reset (O49, O50, O60). -/

namespace Sys2Proof.Machine

/-! ## Resets -/

section
variable {s t : State}

/-- A lane after reset is within its ranges. -/
theorem laneSound_reset (l : Lane) : LaneSound l LaneState.reset := by
  refine ⟨?_, nofun, fun _ => rfl⟩
  have := slots_pos l
  simp [LaneBounded, LaneState.reset, this]

@[simp] theorem inResetWith_lane (s : State) (a p r : Memory) (now : Nat) (l : Lane) :
    (s.inResetWith a p r now).lane l = LaneState.reset := by
  simp [State.inResetWith, State.lane]

theorem inResetWith_windows {a p r : Memory} {now : Nat} (ha : WindowSound .app a) (hp : WindowSound .pay p)
    (hr : WindowSound .rad r) : WindowsSound (s.inResetWith a p r now) := by
  refine ⟨fun d => ?_, fun l e he => ?_, nofun⟩
  · cases d
    · exact ha
    · exact hp
    · exact hr
  · rw [inResetWith_lane] at he; cases he

theorem inResetWith_ranges {a p r : Memory} {now : Nat} : RangesSound (s.inResetWith a p r now) := by
  refine ⟨nofun, fun l => ?_, fun d => ?_, fun d => ?_⟩
  · rw [inResetWith_lane]; exact laneSound_reset l
  · cases d <;> exact Nat.zero_le _
  · cases d <;> exact (by decide : (0#32).toNat < 2 ^ 25)

/-- After the mark of the reset is taken back, the end of a reset is tame. -/
theorem tame_resetEnd {low : Bool} (h : exec (.resetEnd low) s = .next t) :
    s.inReset = false ∧ t = s ∨ s.inReset = true ∧ Tame { s with inReset := false } t := by
  dsimp only [exec] at h
  unfold execResetEnd at h
  split at h
  · next hr =>
    have hi := ((((Tame.refl { s with inReset := false }).startInit .app).startInit .pay).startInit .rad).updLines
      fun n => { n with filter := .settling none }
    rw [← Host.Outcome.next.inj h]
    exact .inr ⟨hr, hi.same (by simp [SameRecords])⟩
  · next hr => cases h; exact .inl ⟨by simpa using hr, rfl⟩

theorem windowSound_nil (d : Domain) : WindowSound d [] := ⟨⟨.nil, nofun⟩, nofun⟩

/-- Every command keeps what the windows and the payloads are held to. -/
theorem exec_windowsSound {c : Instr} (hs : WindowsSound s) (h : exec c s = .next t) : WindowsSound t := by
  cases hc : c.isReset with
  | false => exact (exec_tame hc h).windows hs
  | true =>
    rcases Instr.isReset_eq_true hc with rfl | rfl | ⟨low, rfl⟩
    · cases h; exact inResetWith_windows (windowSound_nil _) (windowSound_nil _) (windowSound_nil _)
    · cases h; exact inResetWith_windows (hs.window .app) (hs.window .pay) (hs.window .rad)
    · rcases tame_resetEnd h with ⟨-, rfl⟩ | ⟨-, ht⟩
      · exact hs
      · exact ht.windows ⟨by simpa using hs.window, hs.fifo, hs.hub⟩

/-- Every command keeps what the counters, levels, cursors and fences are held to. -/
theorem exec_rangesSound {c : Instr} (hs : RangesSound s) (h : exec c s = .next t) : RangesSound t := by
  cases hc : c.isReset with
  | false => exact (exec_tame hc h).ranges hs
  | true =>
    rcases Instr.isReset_eq_true hc with rfl | rfl | ⟨low, rfl⟩
    · cases h; exact inResetWith_ranges
    · cases h; exact inResetWith_ranges
    · rcases tame_resetEnd h with ⟨-, rfl⟩ | ⟨-, ht⟩
      · exact hs
      · exact ht.ranges ⟨hs.level, hs.lane, by simpa using hs.stray, by simpa using hs.flags⟩

end

/-- Settles O50: every command but a reset is tame (`exec_tame`), and the resets are read off. -/
theorem windowsKept : Obligations.WindowsKept := by
  unfold Obligations.WindowsKept
  simp only [← windowsSound_iff]
  exact kept_of_exec (fun s _ hs => ⟨by simpa using hs.window, hs.fifo, hs.hub⟩)
    (fun s hs => ⟨by simpa [State.tick] using hs.window, hs.fifo, hs.hub⟩) fun _ _ _ => exec_windowsSound

/-- Settles O60: every command but a reset is tame (`exec_tame`), and the resets are read off. -/
theorem rangesKept : Obligations.RangesKept := by
  unfold Obligations.RangesKept
  simp only [← rangesSound_iff]
  exact kept_of_exec (fun s _ hs => ⟨hs.level, hs.lane, by simpa using hs.stray, by simpa using hs.flags⟩)
    (fun s hs => ⟨hs.level, hs.lane, by simpa [State.tick] using hs.stray, by simpa [State.tick] using hs.flags⟩)
    fun _ _ _ => exec_rangesSound

/-! ## The part in reset -/

theorem updDom_eq_self {s : State} {d : Domain} {f : DomainRecord → DomainRecord} (h : f (s.dom d) = s.dom d) :
    s.updDom d f = s := by
  rw [State.updDom, h]; cases d <;> rfl

/-- What a part that stands in reset holds (R3, R106, R129, R138, R151). -/
structure StandsReset (s : State) : Prop where
  inReset : s.inReset = true
  status : ∀ d, (s.dom d).status = .waiting
  initialising : ∀ d, (s.dom d).initialising = none
  release : ∀ d, (s.dom d).release = none
  readData : ∀ d, (s.dom d).readData = 0#32
  lane : ∀ l, s.lane l = LaneState.reset
  entry : ∀ i, s.entry i = ⟨0#10, .free⟩
  line : ∀ n, s.line n = Line.reset .off
  scanner : s.scanner = ⟨.app 0, none⟩
  routes : s.routes = []
  hub : s.hub = Hub.reset
  mode : s.panel.mode = .freeRun
  link : s.touch.link = .idle

theorem standsReset {s : State} (hs : ResetHolds s) (hr : s.inReset = true) : StandsReset s := by
  obtain ⟨began, hb⟩ := hs hr
  rw [hb]
  refine ⟨rfl, ?_, ?_, ?_, ?_, inResetWith_lane s s.app.window s.pay.window s.rad.window began, ?_, ?_, rfl, rfl, rfl, rfl, rfl⟩
  iterate 4 intro d; cases d <;> rfl
  · intro i; simp [State.entry, State.inResetWith]
  · intro n; simp [State.line, State.inResetWith]

/-- While the part stands in reset, no command but a reset or the end of one changes anything (R3). -/
theorem exec_in_reset {c : Instr} {s : State} (h : StandsReset s) (hc : c.isReset = false) : exec c s = .next s := by
  have hport : ∀ d, s.portOpen d = false := fun d => by simp [State.portOpen, h.inReset]
  have hserve : ∀ q : HubRequest, q.serve s = s := fun q => by simp [HubRequest.serve, State.hubHead, h.inReset]
  cases c
  case powerOnReset => cases hc
  case pinReset => cases hc
  case resetEnd => cases hc
  case portAccess d offset size op =>
    cases op with
    | read =>
      have : s.returnData d 0#32 = s := updDom_eq_self (by rw [← h.readData d])
      simp [exec, execPortAccess, h.inReset, this]
    | write v => simp [exec, execPortAccess, h.inReset]
  case attentionLanes => simp [exec, execAttentionLanes, hport]
  case selfAnnouncedRestart => simp [exec, execSelfAnnouncedRestart, hport]
  case boardInitialisationComplete => simp [exec, execBoardInitialisationComplete, h.initialising]
  case acknowledge => simp [exec, execAcknowledge, hport]
  case identityWrite => simp [exec, execIdentityWrite, hport]
  case statusWrite => rfl
  case take => simp [exec, execTake, h.inReset]
  case refill =>
    have : s = { s with routes := [] } := by rw [← h.routes]
    simp only [exec, execRefill, h.routes, List.modify_nil]; rw [← this]
  case delivery => simp [exec, execDelivery, h.inReset]
  case holdLimitDrop => simp [exec, execHoldLimitDrop, h.lane, LaneState.reset]
  case eventCellDrop => simp [exec, execEventCellDrop, h.lane, LaneState.reset]
  case expiry => simp [exec, execExpiry, State.expiryDue, h.entry]
  case unknownRequestCode => simp [exec, execUnknownRequestCode, State.hubHead, h.inReset]
  case loadRoutesCompletion => simp [exec, execLoadRoutesCompletion, h.hub, Hub.reset]
  case pulseEnd => simp [exec, execPulseEnd, h.line, Line.reset, OutputState.ended]
  case pulseRelease => simp [exec, execPulseRelease, State.releaseDue, h.release]
  case appFrameStart => simp [exec, execAppFrameStart, h.inReset]
  case appInputRow => simp [exec, execAppInputRow, h.inReset]
  case videoLoss => simp [exec, execVideoLoss, State.videoLossDue, h.mode]
  case freeRunRowSlot => simp [exec, execFreeRunRowSlot, State.rowSlotDue, h.inReset]
  case freeRunFrameEnd => simp [exec, execFreeRunFrameEnd, State.frameEndDue, h.inReset]
  case reportReadyFall => simp [exec, execReportReadyFall, h.inReset]
  case touchReadCompletion => simp [exec, execTouchReadCompletion, h.link]
  case keySense => simp [exec, execKeySense, h.inReset]
  case keyChangeAccepted => simp [exec, execKeyChangeAccepted, h.inReset]
  case lineSample => simp [exec, execLineSample, h.inReset]
  case filteredChange => simp [exec, execFilteredChange, h.line, Line.reset]
  case settlingEnd => simp [exec, execSettlingEnd, h.line, Line.reset]
  all_goals exact congrArg Host.Outcome.next (hserve _)

/-- Every command keeps a part that stands in reset standing so. -/
theorem exec_resetHolds {c : Instr} {s t : State} (hs : ResetHolds s) (h : exec c s = .next t) : ResetHolds t := by
  cases hc : c.isReset with
  | false =>
    cases hr : s.inReset with
    | true =>
      rw [exec_in_reset (standsReset hs hr) hc] at h; cases h; exact hs
    | false =>
      intro ht
      rw [(exec_tame hc h).inReset, hr] at ht; cases ht
  | true =>
    rcases Instr.isReset_eq_true hc with rfl | rfl | ⟨low, rfl⟩
    · cases h; exact fun _ => ⟨0, rfl⟩
    · cases h; exact fun _ => ⟨s.now, rfl⟩
    · rcases tame_resetEnd h with ⟨-, rfl⟩ | ⟨-, ht⟩
      · exact hs
      · intro hr; rw [ht.inReset] at hr; cases hr

/-- No event that time brings is a reset. -/
theorem dueEvent_isReset {s : State} {c : Instr} (h : s.dueEvent = some c) : c.isReset = false := by
  simp only [State.dueEvent, Option.orElse_eq_some] at h
  rcases h with h | ⟨-, h | ⟨-, h | ⟨-, h | ⟨-, h | ⟨-, h | ⟨-, h | ⟨-, h | ⟨-, h⟩⟩⟩⟩⟩⟩⟩⟩
  · obtain ⟨_, -, rfl⟩ := Option.map_eq_some_iff.1 h; rfl
  · unfold State.loadDue at h; split at h <;> cases h; rfl
  · obtain ⟨_, -, rfl⟩ := Option.map_eq_some_iff.1 h; rfl
  · obtain ⟨_, -, rfl⟩ := Option.map_eq_some_iff.1 h; rfl
  · obtain ⟨_, -, h⟩ := List.exists_of_findSome?_eq_some h
    obtain ⟨_, -, rfl⟩ := Option.map_eq_some_iff.1 h; rfl
  · obtain ⟨_, -, h⟩ := List.exists_of_findSome?_eq_some h
    obtain ⟨_, -, rfl⟩ := Option.map_eq_some_iff.1 h; rfl
  · obtain ⟨_, -, rfl⟩ := Option.map_eq_some_iff.1 h; rfl
  · obtain ⟨_, -, rfl⟩ := Option.map_eq_some_iff.1 h; rfl
  · unfold State.panelDue at h
    split_ifs at h <;> cases h <;> rfl

/-- In reset no command but a power-on reset writes a window. -/
theorem exec_window_in_reset {c : Instr} {s t : State} (h : StandsReset s) (hc : c ≠ .powerOnReset)
    (he : exec c s = .next t) (d : Domain) : t.window d = s.window d := by
  cases hr : c.isReset with
  | false => rw [exec_in_reset h hr] at he; cases he; rfl
  | true =>
    rcases Instr.isReset_eq_true hr with rfl | rfl | ⟨low, rfl⟩
    · exact absurd rfl hc
    · cases he; cases d <;> rfl
    · dsimp only [exec] at he
      unfold execResetEnd at he
      rw [if_pos h.inReset] at he
      rw [← Host.Outcome.next.inj he]
      simp [State.window]

theorem ResetHolds.queue {s : State} (hs : ResetHolds s) (rest : List Instr) : ResetHolds { s with pending := rest } := fun hr => by
  obtain ⟨began, hb⟩ := hs hr
  exact ⟨began, congrArg (fun u : State => { u with pending := rest }) hb⟩

theorem ResetHolds.tick {s : State} (hs : ResetHolds s) : ResetHolds s.tick := fun hr => by
  obtain ⟨began, hb⟩ := hs hr
  exact ⟨began, congrArg (fun u : State => { u with now := s.now + 1 }) hb⟩

/-- Settles O49, by what a part in reset holds (`StandsReset`): there every command but a reset or the end of one has no effect. -/
theorem resetHoldsKept : Obligations.ResetHoldsKept := by
  unfold Obligations.ResetHoldsKept
  refine ⟨kept_of_exec (fun _ rest hs => hs.queue rest) (fun _ hs => hs.tick) fun _ _ _ => exec_resetHolds,
    fun s t hs hr hp h d => ?_⟩
  unfold step at h
  split at h
  · unfold State.idle at h
    split at h
    · next c hc =>
      have hne : c ≠ .powerOnReset := by rintro rfl; cases dueEvent_isReset hc
      exact exec_window_in_reset (standsReset hs hr) hne h d
    · cases h; simp [State.tick, State.window]
  · next c rest hq =>
    have hne : c ≠ .powerOnReset := by rintro rfl; simp [hq] at hp
    have := exec_window_in_reset (standsReset (hs.queue rest) hr) hne h d
    simpa [State.window] using this

end Sys2Proof.Machine

/-! PROOFS. The output lines: no event but a request of a domain that is UP drives a line (O56). -/

namespace Sys2Proof.Machine

/-! ## Changes that drive no line -/

/-- The application domain drives no line and no request of its lanes waits in the HUB FIFO. -/
def AppQuiet (t : State) : Prop :=
  (∀ n, (t.line n).entry.owner = some .app → (t.line n).output = .resting)
    ∧ ∀ h ∈ t.hub.fifo, h.message.sender.isApp = false

/-- A domain drives no line, none of its requests waits in the HUB FIFO, and no visit to its lanes is in progress. -/
def Silent (t : State) (d : Domain) : Prop :=
  (∀ n, (t.line n).entry.owner = some d → (t.line n).output = .resting)
    ∧ (∀ h ∈ t.hub.fifo, h.message.sender.domain ≠ d) ∧ ∀ l, t.scanner.visit = some l → l.domain ≠ d

/-- A change after which no line is driven, no hub request waits and no visit is in progress that was not before. -/
structure DrivesLess (s t : State) : Prop where
  owner : ∀ n, (t.line n).entry.owner = (s.line n).entry.owner
  output : ∀ n, (t.line n).output = (s.line n).output ∨ (t.line n).output = .resting
  lockdown : t.hub.mode = .lockdown → s.hub.mode = .lockdown ∨ AppQuiet t
  fifo : ∀ h ∈ t.hub.fifo, h ∈ s.hub.fifo
  visit : ∀ l, t.scanner.visit = some l → s.scanner.visit = some l

/-- What the lines depend on is the same. -/
def SameLines (s t : State) : Prop :=
  (∀ n, t.line n = s.line n) ∧ t.hub.mode = s.hub.mode ∧ t.hub.fifo = s.hub.fifo ∧ t.scanner.visit = s.scanner.visit

section
variable {s t u : State}

theorem DrivesLess.refl (s : State) : DrivesLess s s := ⟨fun _ => rfl, fun _ => .inl rfl, .inl, fun _ => id, fun _ => id⟩

theorem rests_of_drivesLess (h : DrivesLess s t) {n : Fin 12} (hr : (s.line n).output = .resting) :
    (t.line n).output = .resting := (h.output n).elim (fun e => e.trans hr) id

theorem AppQuiet.of_drivesLess (hq : AppQuiet s) (h : DrivesLess s t) : AppQuiet t :=
  ⟨fun n ho => rests_of_drivesLess h (hq.1 n (h.owner n ▸ ho)), fun x hx => hq.2 x (h.fifo x hx)⟩

theorem Silent.of_drivesLess {d : Domain} (hq : Silent s d) (h : DrivesLess s t) : Silent t d :=
  ⟨fun n ho => rests_of_drivesLess h (hq.1 n (h.owner n ▸ ho)), fun x hx => hq.2.1 x (h.fifo x hx),
    fun l hl => hq.2.2 l (h.visit l hl)⟩

@[trans] theorem DrivesLess.trans (h : DrivesLess s t) (h' : DrivesLess t u) : DrivesLess s u where
  owner n := (h'.owner n).trans (h.owner n)
  output n := (h'.output n).elim (fun e => (h.output n).imp e.trans e.trans) .inr
  lockdown hm := (h'.lockdown hm).elim (fun ht => (h.lockdown ht).imp_right fun hq => hq.of_drivesLess h') .inr
  fifo x hx := h.fifo x (h'.fifo x hx)
  visit l hl := h.visit l (h'.visit l hl)

theorem DrivesLess.same (h : DrivesLess s t) (e : SameLines t u) : DrivesLess s u := by
  obtain ⟨hn, hm, hf, hv⟩ := e
  exact h.trans ⟨fun n => by rw [hn], fun n => .inl (by rw [hn]), fun hl => .inl (hm ▸ hl), fun x hx => hf ▸ hx,
    fun l hl => hv ▸ hl⟩

theorem DrivesLess.ite {p : Prop} [Decidable p] (h : p → DrivesLess s t) (h' : ¬p → DrivesLess s u) :
    DrivesLess s (if p then t else u) := by
  split
  · exact h ‹_›
  · exact h' ‹_›

/-- The removal's share of the hub service. -/
theorem filterFifos_hub (s : State) (keep : Lane → Entry → Bool) (keepHub : Held → Bool) :
    (s.filterFifos keep keepHub).hub = { s.hub with fifo := s.hub.fifo.filter keepHub } := by
  unfold State.filterFifos
  dsimp only
  split <;> simp

/-- A removal from the FIFOs. -/
theorem DrivesLess.filterFifos (h : DrivesLess s t) (keep : Lane → Entry → Bool) (keepHub : Held → Bool) :
    DrivesLess s (t.filterFifos keep keepHub) :=
  h.trans ⟨by simp, by simp, fun hl => .inl (by simpa using hl),
    fun x hx => by rw [filterFifos_hub] at hx; exact List.mem_of_mem_filter hx, by simp⟩

/-- A line of the domains that `p` picks rests (R157). -/
theorem restLines_line (s : State) (p : Domain → Bool) (n : Fin 12) : (s.restLines p).line n =
    if (s.line n).entry.owner.any p then { s.line n with output := .resting } else s.line n := by
  simp [State.restLines]

/-- The entry into LOCKDOWN rests APP's lines (R157). -/
theorem enterLockdown_line (s : State) (n : Fin 12) : s.enterLockdown.line n =
    if (s.line n).entry.owner = some .app then { s.line n with output := .resting } else s.line n := by
  simp [State.enterLockdown, restLines_line, Option.any_eq_true]

theorem enterLockdown_hub_mode (s : State) : s.enterLockdown.hub.mode = .lockdown := by
  simp [State.enterLockdown]

/-- The entry into LOCKDOWN takes application lanes' messages from the HUB FIFO (R74). -/
theorem enterLockdown_hub_fifo (s : State) : s.enterLockdown.hub.fifo = s.hub.fifo.filter fun h => !h.message.sender.isApp := by
  simp [State.enterLockdown, State.lockFifos, filterFifos_hub]

/-- The entry into LOCKDOWN drives no line (R74, R157). -/
theorem DrivesLess.enterLockdown (h : DrivesLess s t) : DrivesLess s t.enterLockdown := by
  refine h.trans ⟨fun n => ?_, fun n => ?_, fun _ => .inr ⟨fun n hn => ?_, fun x hx => ?_⟩, fun x hx => ?_, by simp⟩
  · rw [enterLockdown_line]; split <;> rfl
  · rw [enterLockdown_line]; split <;> simp
  · rw [enterLockdown_line] at hn ⊢; split at hn <;> simp_all
  · rw [enterLockdown_hub_fifo] at hx; simpa using (List.mem_filter.1 hx).2
  · rw [enterLockdown_hub_fifo] at hx; exact List.mem_of_mem_filter hx

end

end Sys2Proof.Machine

/-! PROOFS. Changes that drive no line and change no domain (O56). -/

namespace Sys2Proof.Machine

/-! ## Changes that leave the domains' states too -/

/-- What `DomainsSound` reads of the domains is the same. -/
def SameDomains (s t : State) : Prop :=
  ∀ d, (t.dom d).status = (s.dom d).status ∧ (t.dom d).initialising = (s.dom d).initialising
    ∧ (t.dom d).release = (s.dom d).release

/-- A change that drives no line and leaves the domains' states. -/
structure LinesTame (s t : State) : Prop where
  drives : DrivesLess s t
  domains : SameDomains s t

section
variable {s t u : State}

@[refl] theorem LinesTame.refl (s : State) : LinesTame s s := ⟨DrivesLess.refl s, fun _ => ⟨rfl, rfl, rfl⟩⟩

@[trans] theorem LinesTame.trans (h : LinesTame s t) (h' : LinesTame t u) : LinesTame s u := by
  refine ⟨h.drives.trans h'.drives, fun d => ?_⟩
  obtain ⟨h1, h2, h3⟩ := h.domains d
  obtain ⟨h1', h2', h3'⟩ := h'.domains d
  exact ⟨h1'.trans h1, h2'.trans h2, h3'.trans h3⟩

theorem LinesTame.same (h : LinesTame s t) (e : SameLines t u) (e' : SameDomains t u) : LinesTame s u :=
  h.trans ⟨(DrivesLess.refl t).same e, e'⟩

theorem LinesTame.ite {p : Prop} [Decidable p] (h : p → LinesTame s t) (h' : ¬p → LinesTame s u) :
    LinesTame s (if p then t else u) := by
  split
  · exact h ‹_›
  · exact h' ‹_›

theorem LinesTame.foldl {α : Type} {f : State → α → State} (hf : ∀ t a, LinesTame t (f t a)) (h : LinesTame s t)
    (xs : List α) : LinesTame s (xs.foldl f t) := by
  induction xs generalizing t with
  | nil => exact h
  | cons x xs ih => exact ih (h.trans (hf t x))

theorem LinesTame.filterFifos (h : LinesTame s t) (keep : Lane → Entry → Bool) (keepHub : Held → Bool) :
    LinesTame s (t.filterFifos keep keepHub) := h.trans ⟨(DrivesLess.refl t).filterFifos _ _, fun d => by simp⟩

theorem LinesTame.evaluate (h : LinesTame s t) : LinesTame s t.evaluate := by
  have hf : LinesTame s t.formOutput := by
    unfold State.formOutput
    exact LinesTame.ite (fun _ => h) fun _ => h.same (by simp [SameLines]) (by simp [SameDomains])
  exact LinesTame.ite (fun _ => hf.trans ⟨(DrivesLess.refl _).enterLockdown, by simp [SameDomains]⟩) fun _ => hf

theorem LinesTame.evaluateViol (h : LinesTame s t) (was : State) : LinesTame s (State.evaluateViol was t) :=
  LinesTame.ite (fun _ => h) fun _ => h.evaluate.same (by simp [SameLines]) (by simp [SameDomains])

theorem LinesTame.fenceLane (h : LinesTame s t) (l : Lane) : LinesTame s (t.fenceLane l) := by
  have hf := (h.same (u := (t.updLane l fun r => { r with fenced := true }).countDropped l
    ((t.lane l).fifo.countP fun e => !e.isReply)) (by simp [SameLines]) (by simp [SameDomains])).filterFifos
    (fun l' e => if l' = l then e.isReply else !e.isRequest fun m => decide (m.sender = l))
    fun h => decide (h.message.sender ≠ l)
  exact hf.same (by simp [SameLines, State.fenceLane]) (by simp [SameDomains])

theorem LinesTame.violate (h : LinesTame s t) (l : Lane) : LinesTame s (t.violate l) := by
  have hv : LinesTame s (t.updLane l fun r => { r with violations := bump r.violations, tally := bumpByte r.tally }) :=
    h.same (by simp [SameLines]) (by simp [SameDomains])
  have ha : ∀ {v : State}, LinesTame s v → LinesTame s (v.autoFence l) := fun {v} hv =>
    ((LinesTame.ite (p := (v.lane l).fenced) (fun _ => hv) fun _ => hv.fenceLane l).same (by simp [SameLines])
      (by simp [SameDomains])).evaluateViol v
  exact LinesTame.ite (fun _ => ha hv) fun _ => hv

end

end Sys2Proof.Machine

/-! PROOFS. The removal of a domain, and the invariant that the lines' safety needs (O56). -/

namespace Sys2Proof.Machine

/-! ## The removal of a domain -/

/-- The removal of a domain before the combiner's evaluation (R109). -/
def State.removal (s : State) (d : Domain) : State :=
  let s := (s.endVisit d).updDom d fun r => { r with flags := 0#32 }
  let s := s.filterFifos
    (fun l e => decide (l.domain ≠ d) && !e.isRequest fun m => decide (m.sender.domain = d))
    fun h => decide (h.message.sender.domain ≠ d)
  let s := s.removeExchanges (fun l => decide (l.domain = d)) false
  let s := s.updLanes fun l r =>
    if l.domain = d then { r with gapPending := false, fenced := false, autoFenced := false, tally := 0 } else r
  let s := (s.endInputs fun l => decide (l.domain = d)).restLines fun d' => decide (d' = d)
  let s := if d = .app then { s with touch := { s.touch with focus := 0 } } else s
  s.raiseDomain d

theorem removeDomain_eq (s : State) (d : Domain) : s.removeDomain d = State.evaluateViol s (s.removal d) := rfl

section
variable (s : State) (d : Domain)

theorem removal_line (n : Fin 12) : (s.removal d).line n =
    if (s.line n).entry.owner = some d then { s.line n with output := .resting } else s.line n := by
  by_cases h : d = .app <;> simp [State.removal, h, restLines_line, Option.any_eq_true]

theorem removal_hub :
    (s.removal d).hub = { s.hub with fifo := s.hub.fifo.filter fun h => decide (h.message.sender.domain ≠ d) } := by
  by_cases h : d = .app <;> simp [State.removal, h, filterFifos_hub]

theorem removal_scanner :
    (s.removal d).scanner = { s.scanner with visit := s.scanner.visit.filter fun l => decide (l.domain ≠ d) } := by
  by_cases h : d = .app <;> simp [State.removal, h, State.endVisit]

theorem removal_sameDomains : SameDomains s (s.removal d) := by
  intro k
  by_cases h : d = .app <;> simp [State.removal, h]

end

section
variable {s t u : State}

theorem DrivesLess.removal (h : DrivesLess s t) (d : Domain) : DrivesLess s (t.removal d) := by
  refine h.trans ⟨fun n => ?_, fun n => ?_, fun hl => .inl ?_, fun x hx => ?_, fun l hl => ?_⟩
  · rw [removal_line]; split <;> rfl
  · rw [removal_line]; split <;> simp
  · rwa [removal_hub] at hl
  · rw [removal_hub] at hx; exact List.mem_of_mem_filter hx
  · rw [removal_scanner] at hl; exact (Option.filter_eq_some_iff.1 hl).1

/-- A removed domain is silent (R18, R88, R157). -/
theorem silent_removal (s : State) (d : Domain) : Silent (s.removal d) d := by
  refine ⟨fun n hn => ?_, fun x hx => ?_, fun l hl => ?_⟩
  · rw [removal_line] at hn ⊢; split at hn <;> simp_all
  · rw [removal_hub] at hx; simpa using (List.mem_filter.1 hx).2
  · rw [removal_scanner] at hl; simpa using (Option.filter_eq_some_iff.1 hl).2

theorem LinesTame.removeDomain (h : LinesTame s t) (d : Domain) : LinesTame s (t.removeDomain d) :=
  LinesTame.evaluateViol (h.trans ⟨(DrivesLess.refl t).removal d, removal_sameDomains t d⟩) t

theorem silent_removeDomain (s : State) (d : Domain) : Silent (s.removeDomain d) d :=
  (silent_removal s d).of_drivesLess ((LinesTame.refl (s.removal d)).evaluateViol s).drives

/-! ## What the lines and the domains are held to -/

/-- `DomainsSound` and `LinesSafe`. -/
def LinesSound (s : State) : Prop := DomainsSound s ∧ LinesSafe s

/-- Lines stay safe where no more is driven and the domains that change their state are silent. -/
theorem LinesSafe.of_drivesLess (hs : LinesSafe s) (h : DrivesLess s t)
    (hd : ∀ d, (t.dom d).status = (s.dom d).status ∨ Silent t d) : LinesSafe t := by
  obtain ⟨hl, hf, hv⟩ := hs
  have up : ∀ d, (t.dom d).status = (s.dom d).status → t.isUp d = s.isUp d := fun d e => by simp [State.isUp, e]
  refine ⟨fun n d ho hd' => ?_, fun x hx => ?_, fun l hl' => ?_⟩
  · rcases hd d with e | hq
    · rw [up d e] at hd'
      have ho' := h.owner n ▸ ho
      rcases hd' with hu | ⟨rfl, hm⟩
      · exact rests_of_drivesLess h (hl n d ho' (.inl hu))
      · exact (h.lockdown hm).elim (fun hm' => rests_of_drivesLess h (hl n .app ho' (.inr ⟨rfl, hm'⟩))) fun hq => hq.1 n ho
    · exact hq.1 n ho
  · refine ⟨?_, fun hm => ?_⟩
    · rcases hd x.message.sender.domain with e | hq
      · rw [up _ e]; exact (hf x (h.fifo x hx)).1
      · exact absurd rfl (hq.2.1 x hx)
    · exact (h.lockdown hm).elim (hf x (h.fifo x hx)).2 fun hq => hq.2 x hx
  · rcases hd l.domain with e | hq
    · rw [up _ e]; exact hv l (h.visit l hl')
    · exact absurd rfl (hq.2.2 l hl')

/-- A domain that is not UP is silent. -/
theorem LinesSafe.silent (hs : LinesSafe s) {d : Domain} (hd : (s.dom d).status ≠ .up) : Silent s d := by
  obtain ⟨hl, hf, hv⟩ := hs
  have hu : s.isUp d = false := by simpa [State.isUp] using hd
  refine ⟨fun n ho => hl n d ho (.inl hu), fun x hx e => ?_, fun l h e => ?_⟩
  · have := (hf x hx).1; rw [e, hu] at this; cases this
  · have := hv l h; rw [e, hu] at this; cases this

theorem DomainsSound.of_same (hs : DomainsSound s) (h : SameDomains s t) : DomainsSound t := by
  refine ⟨fun d => ?_, ?_⟩
  · obtain ⟨h1, h2, h3⟩ := h d
    rw [h1, h2, h3]; exact hs.1 d
  · exact (h .pay).1 ▸ hs.2

theorem LinesSound.of_tame (hs : LinesSound s) (h : LinesTame s t) : LinesSound t :=
  ⟨hs.1.of_same h.domains, hs.2.of_drivesLess h.drives fun d => .inl (h.domains d).1⟩

/-- A change of one domain's state: its new record is sound, and it is silent. -/
theorem LinesSound.of_domain (hs : LinesSound s) (h : DrivesLess s t) (d : Domain)
    (same : ∀ k, k ≠ d → (t.dom k).status = (s.dom k).status ∧ (t.dom k).initialising = (s.dom k).initialising
      ∧ (t.dom k).release = (s.dom k).release) (silent : Silent t d)
    (init : (t.dom d).initialising.isSome = true → (t.dom d).status = .waiting)
    (release : (t.dom d).release.isSome = true → (t.dom d).status = .held) (pay : d = .pay → (t.dom d).status ≠ .held) :
    LinesSound t := by
  refine ⟨⟨fun k => ?_, ?_⟩, hs.2.of_drivesLess h fun k => ?_⟩
  · by_cases hk : k = d
    · subst hk; exact ⟨init, release⟩
    · obtain ⟨h1, h2, h3⟩ := same k hk
      rw [h1, h2, h3]; exact hs.1.1 k
  · by_cases hk : d = .pay
    · subst hk; exact pay rfl
    · have := (same .pay (Ne.symm hk)).1
      unfold State.dom at this
      rw [this]; exact hs.1.2
  · by_cases hk : k = d
    · subst hk; exact .inr silent
    · exact .inl (same k hk).1

end

end Sys2Proof.Machine

/-! PROOFS. Domain control keeps the lines safe (O56). -/

namespace Sys2Proof.Machine

section
variable {s t u : State}

/-! ## Domain control -/

/-- A change of a silent domain's record. -/
theorem LinesSound.updDom (hs : LinesSound s) {d : Domain} {f : DomainRecord → DomainRecord} (hq : Silent s d)
    (init : (f (s.dom d)).initialising.isSome = true → (f (s.dom d)).status = .waiting)
    (release : (f (s.dom d)).release.isSome = true → (f (s.dom d)).status = .held)
    (pay : d = .pay → (f (s.dom d)).status ≠ .held) : LinesSound (s.updDom d f) := by
  have h : DrivesLess s (s.updDom d f) := (DrivesLess.refl s).same (by simp [SameLines])
  refine hs.of_domain h d (fun k hk => by simp [hk]) (hq.of_drivesLess h) ?_ ?_ ?_
  all_goals rwa [State.dom_updDom_same]

/-- A change that neither the lines nor the domains' states depend on. -/
theorem LinesSound.same (hs : LinesSound s) (e : SameLines s t) (e' : SameDomains s t) : LinesSound t :=
  hs.of_tame ((LinesTame.refl s).same e e')

theorem LinesSound.updLanes (hs : LinesSound s) (f : Lane → LaneState → LaneState) : LinesSound (s.updLanes f) :=
  hs.same (by simp [SameLines]) (by simp [SameDomains])

/-- Only a HELD domain has a release pending. -/
theorem LinesSound.release_eq_none (hs : LinesSound s) {d : Domain} (h : (s.dom d).status ≠ .held) :
    (s.dom d).release = none := by
  by_contra e
  exact h ((hs.1.1 d).2 (Option.isSome_iff_ne_none.2 e))

/-- A silent domain with no release pending begins its board initialisation. -/
theorem LinesSound.startInit (hs : LinesSound s) {d : Domain} (hq : Silent s d) (hr : (s.dom d).release = none) :
    LinesSound (s.startInit d) := by
  have hu := hs.updDom (f := fun r => { r with status := .waiting, initialising := some s.now, remembered := 0#8, stray := 0 })
    hq (fun _ => rfl) (by simp [hr]) (by simp)
  exact hu.same (by simp [SameLines, State.startInit]) (by simp [SameDomains, State.startInit])

theorem LinesSound.raiseDomain (hs : LinesSound s) (d : Domain) : LinesSound (s.raiseDomain d) :=
  hs.same (by simp [SameLines]) (by simp [SameDomains])

/-- A WAITING domain whose boards are initialised comes UP. -/
theorem LinesSound.goUp (hs : LinesSound s) {d : Domain} (hw : (s.dom d).status = .waiting)
    (hi : (s.dom d).initialising = none) : LinesSound (s.goUp d) :=
  LinesSound.raiseDomain (hs.updDom (f := fun r => { r with status := .up }) (hs.2.silent (by simp [hw])) (by simp [hi])
    (by simp [hs.release_eq_none (d := d) (by simp [hw])]) (by simp)) d

theorem LinesSound.attend (hs : LinesSound s) (d : Domain) (set : Byte) : LinesSound (s.attend d set) :=
  hs.same (by simp [SameLines]) (by simp [SameDomains])

theorem LinesSound.finishInit (hs : LinesSound s) {d : Domain} (hi : (s.dom d).initialising.isSome = true) :
    LinesSound (s.finishInit d) := by
  have hw : (s.dom d).status = .waiting := (hs.1.1 d).1 hi
  have hu := hs.updDom (d := d) (f := fun r =>
      { r with window := Memory.clear r.window d.isStateByte, initialising := none, remembered := 0#8 })
    (hs.2.silent (by simp [hw])) nofun (by simp [hs.release_eq_none (d := d) (by simp [hw])]) (by simp [hw])
  have hv := hu.updLanes fun l r => if l.domain = d then { r with takeCursor := 0, putCursor := 0, deliveryNumber := 0#16 } else r
  unfold State.finishInit
  dsimp only
  split
  · exact hv
  · exact (hv.goUp (by simpa using hw) (by simp)).attend d _

theorem LinesSound.selfRestart (hs : LinesSound s) (d : Domain) : LinesSound (s.selfRestart d) := by
  have restart : (s.dom d).status ≠ .held → LinesSound ((s.removeDomain d).startInit d) := fun hh =>
    (hs.of_tame ((LinesTame.refl s).removeDomain d)).startInit (silent_removeDomain s d)
      (by simpa using hs.release_eq_none hh)
  unfold State.selfRestart
  split
  · next e => exact restart (by simp [e])
  · next e _ => exact restart (by simp [e])
  · exact hs
  · exact hs

theorem LinesSound.nameLanes (hs : LinesSound s) (d : Domain) (set : Byte) : LinesSound (s.nameLanes d set) := by
  unfold State.nameLanes
  split
  · exact hs
  split
  · exact hs.attend d set
  · next hw hi => exact (hs.goUp hw hi).attend d set
  · exact hs.same (by simp [SameLines]) (by simp [SameDomains])
  · exact hs

theorem LinesSound.writeAttention (hs : LinesSound s) (d : Domain) (value : Word) : LinesSound (s.writeAttention d value) := by
  unfold State.writeAttention
  split
  · exact hs.selfRestart d
  · exact hs.nameLanes d _

/-- A domain that becomes HELD is removed (R111). -/
theorem LinesSound.holdDomain (hs : LinesSound s) {d : Domain} (hd : d ≠ .pay) : LinesSound (s.holdDomain d) := by
  have hu : DrivesLess s (s.updDom d fun r => { r with status := .held, initialising := none, remembered := 0#8 }) :=
    (DrivesLess.refl s).same (by simp [SameLines])
  unfold State.holdDomain
  refine hs.of_domain (hu.trans ((LinesTame.refl _).removeDomain d).drives) d (fun k hk => by simp [hk])
    (silent_removeDomain _ d) ?_ ?_ (fun e => absurd e hd)
  · simp
  · simp

/-- A HELD domain is released (R112). -/
theorem LinesSound.releaseDomain (hs : LinesSound s) {d : Domain} (hd : (s.dom d).status ≠ .up) :
    LinesSound (s.releaseDomain d) := by
  have hq := hs.2.silent hd
  have hu := hs.updDom (f := fun r => { r with release := none }) hq (hs.1.1 d).1 nofun fun e => e ▸ hs.1.2
  exact (hu.startInit (hq.of_drivesLess ((DrivesLess.refl s).same (by simp [SameLines]))) (by simp)).raiseDomain d

end
end Sys2Proof.Machine

/-! PROOFS. Takes keep the lines safe (O56). -/

namespace Sys2Proof.Machine

section
variable {s t u : State}

/-! ## Takes -/

/-- A lane for which a take begins belongs to a domain that is UP. -/
theorem isUp_of_takeBegins (hs : LinesSafe s) {l : Lane} {first : Bool} (h : TakeBegins s l first) :
    s.isUp l.domain = true := by
  obtain ⟨-, h⟩ := h
  cases first with
  | false => exact hs.2.2 l (by simpa using h)
  | true =>
    obtain ⟨-, hg⟩ : s.scanner.visit = none ∧ s.granted = some l := by simpa using h
    have := List.find?_some hg
    simp only [State.eligible, Bool.and_eq_true] at this
    exact this.2

/-- A visit to a lane of a domain that is UP. -/
theorem LinesSound.setVisit (hs : LinesSound s) {v : Option Lane} (hv : ∀ l, v = some l → s.isUp l.domain = true) :
    LinesSound { s with scanner := { s.scanner with visit := v } } :=
  ⟨hs.1.of_same (by simp [SameDomains]), fun n d => by simpa [State.isUp] using hs.2.1 n d,
    fun x hx => by simpa [State.isUp] using hs.2.2.1 x hx, fun l hl => by simpa [State.isUp] using hv l hl⟩

theorem LinesSound.updLane (hs : LinesSound s) (l : Lane) (f : LaneState → LaneState) : LinesSound (s.updLane l f) :=
  hs.same (by simp [SameLines]) (by simp [SameDomains])

theorem LinesSound.noVisit (hs : LinesSound s) : LinesSound s.noVisit := hs.setVisit nofun

theorem LinesSound.afterTake (hs : LinesSound s) {l : Lane} (hu : s.isUp l.domain = true) (slot : Nat) (first : Bool) :
    LinesSound (s.afterTake l slot first) := by
  refine (hs.updLane l _).setVisit fun k hk => ?_
  split at hk
  · cases hk; simpa [State.isUp] using hu
  · cases hk

/-- A request of a lane whose domain is UP joins the HUB FIFO; in LOCKDOWN the lane is no application lane. -/
theorem LinesSound.joinHub (hs : LinesSound s) {h : Held} (hu : s.isUp h.message.sender.domain = true)
    (hl : s.hub.mode = .lockdown → h.message.sender.isApp = false) : LinesSound (s.joinMessage .hub h) := by
  refine ⟨hs.1.of_same (by simp [SameDomains, State.joinMessage]), fun n d => ?_, fun x hx => ?_, fun l hv => ?_⟩
  · simpa [State.isUp, State.joinMessage] using hs.2.1 n d
  · have : s.isUp x.message.sender.domain = true ∧ (s.hub.mode = .lockdown → x.message.sender.isApp = false) := by
      rcases List.mem_append.1 hx with hx | hx
      · exact hs.2.2.1 x hx
      · rw [List.mem_singleton.1 hx]; exact ⟨hu, hl⟩
    simpa [State.isUp, State.joinMessage] using this
  · simpa [State.isUp, State.joinMessage] using hs.2.2.2 l hv

theorem LinesSound.joinBoard (hs : LinesSound s) (l : Lane) (h : Held) : LinesSound (s.joinMessage (.board l) h) := by
  unfold State.joinMessage
  dsimp only
  split
  · exact hs.same (by simp [SameLines]) (by simp [SameDomains])
  · exact hs.same (by simp [SameLines]) (by simp [SameDomains])

/-- What admission accepts of a lane in LOCKDOWN is of no application lane (R39). -/
theorem isApp_of_judge_request {l : Lane} {m : Slot} {a : Address} {route : Option Nat}
    (h : s.judge l m = .request a route) (hm : s.hub.mode = .lockdown) : l.isApp = false := by
  by_contra hl
  have hmode : ∀ k a, s.modeRefusal l k a = some .lockdown := fun k a => by
    simp only [State.modeRefusal, hm, Bool.not_eq_false] at *
    simp [hl]
  unfold State.judge at h
  (repeat' split at h) <;> simp_all

theorem isUp_of_status {d : Domain} (h : (t.dom d).status = (s.dom d).status) : t.isUp d = s.isUp d := by
  simp [State.isUp, h]

/-- What `State.spend` leaves as it was. -/
@[simp] theorem spend_frame (s : State) (route : Option Nat) :
    (∀ d, (s.spend route).dom d = s.dom d) ∧ (∀ n, (s.spend route).line n = s.line n) ∧ (s.spend route).hub = s.hub
      ∧ (s.spend route).scanner = s.scanner ∧ (∀ l, (s.spend route).lane l = s.lane l)
      ∧ (∀ i, (s.spend route).entry i = s.entry i) ∧ (s.spend route).now = s.now := by
  cases route <;> simp [State.spend]

/-- A message that joins leaves the domains. -/
@[simp] theorem joinMessage_dom (s : State) (r : Recipient) (h : Held) (d : Domain) : (s.joinMessage r h).dom d = s.dom d := by
  cases r with
  | hub => simp [State.joinMessage]
  | board l => simp only [State.joinMessage]; split <;> simp

@[simp] theorem admitted_status (s : State) (l : Lane) (slot tag : Nat) (d : Domain) :
    ((s.admitted l slot tag).dom d).status = (s.dom d).status := by simp [State.admitted, State.writeOutcome]

theorem LinesSound.admitted (hs : LinesSound s) (l : Lane) (slot tag : Nat) : LinesSound (s.admitted l slot tag) :=
  hs.same (by simp [SameLines, State.admitted, State.writeOutcome]) (by simp [SameDomains, State.admitted, State.writeOutcome])

theorem LinesSound.conclude (hs : LinesSound s) (i : Fin 48) (x : Exchange) (c : Conclusion) :
    LinesSound (s.conclude i x c) := hs.same (by simp [SameLines]) (by simp [SameDomains])

theorem acceptRequest_status (s : State) (l : Lane) (slot : Nat) (m : Slot) (a : Address) (route : Option Nat) (b : Fin 30)
    (d : Domain) : ((s.acceptRequest l slot m a route b).dom d).status = (s.dom d).status := by
  unfold State.acceptRequest
  split
  · rfl
  · dsimp only
    rw [admitted_status]
    split <;> simp

theorem LinesSound.acceptRequest (hs : LinesSound s) {l : Lane} {m : Slot} {a : Address} {route : Option Nat}
    (hu : s.isUp l.domain = true) (hj : s.judge l m = .request a route) (slot : Nat) (b : Fin 30) :
    LinesSound (s.acceptRequest l slot m a route b) := by
  unfold State.acceptRequest
  split
  · exact hs
  · next i _ =>
    dsimp only
    refine LinesSound.admitted ?_ _ _ _
    have claimed : ∀ x, LinesSound ((s.spend route).claim i x) := fun x =>
      hs.same (by simp [SameLines]) (by simp [SameDomains])
    have joined : ∀ (x : Exchange) (h : Held), h.message.sender = l →
        LinesSound (((s.spend route).claim i x).joinMessage a.recipient h) := by
      intro x h hl
      cases a.recipient with
      | board k => exact (claimed x).joinBoard k h
      | hub =>
        refine (claimed x).joinHub ?_ fun hm => ?_
        · rw [hl, ← hu]; exact isUp_of_status (by simp)
        · rw [hl]; exact isApp_of_judge_request hj (by simpa using hm)
    split
    · exact (joined _ _ rfl).conclude _ _ _
    · exact joined _ _ rfl

/-- What judges as a NOTICE has passed the NOTICE's own steps (R37). -/
theorem judgeNotice_of_judge {l : Lane} {m : Slot} {a : Address} {route : Nat} (h : s.judge l m = .notice a route) :
    ∃ a', s.judgeNotice l a' m.length = .notice a route := by
  unfold State.judge at h
  split at h
  · cases h
  split at h
  · cases h
  split at h
  · cases h
  split at h
  · cases h
  split at h
  · cases h
  split at h
  · unfold State.judgeRequest at h
    (repeat' split at h) <;> cases h
  · exact ⟨_, h⟩
  · unfold State.judgeAnswer at h
    (repeat' split at h) <;> cases h

/-- A NOTICE is accepted for a lane with boards alone (R23). -/
theorem board_of_judge_notice {l : Lane} {m : Slot} {a : Address} {route : Nat} (h : s.judge l m = .notice a route) :
    ∃ k, a.recipient = .board k := by
  obtain ⟨a', h⟩ := judgeNotice_of_judge h
  unfold State.judgeNotice at h
  split at h
  · cases h
  · have : a = a' := by (repeat' split at h) <;> cases h; rfl
    subst this
    cases a with
    | hub => contradiction
    | app x => exact ⟨_, rfl⟩
    | pay x => exact ⟨_, rfl⟩
    | rad x => exact ⟨_, rfl⟩

theorem LinesSound.acceptNotice (hs : LinesSound s) {l : Lane} {m : Slot} {a : Address} {route : Nat}
    (hj : s.judge l m = .notice a route) (slot : Nat) (b : Fin 30) : LinesSound (s.acceptNotice l slot m a route b) := by
  obtain ⟨k, hk⟩ := board_of_judge_notice hj
  have hsp : LinesSound (s.spend (some route)) := hs.same (by simp [SameLines]) (by simp [SameDomains])
  unfold State.acceptNotice
  dsimp only
  rw [hk]
  exact (hsp.joinBoard k _).admitted _ _ _

theorem LinesSound.acceptAnswer (hs : LinesSound s) (l : Lane) (slot : Nat) (m : Slot) (i : Fin 48) (x : Exchange)
    (b : Fin 30) : LinesSound (s.acceptAnswer l slot m i x b) := by
  have hf : LinesSound (s.freeEntry i) := hs.same (by simp [SameLines]) (by simp [SameDomains])
  exact (hf.joinBoard _ _).admitted _ _ _

theorem LinesTame.lateSeen (h : LinesTame s t) (tag : Nat) : LinesTame s (t.lateSeen tag) :=
  h.same (by simp [SameLines]) (by simp [SameDomains])

theorem LinesTame.refuseTake (s : State) (l : Lane) (slot : Nat) (m : Slot) (o : TakeOutcome) :
    LinesTame s (s.refuseTake l slot m o) := by
  have hr : LinesTame s (((s.writeOutcome l slot o m.refusedTag).updLane l fun r =>
      { r with refused := bump r.refused }).raise l.domain (.outcome l)) :=
    (LinesTame.refl s).same (by simp [SameLines, State.writeOutcome]) (by simp [SameDomains, State.writeOutcome])
  have hl := LinesTame.ite (p := o = .late) (fun _ => hr.lateSeen m.tag) fun _ => hr
  exact LinesTame.ite (fun _ => hl.violate l) fun _ => hl

theorem LinesSound.takeFor (hs : LinesSound s) {l : Lane} (hu : s.isUp l.domain = true) (first : Bool) :
    LinesSound (s.takeFor l first) := by
  refine takeFor_induction ?_ ?_ ?_ ?_ ?_ ?_
  · exact (hs.updLane l _).noVisit
  · intro slot m o _ _
    have hr := LinesTame.refuseTake s l slot m o
    exact (hs.of_tame hr).afterTake (by rw [isUp_of_status (hr.domains _).1, hu]) slot first
  · exact fun slot _ => (hs.updLane l _).noVisit
  · intro slot m a route b _ _ hj
    exact (hs.acceptRequest hu hj slot b).afterTake ((isUp_of_status (acceptRequest_status ..)).trans hu) slot first
  · intro slot m a route b _ _ hj
    exact (hs.acceptNotice hj slot b).afterTake ((isUp_of_status (by simp [State.acceptNotice])).trans hu) slot first
  · intro slot m i x b _ _ _
    exact (hs.acceptAnswer l slot m i x b).afterTake ((isUp_of_status (by simp [State.acceptAnswer])).trans hu) slot first

theorem LinesSound.take (hs : LinesSound s) (h : exec .take s = .next t) : LinesSound t := by
  refine take_induction h hs fun l first hb => ?_
  have hv : LinesSound (s.visiting l first) := by
    unfold State.visiting
    split
    · exact hs.same (by simp [SameLines]) (by simp [SameDomains])
    · exact hs
  have hu := isUp_of_takeBegins hs.2 hb
  exact hv.takeFor (by rw [← hu]; exact isUp_of_status (by cases first <;> simp [State.visiting])) first

end
end Sys2Proof.Machine

/-! PROOFS. The hub service and the line requests keep the lines safe (O56). -/

namespace Sys2Proof.Machine

section
variable {s t u : State}

/-! ## The hub service -/

theorem LinesSound.hubTake (hs : LinesSound s) (m : Message) : LinesSound (s.hubTake m) := by
  refine hs.of_tame ⟨⟨by simp, by simp, fun hl => .inl (by simpa using hl), fun x hx => ?_, by simp⟩, by simp [SameDomains]⟩
  have : x ∈ s.hub.fifo.tail := by simpa [State.hubTake] using hx
  exact List.mem_of_mem_tail this

theorem LinesSound.finish (hs : LinesSound s) (m : Message) (code : Nat) (r : HubResult) (detail : Nat) (data : List Byte) :
    LinesSound (s.finish m code r detail data) := hs.same (by simp [SameLines]) (by simp [SameDomains])

theorem LinesSound.completeJobs (hs : LinesSound s) (job : Job) (r : HubResult) (detail : Nat) :
    LinesSound (s.completeJobs job r detail) := hs.same (by simp [SameLines]) (by simp [SameDomains])

theorem LinesSound.addOutstanding (hs : LinesSound s) (job : Job) (m : Message) : LinesSound (s.addOutstanding job m) :=
  hs.same (by simp [SameLines]) (by simp [SameDomains])

theorem LinesSound.evaluate (hs : LinesSound s) : LinesSound s.evaluate := hs.of_tame (LinesTame.refl s).evaluate

/-- A lane whose domain is UP, and no application lane in LOCKDOWN, may drive lines. -/
def MayDrive (s : State) (l : Lane) : Prop :=
  s.isUp l.domain = true ∧ (s.hub.mode = .lockdown → l.isApp = false)

theorem mayDrive_of_hubTakes (hs : LinesSafe s) {m : Message} (h : HubTakes s m) : MayDrive (s.hubTake m) m.sender := by
  obtain ⟨-, -, -, h⟩ := h
  obtain ⟨b, hb, rfl⟩ := Option.map_eq_some_iff.1 h
  obtain ⟨hu, hl⟩ := hs.2.1 b (List.mem_of_mem_head? hb)
  exact ⟨by rw [← hu]; exact isUp_of_status (by simp), by simpa using hl⟩

/-- A request is served soundly where its execution is sound for a sender that may drive lines. -/
theorem LinesSound.serve (hs : LinesSound s) {q : HubRequest}
    (run : ∀ u m, q.judge u m = none → LinesSound u → MayDrive u m.sender → LinesSound (q.run u m)) :
    LinesSound (q.serve s) := by
  refine serve_induction hs (fun m r detail _ => ?_) fun m ht hj => run _ m hj (hs.hubTake m) (mayDrive_of_hubTakes hs.2 ht)
  refine LinesSound.finish (LinesSound.of_tame (hs.hubTake m) ?_) _ _ _ _ _
  exact LinesTame.ite (fun _ => (LinesTame.refl _).violate _) fun _ => LinesTame.refl _

/-! ## Lines -/

/-- A line that rests, or that its owner may drive. -/
theorem LinesSound.setLine (hs : LinesSound s) {n : Fin 12} {r : Line}
    (h : ∀ d, r.entry.owner = some d → r.output = .resting ∨ (s.isUp d = true ∧ ¬(d = .app ∧ s.hub.mode = .lockdown))) :
    LinesSound (s.setLine n r) := by
  refine ⟨hs.1.of_same (by simp [SameDomains]), fun k d ho hd => ?_, fun x hx => ?_, fun l hl => ?_⟩
  · have hu : (s.setLine n r).isUp d = s.isUp d := isUp_of_status (by simp)
    rw [hu, State.setLine_hub] at hd
    rw [State.line_setLine] at ho ⊢
    split at ho
    · rw [if_pos ‹_›]
      rcases h d ho with hr | ⟨h1, h2⟩
      · exact hr
      · rcases hd with hd | hd
        · rw [hd] at h1; cases h1
        · exact absurd hd h2
    · rw [if_neg ‹_›]; exact hs.2.1 k d ho hd
  · simpa [State.isUp] using hs.2.2.1 x hx
  · simpa [State.isUp] using hs.2.2.2 l hl

/-- A line that keeps its owner and its output. -/
theorem LinesSound.setLine_same (hs : LinesSound s) {n : Fin 12} {r : Line} (ho : r.entry.owner = (s.line n).entry.owner)
    (hr : r.output = (s.line n).output ∨ r.output = .resting) : LinesSound (s.setLine n r) := by
  refine hs.of_tame ⟨⟨fun k => ?_, fun k => ?_, fun hl => .inl (by simpa using hl), fun x hx => by simpa using hx,
    by simp⟩, by simp [SameDomains]⟩
  · rw [State.line_setLine]; split
    · next hk => rw [hk, ho]
    · rfl
  · rw [State.line_setLine]; split
    · next hk => rw [hk]; exact hr
    · exact .inl rfl

theorem LinesSound.evaluateMismatch (hs : LinesSound s) (was : Bool) (n : Fin 12) :
    LinesSound (State.evaluateMismatch was n s) := by
  unfold State.evaluateMismatch
  split
  · exact hs
  · exact hs.evaluate

theorem LinesSound.mapLine (hs : LinesSound s) (n : Fin 12) (e : LineEntry) : LinesSound (s.mapLine n e) := by
  refine LinesSound.evaluateMismatch (hs.setLine fun d _ => .inl ?_) _ _
  unfold Line.map; split <;> rfl

/-- A request to drive a line is carried out for the line's owner (R155). -/
theorem LinesSound.setOutput (hs : LinesSound s) {m : Message} (hm : MayDrive s m.sender)
    (hr : driveRefused s m = none) (o : OutputState) : LinesSound (s.setOutput (lineOf m.payload) o) := by
  have owner : (s.line (lineOf m.payload)).entry.owner = some m.sender.domain := by
    unfold driveRefused at hr
    dsimp only at hr
    split at hr
    · cases hr
    · exact not_not.1 ‹_›
  refine hs.setLine fun d hd => .inr ?_
  obtain ⟨hu, hl⟩ := hm
  have hd' : m.sender.domain = d := by simpa [owner] using hd
  subst hd'
  refine ⟨hu, fun ⟨ha, hk⟩ => ?_⟩
  have := hl hk
  cases hsnd : m.sender <;> simp_all [Lane.domain, Lane.isApp]

theorem LinesSound.filteredChange (hs : LinesSound s) (n : Fin 12) (level : Bool) : LinesSound (s.filteredChange n level) := by
  have ht := hs.setLine_same (n := n) (r := (s.line n).take level) rfl (.inl rfl)
  refine LinesSound.evaluateMismatch (ht.same ?_ ?_) _ _
  · unfold State.tellOwner; dsimp only; (repeat' split) <;> simp [SameLines]
  · unfold State.tellOwner; dsimp only; (repeat' split) <;> simp [SameDomains]

theorem LinesSound.settle (hs : LinesSound s) (n : Fin 12) (level : Bool) : LinesSound (s.settle n level) :=
  (hs.setLine_same (n := n) (r := (s.line n).take level) rfl (.inl rfl)).evaluateMismatch _ _

theorem LinesSound.setFilter (hs : LinesSound s) (n : Fin 12) (f : Filter) : LinesSound (s.setFilter n f) :=
  hs.setLine_same rfl (.inl rfl)

theorem LinesSound.sampleLine (hs : LinesSound s) (levels : BitVec 12) (n : Fin 12) :
    LinesSound (State.sampleLine levels s n) := by
  unfold State.sampleLine
  dsimp only
  split
  · exact hs
  · exact hs.setFilter n _
  · split_ifs
    · exact hs.setFilter n _
    · exact hs.setFilter n _
    · exact hs.settle n _
  · split_ifs
    · exact hs.setFilter n _
    · exact hs.setFilter n _
    · exact hs.filteredChange n _

theorem LinesSound.foldl {α : Type} {f : State → α → State} (hf : ∀ t a, LinesSound t → LinesSound (f t a))
    (hs : LinesSound s) (xs : List α) : LinesSound (xs.foldl f s) := by
  induction xs generalizing s with
  | nil => exact hs
  | cons x xs ih => exact ih (hf s x hs)

end
end Sys2Proof.Machine

/-! PROOFS. Every command keeps the lines safe (O56). -/

namespace Sys2Proof.Machine

/-! ## The commands keep the lines safe -/

section
variable {s t u : State}

/-- A hub mode other than LOCKDOWN withholds nothing. -/
theorem DrivesLess.setMode (h : DrivesLess s t) {m : HubMode} (hm : m ≠ .lockdown) : DrivesLess s (t.setMode m) :=
  h.trans ⟨by simp, by simp, fun hl => absurd (by simpa [State.setMode] using hl) hm, by simp [State.setMode], by simp⟩

theorem LinesSound.setMode (hs : LinesSound s) {m : HubMode} (hm : m ≠ .lockdown) : LinesSound (s.setMode m) :=
  hs.of_tame ⟨(DrivesLess.refl s).setMode hm, by simp [SameDomains]⟩

theorem LinesSound.installRoutes (hs : LinesSound s) (table : List Route) : LinesSound (s.installRoutes table) := by
  have hr : LinesSound { s with routes := table, hub := { s.hub with routesLoaded := true } } :=
    hs.same (by simp [SameLines]) (by simp [SameDomains])
  unfold State.installRoutes
  dsimp only
  split
  · exact hr.setMode nofun
  · exact hr

theorem LinesSound.loadRoutesCompletion (hs : LinesSound s) (h : exec .loadRoutesCompletion s = .next t) : LinesSound t := by
  have hr : LinesSound { s with hub := { s.hub with loading := none } } :=
    hs.same (by simp [SameLines]) (by simp [SameDomains])
  simp only [exec, execLoadRoutesCompletion] at h
  split at h
  · cases h; exact hs
  · split at h <;> cases h
    · exact (hr.installRoutes _).completeJobs _ _ _
    · exact hr.completeJobs _ _ _

/-- RESTART HUB empties the HUB FIFO and leaves LOCKDOWN before the combiner is evaluated. -/
theorem LinesSound.clearHub (hs : LinesSound s) : LinesSound s.clearHub := by
  have hub : s.clearHub.hub = Hub.reset := by simp [State.clearHub, State.dropExchanges]
  refine hs.of_tame ⟨⟨?_, ?_, fun hl => ?_, fun x hx => ?_, ?_⟩, ?_⟩
  · simp [State.clearHub, State.dropExchanges]
  · simp [State.clearHub, State.dropExchanges]
  · rw [hub] at hl; cases hl
  · rw [hub] at hx; cases hx
  · simp [State.clearHub]
  · simp [SameDomains, State.clearHub, State.dropExchanges]

theorem LinesSound.restore (hs : LinesSound s) (l : Lane) : LinesSound (s.restore l) := by
  unfold State.restore
  dsimp only
  split
  · exact hs.of_tame ((LinesTame.same (LinesTame.refl s) (by simp [SameLines]) (by simp [SameDomains])).evaluateViol s)
  · exact hs.updLane l _

theorem LinesSound.cancelRelease (hs : LinesSound s) {d : Domain} (hd : s.isHeld d = true) : LinesSound (s.cancelRelease d) := by
  have hd : (s.dom d).status = .held := by simpa [State.isHeld] using hd
  exact hs.updDom (hs.2.silent (by simp [hd])) (hs.1.1 d).1 nofun fun e => e ▸ hs.1.2

theorem LinesSound.hold (hs : LinesSound s) {d : Domain} (hd : d ≠ .pay) : LinesSound (s.hold d) := by
  unfold State.hold
  split
  · exact (hs.cancelRelease ‹_›).completeJobs _ _ _
  · exact hs.holdDomain hd

theorem resetDomainOf_ne_pay (p : List Byte) : resetDomainOf p ≠ .pay := by
  unfold resetDomainOf; split <;> simp

/-- A domain that becomes HELD may have its release scheduled (R113). -/
theorem LinesSound.schedule (hs : LinesSound s) {d : Domain} (hd : d ≠ .pay) (time : Nat) :
    LinesSound ((s.holdDomain d).updDom d fun r => { r with release := some time }) := by
  have hh := hs.holdDomain hd
  have hst : ((s.holdDomain d).dom d).status = .held := by simp [State.holdDomain]
  exact hh.updDom (hh.2.silent (by simp [hst])) (hh.1.1 d).1 (fun _ => hst) fun e => absurd e hd

theorem LinesSound.pulseRelease (hs : LinesSound s) {d : Domain} (hd : s.releaseDue d = true) : LinesSound (s.releaseDomain d) := by
  obtain ⟨time, ht, -⟩ := (Option.any_eq_true _ _).1 hd
  exact hs.releaseDomain (by rw [(hs.1.1 d).2 (by simp [ht])]; simp)

/-! ### Ports -/

/-- A change of a domain's record that leaves its state. -/
theorem LinesSound.domData (hs : LinesSound s) {d : Domain} {f : DomainRecord → DomainRecord}
    (hf : ∀ r, (f r).status = r.status ∧ (f r).initialising = r.initialising ∧ (f r).release = r.release) :
    LinesSound (s.updDom d f) := by
  refine hs.same (by simp [SameLines]) fun k => ?_
  rw [State.dom_updDom]
  split
  · next hk => rw [hk]; exact hf _
  · exact ⟨rfl, rfl, rfl⟩

theorem LinesSound.setNotices (hs : LinesSound s) (d : Domain) (groups : Half) (p : List Byte) :
    LinesSound (s.updDom d fun r => r.setNotices groups p) := hs.domData fun _ => ⟨rfl, rfl, rfl⟩

theorem LinesSound.returnData (hs : LinesSound s) (d : Domain) (w : Word) : LinesSound (s.returnData d w) :=
  hs.domData fun _ => ⟨rfl, rfl, rfl⟩

theorem LinesSound.clearStray (hs : LinesSound s) (d : Domain) : LinesSound (s.clearStray d) :=
  hs.domData fun _ => ⟨rfl, rfl, rfl⟩

theorem LinesSound.clearFlags (hs : LinesSound s) (d : Domain) (mask : Word) : LinesSound (s.clearFlags d mask) :=
  hs.same (by simp [SameLines]) (by simp [SameDomains])

theorem LinesSound.writeWindow (hs : LinesSound s) (d : Domain) (a : Nat) (bs : List Byte) :
    LinesSound (s.writeWindow d a bs) := hs.domData fun _ => ⟨rfl, rfl, rfl⟩

theorem LinesSound.storeWindow (hs : LinesSound s) (d : Domain) (a : Nat) (bs : List Byte) :
    LinesSound (s.storeWindow d a bs) := by
  unfold State.storeWindow
  split <;> exact hs.writeWindow d _ _

theorem LinesSound.strayAccess (hs : LinesSound s) (d : Domain) (op : PortOp) : LinesSound (s.strayAccess d op) := by
  have ht := hs.domData (d := d) (f := fun r => { r with stray := bumpByte r.stray }) fun _ => ⟨rfl, rfl, rfl⟩
  cases op with
  | read => exact ht.returnData d _
  | write => exact ht

theorem LinesSound.access (hs : LinesSound s) (d : Domain) (offset size : Nat) (op : PortOp) :
    LinesSound (s.access d offset size op) := by
  unfold State.access
  split
  · cases op with
    | read => exact hs.returnData d _
    | write => exact hs.storeWindow d _ _
  split
  · next r _ =>
    cases op with
    | read => exact hs.returnData d _
    | write value =>
      cases r with
      | attention => exact hs.writeAttention d value
      | acknowledge => exact hs.clearFlags d value
      | status => exact hs
      | identity => exact hs.clearStray d
  · exact hs.strayAccess d op

theorem LinesSound.portAccess (hs : LinesSound s) {d : Domain} {offset size : Nat} {op : PortOp}
    (h : exec (.portAccess d offset size op) s = .next t) : LinesSound t := by
  simp only [exec, execPortAccess] at h
  (repeat' split at h) <;> cases h
  · exact hs.returnData d _
  · exact hs
  · exact hs.access d offset size op
  · exact hs

theorem LinesSound.portCommand (hs : LinesSound s) (ht : LinesSound t) {d : Domain} :
    LinesSound (if s.portOpen d then t else s) := by
  split
  · exact ht
  · exact hs

theorem LinesSound.boardInitialisationComplete (hs : LinesSound s) {d : Domain}
    (h : exec (.boardInitialisationComplete d) s = .next t) : LinesSound t := by
  simp only [exec, execBoardInitialisationComplete] at h
  split at h <;> cases h
  · exact hs
  · next hi => exact hs.finishInit (by simp [hi])

/-! ### Messages -/

theorem LinesSound.removeAt (hs : LinesSound s) (l : Lane) (place : Nat) : LinesSound (s.removeAt l place) :=
  hs.same (by simp [SameLines]) (by simp [SameDomains])

theorem LinesSound.raise (hs : LinesSound s) (d : Domain) (f : Flag) : LinesSound (s.raise d f) :=
  hs.same (by simp [SameLines]) (by simp [SameDomains])

theorem LinesSound.tellDelivered (hs : LinesSound s) (e : Entry) : LinesSound (s.tellDelivered e) := by
  have requestDelivered : ∀ tag, LinesSound (s.requestDelivered tag) := fun tag => by
    unfold State.requestDelivered
    split
    · exact hs
    · split
      · exact hs.same (by simp [SameLines]) (by simp [SameDomains])
      all_goals exact hs
  cases e with
  | message h =>
    unfold State.tellDelivered
    dsimp only
    split
    · exact requestDelivered _
    · exact hs
  | reply | cell => exact hs
  | conclusion i => exact hs.same (by simp [SameLines, State.tellDelivered]) (by simp [SameDomains, State.tellDelivered])

theorem LinesSound.deliver (hs : LinesSound s) (l : Lane) (e : Entry) (slot : Nat) : LinesSound (s.deliver l e slot) := by
  have hw := hs.writeWindow l.domain (l.inSlot slot) ((s.envelopeOf l e).bytes (s.lane l).deliveryNumber)
  exact LinesSound.tellDelivered (LinesSound.raise (LinesSound.removeAt (hw.updLane l _) l 0) _ _) e

theorem LinesSound.delivery (hs : LinesSound s) {l : Lane} (h : exec (.delivery l) s = .next t) : LinesSound t := by
  simp only [exec, execDelivery] at h
  (repeat' split at h) <;> cases h
  · exact hs
  · exact hs
  · exact hs.updLane l _
  · exact hs.deliver l _ _

theorem LinesSound.drop (hs : LinesSound s) {l : Lane} {place : Nat}
    (h : exec (.holdLimitDrop l place) s = .next t ∨ exec (.eventCellDrop l place) s = .next t) : LinesSound t := by
  simp only [exec, execHoldLimitDrop, execEventCellDrop] at h
  rcases h with h | h <;> split at h <;> cases h
  · exact hs.same (by simp [SameLines]) (by simp [SameDomains])
  · exact hs
  · exact hs.same (by simp [SameLines]) (by simp [SameDomains])
  · exact hs

theorem LinesSound.unknownRequestCode (hs : LinesSound s) (h : exec .unknownRequestCode s = .next t) : LinesSound t := by
  simp only [exec, execUnknownRequestCode] at h
  (repeat' split at h) <;> cases h
  · exact hs
  · exact (hs.hubTake _).finish _ _ _ _ _
  · exact hs

@[simp] theorem removeRequest_hub (s : State) (tag : Nat) : (s.removeRequest tag).hub = s.hub := by
  rw [State.removeRequest, filterFifos_hub]; simp

@[simp] theorem expire_hub (s : State) (i : Fin 48) : (s.expire i).hub = s.hub := by
  unfold State.expire
  (repeat' split) <;> simp

theorem LinesSound.expire (hs : LinesSound s) (i : Fin 48) : LinesSound (s.expire i) :=
  hs.same (by simp [SameLines]) (by simp [SameDomains])

theorem LinesSound.rest (hs : LinesSound s) (n : Fin 12) : LinesSound (s.setOutput n .resting) :=
  hs.setLine_same (n := n) (r := { s.line n with output := .resting }) rfl (.inr rfl)

/-! ### The panel, the touch link and the keys -/

theorem LinesSound.panel (hs : LinesSound s) (p : Panel) : LinesSound { s with panel := p } :=
  hs.same (by simp [SameLines]) (by simp [SameDomains])

theorem LinesSound.touch (hs : LinesSound s) (x : Touch) : LinesSound { s with touch := x } :=
  hs.same (by simp [SameLines]) (by simp [SameDomains])

theorem LinesSound.outputRest (hs : LinesSound s) : LinesSound s.beginPanelEvent.outputRest :=
  hs.same (by simp [SameLines]) (by simp [SameDomains])

theorem LinesSound.outputSlot (hs : LinesSound s) (row : Option (List Pixel)) :
    LinesSound (s.beginPanelEvent.outputSlot row) := hs.same (by simp [SameLines]) (by simp [SameDomains])

theorem LinesSound.frameStart (hs : LinesSound s) : LinesSound s.frameStart :=
  hs.same (by simp [SameLines]) (by simp [SameDomains])

theorem LinesSound.setFrameMode (hs : LinesSound s) (m : FrameMode) : LinesSound (s.setFrameMode m) :=
  LinesSound.evaluate (hs.same (by simp [SameLines]) (by simp [SameDomains]))

theorem LinesSound.panelCommand (hs : LinesSound s) {c : Instr}
    (hc : c ∈ [.appFrameStart, .videoLoss, .freeRunRowSlot, .freeRunFrameEnd]) (h : exec c s = .next t) : LinesSound t := by
  have hb : LinesSound s.beginPanelEvent := hs.panel _
  fin_cases hc <;> dsimp only [exec] at h
  · simp only [execAppFrameStart] at h
    (repeat' split at h) <;> cases h
    · exact hs
    · exact (hs.outputRest.panel _).frameStart
    · exact ((hb.setFrameMode _).panel _).frameStart
  · cases h
    split
    · exact (hs.outputRest.setFrameMode _).frameStart.panel _
    · exact hs
  · cases h
    split
    · exact hs.outputSlot none
    · exact hs
  · cases h
    split
    · exact hb.frameStart.panel _
    · exact hs

theorem LinesSound.appInputRow (hs : LinesSound s) {px : List Pixel} (h : exec (.appInputRow px) s = .next t) : LinesSound t := by
  simp only [exec, execAppInputRow] at h
  (repeat' split at h) <;> cases h
  · exact hs
  · exact hs
  · exact hs.outputSlot _
  · exact hs

theorem LinesSound.produce (hs : LinesSound s) (owner : Option Lane) (e : InputEvent) : LinesSound (s.produce owner e) := by
  cases owner with
  | none => exact hs
  | some l => exact hs.same (by simp [SameLines, State.produce]) (by simp [SameDomains, State.produce])

theorem LinesSound.setKey (hs : LinesSound s) (k : Fin 16) (r : Key) : LinesSound (s.setKey k r) :=
  hs.same (by simp [SameLines]) (by simp [SameDomains])

theorem LinesSound.acceptKey (hs : LinesSound s) (k : Fin 16) : LinesSound (s.acceptKey k) := by
  unfold State.acceptKey
  split
  · exact (hs.produce _ _).setKey k _
  · exact (hs.produce _ _).setKey k _

theorem LinesSound.senseKey (hs : LinesSound s) (down : BitVec 16) (k : Fin 16) : LinesSound (State.senseKey down s k) := by
  unfold State.senseKey
  dsimp only
  split_ifs
  · exact hs.setKey k _
  · exact hs.setKey k _
  · exact hs.acceptKey k

theorem LinesSound.setContact (hs : LinesSound s) (i : Fin 2) (c : Option Contact) : LinesSound (s.setContact i c) :=
  hs.same (by simp [SameLines]) (by simp [SameDomains])

theorem LinesSound.takeContact (hs : LinesSound s) (c : RawContact) : LinesSound (s.takeContact c) := by
  unfold State.takeContact
  split
  · unfold State.touchContact
    split
    · exact (hs.produce _ _).setContact _ _
    · exact hs
    · exact hs
    · exact hs
    · exact (((hs.produce _ _).setContact _ _).produce _ _).setContact _ _
    · exact (hs.produce _ _).setContact _ _
    · exact (hs.produce _ _).setContact _ _
    · exact hs
  · exact hs

theorem LinesSound.takeReport (hs : LinesSound s) (report : List RawContact) : LinesSound (s.takeReport report) :=
  hs.foldl (fun _ c ht => ht.takeContact c) _

theorem LinesSound.dropReport (hs : LinesSound s) : LinesSound s.dropReport := (hs.updLane _ _).raise _ _

theorem LinesSound.touchCommand (hs : LinesSound s)
    (h : exec .reportReadyFall s = .next t ∨ ∃ report low, exec (.touchReadCompletion report low) s = .next t) : LinesSound t := by
  rcases h with h | ⟨report, low, h⟩
  · simp only [exec, execReportReadyFall] at h
    (repeat' split at h) <;> cases h
    · exact hs
    all_goals exact hs.touch _
  · simp only [exec, execTouchReadCompletion] at h
    split at h <;> cases h
    · exact hs
    · exact hs.touch _
    · exact hs.dropReport.touch _
    all_goals exact (hs.takeReport _).touch _

theorem LinesSound.keyCommand (hs : LinesSound s)
    (h : (∃ down, exec (.keySense down) s = .next t) ∨ ∃ k, exec (.keyChangeAccepted k) s = .next t) : LinesSound t := by
  rcases h with ⟨down, h⟩ | ⟨k, h⟩
  · simp only [exec, execKeySense] at h
    split at h <;> cases h
    · exact hs
    · exact hs.foldl (fun _ k ht => ht.senseKey down k) _
  · simp only [exec, execKeyChangeAccepted] at h
    split at h <;> cases h
    · exact hs.acceptKey k
    · exact hs

theorem LinesSound.lineCommand (hs : LinesSound s) (h : (∃ levels, exec (.lineSample levels) s = .next t)
    ∨ ∃ n, exec (.filteredChange n) s = .next t ∨ exec (.settlingEnd n) s = .next t) : LinesSound t := by
  rcases h with ⟨levels, h⟩ | ⟨n, h | h⟩
  · simp only [exec, execLineSample] at h
    split at h
    · cases h; exact hs
    · rw [← Host.Outcome.next.inj h]; exact hs.foldl (fun _ n ht => ht.sampleLine levels n) _
  · simp only [exec, execFilteredChange] at h
    split at h <;> cases h
    · exact hs.filteredChange n _
    all_goals exact hs
  · simp only [exec, execSettlingEnd] at h
    split at h <;> cases h
    · exact hs.settle n _
    all_goals exact hs

theorem LinesSound.restartHub (hs : LinesSound s) (m : Message) : LinesSound (restartHubRequest.run s m) :=
  hs.clearHub.evaluate.same (by simp [SameLines, restartHubRequest]) (by simp [SameDomains, restartHubRequest])

theorem LinesSound.fence (hs : LinesSound s) (l : Lane) : LinesSound (if (s.lane l).fenced then s else s.fenceLane l) := by
  split
  · exact hs
  · exact hs.of_tame ((LinesTame.refl s).fenceLane l)

/-- Every command but a reset keeps the lines safe. -/
theorem exec_linesSound {c : Instr} (hs : LinesSound s) (hc : c.isReset = false) (h : exec c s = .next t) : LinesSound t := by
  cases c
  case powerOnReset => cases hc
  case pinReset => cases hc
  case resetEnd => cases hc
  case portAccess => exact hs.portAccess h
  case attentionLanes d v => cases h; exact hs.portCommand (hs.writeAttention d v)
  case selfAnnouncedRestart d => cases h; exact hs.portCommand (hs.selfRestart d)
  case boardInitialisationComplete => exact hs.boardInitialisationComplete h
  case acknowledge d v => cases h; exact hs.portCommand (hs.clearFlags d v)
  case identityWrite d _ => cases h; exact hs.portCommand (hs.clearStray d)
  case statusWrite => cases h; exact hs
  case take => exact hs.take h
  case refill => cases h; exact hs.same (by simp [SameLines]) (by simp [SameDomains])
  case delivery => exact hs.delivery h
  case holdLimitDrop => exact hs.drop (.inl h)
  case eventCellDrop => exact hs.drop (.inr h)
  case expiry i =>
    cases h
    split
    · exact hs.expire i
    · exact hs
  case unknownRequestCode => exact hs.unknownRequestCode h
  case loadRoutes =>
    cases h; exact hs.serve fun u m _ hu _ =>
      LinesSound.addOutstanding (hu.same (by simp [SameLines]) (by simp [SameDomains])) _ m
  case loadRoutesCompletion => exact hs.loadRoutesCompletion h
  case setPanes => cases h; exact hs.serve fun _ m _ hu _ => ((hu.panel _).completeJobs _ _ _).addOutstanding _ m
  case scrollPane => cases h; exact hs.serve fun _ m _ hu _ => (hu.panel _).addOutstanding _ m
  case setCalibration => cases h; exact hs.serve fun _ m _ hu _ => (hu.touch _).finish m _ _ _ _
  case setFocus => cases h; exact hs.serve fun _ m _ hu _ => (hu.touch _).finish m _ _ _ _
  case setLineMap => cases h; exact hs.serve fun _ m _ hu _ => (hu.mapLine _ _).finish m _ _ _ _
  case setCombiner =>
    cases h; exact hs.serve fun u m _ hu _ =>
      LinesSound.finish (LinesSound.evaluate (hu.same (by simp [SameLines]) (by simp [SameDomains]))) m _ _ _ _
  case driveLine =>
    cases h; exact hs.serve fun _ m hj hu hm => (hu.setOutput hm (judge_eq_none hj).2.2.2.2 _).finish m _ _ _ _
  case driveLinePulse =>
    cases h; exact hs.serve fun _ m hj hu hm => (hu.setOutput hm (judge_eq_none hj).2.2.2.2 _).finish m _ _ _ _
  case pulseEnd n =>
    cases h
    split
    · exact hs.rest n
    · exact hs
  case setNotices => cases h; exact hs.serve fun _ m _ hu _ => (hu.setNotices _ _ _).finish m _ _ _ _
  case domainResetHold => cases h; exact hs.serve fun _ m _ hu _ => (hu.hold (resetDomainOf_ne_pay _)).finish m _ _ _ _
  case domainResetRelease =>
    cases h
    refine hs.serve fun u m hj hu _ => ((hu.releaseDomain ?_).completeJobs _ _ _).finish m _ _ _ _
    obtain ⟨-, -, -, -, hr⟩ := judge_eq_none hj
    intro e
    simp [domainResetReleaseRequest, State.isHeld, e] at hr
  case domainResetPulse =>
    cases h; exact hs.serve fun _ m _ hu _ => (hu.schedule (resetDomainOf_ne_pay _) _).addOutstanding _ m
  case pulseRelease d =>
    cases h
    split
    · exact (hs.pulseRelease ‹_›).completeJobs _ _ _
    · exact hs
  case fenceLane => cases h; exact hs.serve fun _ m _ hu _ => (hu.fence _).finish m _ _ _ _
  case restoreLane => cases h; exact hs.serve fun _ m _ hu _ => (hu.restore _).finish m _ _ _ _
  case setViolationLimit => cases h; exact hs.serve fun _ m _ hu _ => (hu.updLane _ _).finish m _ _ _ _
  case readCounters => cases h; exact hs.serve fun _ m _ hu _ => (hu.updLane _ _).finish m _ _ _ _
  case status => cases h; exact hs.serve fun _ m _ hu _ => hu.finish m _ _ _ _
  case resume =>
    cases h
    refine hs.serve fun u m _ hu _ => (hu.setMode ?_).finish m _ _ _ _
    split <;> simp
  case restartHub => cases h; exact hs.serve fun _ m _ hu _ => hu.restartHub m
  case appFrameStart => exact hs.panelCommand (by decide) h
  case appInputRow => exact hs.appInputRow h
  case videoLoss => exact hs.panelCommand (by decide) h
  case freeRunRowSlot => exact hs.panelCommand (by decide) h
  case freeRunFrameEnd => exact hs.panelCommand (by decide) h
  case reportReadyFall => exact hs.touchCommand (.inl h)
  case touchReadCompletion => exact hs.touchCommand (.inr ⟨_, _, h⟩)
  case keySense => exact hs.keyCommand (.inl ⟨_, h⟩)
  case keyChangeAccepted => exact hs.keyCommand (.inr ⟨_, h⟩)
  case lineSample => exact hs.lineCommand (.inl ⟨_, h⟩)
  case filteredChange => exact hs.lineCommand (.inr ⟨_, .inl h⟩)
  case settlingEnd => exact hs.lineCommand (.inr ⟨_, .inr h⟩)

end
end Sys2Proof.Machine

/-! PROOFS. The resets, and the lines (O56). -/

namespace Sys2Proof.Machine

/-! ## Resets and the lines -/

section
variable {s t : State}

/-- Where every domain is silent, the lines are safe. -/
theorem linesSound_of_silent (hd : DomainsSound s) (hq : ∀ d, Silent s d) : LinesSound s :=
  ⟨hd, fun n d ho _ => (hq d).1 n ho, fun x hx => absurd rfl ((hq _).2.1 x hx), fun l hl => absurd rfl ((hq _).2.2 l hl)⟩

/-- Where every line rests, no request waits and no visit is in progress, every domain is silent. -/
theorem silent_of_rest (hl : ∀ n, (s.line n).output = .resting) (hf : s.hub.fifo = []) (hv : s.scanner.visit = none)
    (d : Domain) : Silent s d :=
  ⟨fun n _ => hl n, by simp [hf], by simp [hv]⟩

/-- Where every domain is WAITING, with no release pending, the domains' states are sound. -/
theorem domainsSound_of_waiting (h : ∀ d, (s.dom d).status = .waiting ∧ (s.dom d).release = none) : DomainsSound s :=
  ⟨fun d => ⟨fun _ => (h d).1, by simp [(h d).2]⟩, fun e => by cases e.symm.trans (h .pay).1⟩

theorem linesSound_of_standsReset (h : StandsReset s) : LinesSound s :=
  linesSound_of_silent (domainsSound_of_waiting fun d => ⟨h.status d, h.release d⟩)
    (silent_of_rest (by simp [h.line, Line.reset]) (by simp [h.hub, Hub.reset]) (by simp [h.scanner]))

theorem linesSound_resetEnd (hs : ResetHolds s) (hl : LinesSound s) {low : Bool} (h : exec (.resetEnd low) s = .next t) :
    LinesSound t := by
  dsimp only [exec] at h
  unfold execResetEnd at h
  split at h
  · next hr =>
    obtain hr := standsReset hs hr
    rw [← Host.Outcome.next.inj h]
    refine linesSound_of_silent (domainsSound_of_waiting fun d => ?_) (silent_of_rest (fun n => ?_) ?_ ?_)
    · have := hr.release d
      cases d <;> simpa [State.startInit, State.dom_updDom] using this
    · simp [hr.line, Line.reset]
    · simp [hr.hub, Hub.reset]
    · simp [hr.scanner]
  · cases h; exact hl

/-- Every command keeps the lines safe in a part that, in reset, stands as the reset left it. -/
theorem exec_linesSound_resetHolds {c : Instr} (hs : ResetHolds s ∧ LinesSound s) (h : exec c s = .next t) :
    ResetHolds t ∧ LinesSound t := by
  have ht := exec_resetHolds hs.1 h
  refine ⟨ht, ?_⟩
  cases hc : c.isReset with
  | false => exact exec_linesSound hs.2 hc h
  | true =>
    rcases Instr.isReset_eq_true hc with rfl | rfl | ⟨low, rfl⟩
    · cases h; exact linesSound_of_standsReset (standsReset ht rfl)
    · cases h; exact linesSound_of_standsReset (standsReset ht rfl)
    · exact linesSound_resetEnd hs.1 hs.2 h

end

/-- Settles O56: a change that drives no line (`DrivesLess`), a domain that is silent when it changes its state, and a hub
request that drives a line for a domain that is UP. -/
theorem linesRestKept : Obligations.LinesRestKept := by
  unfold Obligations.LinesRestKept
  refine kept_of_exec (p := fun s => ResetHolds s ∧ LinesSound s) (fun s rest hs => ⟨hs.1.queue rest, ?_⟩)
    (fun s hs => ⟨hs.1.tick, ?_⟩) fun _ _ _ => exec_linesSound_resetHolds
  · exact hs.2.same (by simp [SameLines]) (by simp [SameDomains])
  · exact hs.2.same (by simp [SameLines, State.tick]) (by simp [SameDomains, State.tick])

end Sys2Proof.Machine

/-! PROOFS. The resets: what the part holds at their end (O3, O4). -/

namespace Sys2Proof.Machine

/-! ## The records of the reset state -/

@[simp] theorem reset_dom (d : Domain) : State.reset.dom d = DomainRecord.reset [] (some 0) := by cases d <;> rfl

@[simp] theorem reset_lane (l : Lane) : State.reset.lane l = LaneState.reset := by simp [State.lane, State.reset]

@[simp] theorem reset_entry (i : Fin 48) : State.reset.entry i = ⟨0#10, .free⟩ := by simp [State.entry, State.reset]

@[simp] theorem reset_contact (i : Fin 2) : State.reset.contact i = none := by simp [State.contact, State.reset, Touch.reset]

@[simp] theorem reset_key (k : Fin 16) : State.reset.key k = ⟨false, 0, none⟩ := by simp [State.key, State.reset, Key.reset]

@[simp] theorem reset_line (n : Fin 12) : State.reset.line n = Line.reset (.settling none) := by simp [State.line, State.reset]

@[simp] theorem reset_hub : State.reset.hub = Hub.reset := rfl

@[simp] theorem reset_boardEntries : State.reset.boardEntries = [] := by simp [State.boardEntries, LaneState.reset]

@[simp] theorem reset_heldMessages : State.reset.heldMessages = [] := by
  simp [State.heldMessages, Hub.reset]

@[simp] theorem reset_heldReplies : State.reset.heldReplies = [] := by simp [State.heldReplies]

/-! ## The invariants hold of it -/

theorem reset_linesSound : LinesSound State.reset :=
  linesSound_of_silent (domainsSound_of_waiting fun d => by simp [DomainRecord.reset])
    (silent_of_rest (by simp [Line.reset]) rfl rfl)

theorem reset_windowsSound : WindowsSound State.reset where
  window d := by
    rw [reset_dom]; exact windowSound_nil d
  fifo l e he := by simp [LaneState.reset] at he
  hub := nofun

theorem reset_rangesSound : RangesSound State.reset where
  level := nofun
  lane l := by rw [reset_lane]; exact laneSound_reset l
  stray d := by simp [DomainRecord.reset]
  flags d := by simp [DomainRecord.reset]

theorem reset_panelSound : PanelSound State.reset := by
  refine ⟨?_, nofun, Nat.zero_le _⟩
  simp [PaneTable.Sound, Pane.Sound, State.reset, Panel.reset, defaultTable, Config.rows]

theorem reset_appShutOut : AppShutOut State.reset := nofun

theorem reset_outputFormed : OutputFormed State.reset := by
  simp [OutputFormed, State.combinerFormed, State.reset, Combiner.reset]

theorem reset_inputsWithheld : InputsWithheld State.reset := fun _ => ⟨by simp, by simp⟩

theorem reset_requestsPosted : RequestsPosted State.reset := ⟨by simp [LaneState.reset], by simp⟩

theorem reset_requestsBounded : RequestsBounded State.reset := fun l => by
  simp [State.openRequests, ExchangeState.open?]

theorem reset_conclusionsSound : ConclusionsSound State.reset := fun l i => by simp [LaneState.reset]

theorem reset_buffersBounded : BuffersBounded State.reset := ⟨by simp, by simp [State.charged]⟩

theorem reset_repliesBounded : RepliesBounded State.reset := ⟨by simp, by simp [Hub.reset]⟩

theorem reset_cellsBounded : CellsBounded State.reset := by simp [CellsBounded, State.cellsUsed]

/-- Settles O3: the records of the reset state, and each invariant of it. -/
theorem stateAfterReset : Obligations.StateAfterReset := by
  unfold Obligations.StateAfterReset
  obtain ⟨canonical, bounded⟩ := (windowsSound_iff _).1 reset_windowsSound
  obtain ⟨levels, counts, fences⟩ := (rangesSound_iff _).1 reset_rangesSound
  obtain ⟨domains, lines⟩ := reset_linesSound
  refine ⟨⟨rfl, rfl, rfl, rfl, rfl⟩, fun d => ?_, fun l => ?_, reset_entry, ⟨rfl, rfl, rfl, rfl, rfl⟩,
    ⟨rfl, rfl, reset_contact⟩, reset_key, fun n => ?_, rfl,
    ⟨nofun, domains, lines, canonical, bounded, reset_panelSound, reset_outputFormed, nofun⟩,
    reset_appShutOut, reset_inputsWithheld, fences, reset_requestsPosted, reset_requestsBounded, reset_conclusionsSound,
    reset_buffersBounded, reset_repliesBounded, reset_cellsBounded, levels, counts⟩
  · simp [DomainRecord.reset]
  · simp [LaneState.reset]
  · simp [Line.reset, LineEntry.default]

/-! ## Resets -/

section
variable {s : State}

/-- Two states that agree but for the lanes are one where every lane's record agrees. -/
theorem eq_of_lanes {u v : State} (h : ∀ l, u.lane l = v.lane l) (rest : { u with lanes := v.lanes } = v) : u = v := by
  have hl : u.lanes = v.lanes := by
    ext i hi
    have := h (laneAt ⟨i, hi⟩)
    simp only [State.lane, code_laneAt] at this
    exact this
  rw [← rest, ← hl]

theorem updLanes_eq_self {f : Lane → LaneState → LaneState} (h : ∀ l, f l (s.lane l) = s.lane l) : s.updLanes f = s :=
  eq_of_lanes (by simpa using h) rfl

/-- Where the lanes stand at reset, board initialisation begins in the domain's record alone. -/
theorem startInit_of_reset (h : ∀ l, s.lane l = LaneState.reset) (d : Domain) : s.startInit d =
    s.updDom d fun r => { r with status := .waiting, initialising := some s.now, remembered := 0#8, stray := 0 } :=
  updLanes_eq_self fun l => by simp [h, LaneState.reset]

theorem updLines_of_replicate {r : Line} {f : Line → Line} (hs : s.lines = Vector.replicate 12 r) :
    s.updLines f = { s with lines := Vector.replicate 12 (f r) } := by
  have hl : (s.updLines f).lines = Vector.replicate 12 (f r) := by
    ext i hi
    simp [State.updLines, hs]
  exact congrArg (fun v : Vector Line 12 => { s with lines := v }) hl

/-- A domain's record once its board initialisation has begun. -/
def DomainRecord.begun (r : DomainRecord) (now : Nat) : DomainRecord :=
  { r with status := .waiting, initialising := some now, remembered := 0#8, stray := 0 }

/-- The end of a reset where the lanes and the lines stand at reset. -/
theorem exec_resetEnd_of_rest {low : Bool} (hr : s.inReset = true) (hl : ∀ l, s.lane l = LaneState.reset)
    (hn : s.lines = Vector.replicate 12 (Line.reset .off)) : exec (.resetEnd low) s = .next { s with
      inReset := false
      app := s.app.begun s.now
      pay := s.pay.begun s.now
      rad := s.rad.begun s.now
      lines := Vector.replicate 12 (Line.reset (.settling none))
      panel := Panel.reset s.now [.frameStart]
      touch := Touch.reset (if low then .reading else .idle) } := by
  have e : ((((({ s with inReset := false }).startInit .app).startInit .pay).startInit .rad).updLines
        fun n => { n with filter := .settling none }) = { s with
      inReset := false, app := s.app.begun s.now, pay := s.pay.begun s.now, rad := s.rad.begun s.now
      lines := Vector.replicate 12 (Line.reset (.settling none)) } := by
    rw [startInit_of_reset (s := { s with inReset := false }) hl .app, startInit_of_reset (by simpa using hl) .pay,
      startInit_of_reset (by simpa using hl) .rad,
      updLines_of_replicate (r := Line.reset .off)]
    · rfl
    · exact hn
  dsimp only [exec]
  unfold execResetEnd
  rw [if_pos hr, e]

/-- The end of a reset that holds, record by record. -/
theorem exec_resetEnd {low : Bool} (hr : s.inReset = true) (hs : ResetHolds s) :
    exec (.resetEnd low) s = .next { State.reset with
      now := s.now
      app := { State.reset.app with window := s.app.window, initialising := some s.now }
      pay := { State.reset.pay with window := s.pay.window, initialising := some s.now }
      rad := { State.reset.rad with window := s.rad.window, initialising := some s.now }
      panel := { State.reset.panel with videoZero := s.now, frameZero := s.now }
      touch := { State.reset.touch with link := if low then .reading else .idle }
      pending := s.pending } := by
  obtain ⟨began, hb⟩ := hs hr
  have h := standsReset hs hr
  rw [exec_resetEnd_of_rest hr h.lane (by rw [hb]; rfl)]
  conv_lhs => rw [hb]
  rfl

end

/-- Settles O4: what holds of a reset that has taken place (`exec_resetHolds`), and the end of it (`exec_resetEnd`). -/
theorem resetsOfThePart : Obligations.ResetsOfThePart := by
  unfold Obligations.ResetsOfThePart
  refine fun s low => ⟨⟨_, rfl, rfl, fun _ => ⟨0, rfl⟩, ?_⟩, ⟨_, rfl, rfl, fun _ => ⟨s.now, rfl⟩, ?_, rfl, rfl⟩, exec_resetEnd⟩
  · rw [exec_resetEnd rfl fun _ => ⟨0, rfl⟩]
    rfl
  · intro d; cases d <;> rfl

end Sys2Proof.Machine

/-! PROOFS. The ports: window accesses, stray accesses and registers (O5, O6, O7). -/

namespace Sys2Proof.Machine

/-! ## Slots and their state fields -/

theorem stateByte_iff (d : Domain) (a : Nat) : d.isStateByte a = true ↔ a % 512 = 0 ∧ a < d.slotArea := by
  simp [Domain.isStateByte]

theorem isStateByte_outSlot {l : Lane} {i : Nat} (h : i < l.slots) : l.domain.isStateByte (l.outSlot i) = true := by
  rw [stateByte_iff]
  cases l <;> simp only [Lane.slots, Lane.outSlot, Lane.domain, Domain.slotArea] at * <;> omega

theorem isStateByte_inSlot {l : Lane} {i : Nat} (h : i < l.slots) : l.domain.isStateByte (l.inSlot i) = true := by
  rw [stateByte_iff]
  cases l <;> simp only [Lane.slots, Lane.inSlot, Lane.domain, Domain.slotArea] at * <;> omega

/-- In a domain of one lane the boards follow each other, 16 slots each. -/
theorem slot_of_half {a : Nat} (h : a % 512 = 0) (ha : a < 0x4000) :
    ∃ i, i < 16 ∧ (a = i * 0x200 ∨ a = 0x2000 + i * 0x200) := by
  by_cases hl : a < 0x2000
  · exact ⟨a / 0x200, by omega, .inl (by omega)⟩
  · exact ⟨(a - 0x2000) / 0x200, by omega, .inr (by omega)⟩

/-- The state fields are the first bytes of the slots (R19, TABLE A). -/
theorem isStateByte_iff (d : Domain) (a : Nat) : d.isStateByte a = true ↔
    ∃ (l : Lane) (i : Nat), l.domain = d ∧ i < l.slots ∧ (a = l.outSlot i ∨ a = l.inSlot i) := by
  refine ⟨fun h => ?_, ?_⟩
  · obtain ⟨hm, ha⟩ := (stateByte_iff d a).1 h
    cases d with
    | app =>
      have ha : a < 0x10000 := ha
      obtain ⟨i, hi, hs⟩ : ∃ i, i < 8 ∧ (a % 0x2000 = i * 0x200 ∨ a % 0x2000 = 0x1000 + i * 0x200) := by
        by_cases hl : a % 0x2000 < 0x1000
        · exact ⟨a % 0x2000 / 0x200, by omega, .inl (by omega)⟩
        · exact ⟨(a % 0x2000 - 0x1000) / 0x200, by omega, .inr (by omega)⟩
      refine ⟨.app ⟨a / 0x2000, by omega⟩, i, rfl, hi, ?_⟩
      simp only [Lane.outSlot, Lane.inSlot]
      omega
    | pay => obtain ⟨i, hi, hs⟩ := slot_of_half hm ha; exact ⟨.pay, i, rfl, hi, hs⟩
    | rad => obtain ⟨i, hi, hs⟩ := slot_of_half hm ha; exact ⟨.rad, i, rfl, hi, hs⟩
  · rintro ⟨l, i, rfl, hi, rfl | rfl⟩
    · exact isStateByte_outSlot hi
    · exact isStateByte_inSlot hi

/-! ## Accesses -/

section
variable {s : State} {d : Domain} {offset size : Nat}

theorem exec_portAccess (hr : s.inReset = false) (hh : (s.dom d).status ≠ .held) (op : PortOp) :
    exec (.portAccess d offset size op) s = .next (s.access d offset size op) := by
  simp [exec, execPortAccess, State.portOpen, hr, hh]

theorem access_read (hw : d.inWindow offset size = true) : s.access d offset size .read =
    s.returnData d (BitVec.ofNat 32 (natOf (s.readWindow d offset size))) := by
  simp [State.access, hw]

theorem access_write (hw : d.inWindow offset size = true) (value : Word) : s.access d offset size (.write value) =
    s.storeWindow d offset (bytesOf size value.toNat) := by
  simp [State.access, hw]

theorem size_of_inWindow (hw : d.inWindow offset size = true) : 0 < size ∧ size ≤ 4 := by
  obtain ⟨hs, -, -⟩ := (inWindow_iff d offset size).1 hw
  rcases hs with _ | ⟨_, _ | ⟨_, _ | ⟨_, ⟨⟩⟩⟩⟩ <;> decide

/-- A byte of the word that a read of at most four bytes returns. -/
theorem word_readBytes (m : Memory) (offset k : Nat) {size : Nat} (hs : size ≤ 4) :
    (BitVec.ofNat 32 (natOf (Memory.readBytes m offset size))).extractLsb' (8 * k) 8 =
      if k < size then Memory.read m (offset + k) else 0#8 := by
  rw [word_byte _ (by simpa using hs)]
  split
  · exact Memory.readBytes_getD _ _ _ _ ‹_›
  · exact List.getD_eq_default _ _ (by simpa using Nat.le_of_not_lt ‹_›)

/-- A word read whose lowest byte reads as FREE. -/
theorem word_masked (m : Memory) (offset : Nat) {size : Nat} (hs : size ≤ 4) {v : Word} (pos : 0 < size)
    (hv : v = BitVec.ofNat 32 (natOf (slotFree :: (Memory.readBytes m offset size).tail))) :
    v.extractLsb' 0 8 = 0x00#8
      ∧ ∀ k, 1 ≤ k → v.extractLsb' (8 * k) 8 = if k < size then Memory.read m (offset + k) else 0#8 := by
  have byte : ∀ k, v.extractLsb' (8 * k) 8 = (slotFree :: (Memory.readBytes m offset size).tail).getD k 0#8 := fun k => by
    rw [hv, word_byte _ (by rw [List.length_cons, List.length_tail, Memory.readBytes_length]; omega)]
  refine ⟨byte 0, fun k hk => ?_⟩
  obtain ⟨j, rfl⟩ := Nat.exists_eq_add_of_le' hk
  rw [byte, List.getD_cons_succ, getD_tail, ← word_byte _ (by simpa using hs), word_readBytes _ _ _ hs]

/-- A byte after a write of the low bytes of a word. -/
theorem read_write_word (m : Memory) (a b v : Nat) : Memory.read (Memory.write m a (bytesOf size v)) b =
    if a ≤ b ∧ b < a + size then BitVec.ofNat 8 (v / 256 ^ (b - a)) else Memory.read m b := by
  rw [Memory.read_write, bytesOf_length]
  split
  · exact bytesOf_getD _ _ _ (by omega)
  · rfl

/-- A byte after a write of the low bytes of a word but the lowest. -/
theorem read_write_tail (m : Memory) (a b v : Nat) :
    Memory.read (Memory.write m (a + 1) (bytesOf size v).tail) b =
      if a < b ∧ b < a + size then BitVec.ofNat 8 (v / 256 ^ (b - a)) else Memory.read m b := by
  rw [Memory.read_write, List.length_tail, bytesOf_length]
  by_cases h : a < b ∧ b < a + size
  · rw [if_pos h, if_pos (by omega), getD_tail, show b - (a + 1) + 1 = b - a by omega, bytesOf_getD _ _ _ (by omega)]
  · rw [if_neg h, if_neg (by omega)]

end

/-- Settles O5, from what a read after a write returns (`Memory.read_write`) and the bytes of a word (`word_byte`). -/
theorem windowAccesses : Obligations.WindowAccesses := by
  unfold Obligations.WindowAccesses
  refine ⟨fun d offset size => ?_, isStateByte_iff, fun i => ⟨fun x => ⟨rfl, ?_, ?_⟩, ?_⟩, ?_, ?_⟩
  · rw [inWindow_iff]; cases d <;> rfl
  · simp [Lane.outSlot, Nat.mul_comm]
  · simp [Lane.inSlot, Nat.mul_comm]
  · simp [Lane.slots, Lane.outSlot, Lane.inSlot, Nat.mul_comm]
  · intro s d offset size hr hh hw hi
    have hm : s.masksByte d offset = false := by
      rcases hi with hi | hi <;> simp [State.masksByte, hi]
    obtain ⟨-, hs⟩ := size_of_inWindow hw
    refine ⟨fun value => ⟨_, ?_, fun a => read_write_word (s.window d) offset a value.toNat⟩,
      _, ?_, fun k _ => word_readBytes (s.window d) offset k hs⟩
    · rw [exec_portAccess hr hh, access_write hw, State.storeWindow, hm]; rfl
    · rw [exec_portAccess hr hh, access_read hw, State.readWindow, hm]; rfl
  · intro s d offset size hr hh hw hi hb
    have hm : s.masksByte d offset = true := by simp [State.masksByte, hi, hb]
    obtain ⟨pos, hs⟩ := size_of_inWindow hw
    obtain ⟨lowest, others⟩ := word_masked (s.window d) offset hs pos rfl
    refine ⟨fun value => ⟨_, ?_, fun a => read_write_tail (s.window d) offset a value.toNat⟩,
      _, ?_, lowest, fun k hk _ => others k hk⟩
    · rw [exec_portAccess hr hh, access_write hw, State.storeWindow, hm]; rfl
    · rw [exec_portAccess hr hh, access_read hw, State.readWindow, hm]; rfl

/-! ## Stray accesses -/

theorem updDom_updDom (s : State) (d : Domain) (f g : DomainRecord → DomainRecord) :
    (s.updDom d f).updDom d g = s.updDom d fun r => g (f r) := by
  cases d <;> rfl

/-- An access that reaches no register (R1, R2). -/
theorem registerAt_eq_none {offset size : Nat}
    (h : ¬(size = 4 ∧ (offset = 0x30000 ∨ offset = 0x30004 ∨ offset = 0x30008 ∨ offset = 0x3000C))) :
    registerAt offset size = none := by
  unfold registerAt
  split
  · have : offset ≠ 0x30000 ∧ offset ≠ 0x30004 ∧ offset ≠ 0x30008 ∧ offset ≠ 0x3000C := by omega
    simp [this]
  · rfl

/-- Settles O6, by the branches of a port access. -/
theorem strayAccesses : Obligations.StrayAccesses := by
  unfold Obligations.StrayAccesses
  refine fun s d offset size value => ⟨fun hr hh hw hn => ?_, fun hr => ?_⟩
  · have stray : ∀ op, s.access d offset size op = s.strayAccess d op := fun op => by
      simp [State.access, hw, registerAt_eq_none hn]
    rw [exec_portAccess hr hh, exec_portAccess hr hh, stray, stray]
    exact ⟨by simp [State.strayAccess, State.returnData, updDom_updDom, bumpByte], rfl⟩
  · simp [exec, execPortAccess, hr, State.returnData]

/-! ## Registers -/

theorem place_lt (l : Lane) : l.place < 8 := by cases l <;> simp [Lane.place]

theorem getLsbD_bit {n : Nat} (hn : n < 32) (b : Nat) : (1#32 <<< n).getLsbD b = decide (n = b) := by
  rw [← BitVec.twoPow_eq, BitVec.getLsbD_twoPow]
  simp [hn]

/-- The bits of a word in which the marks of lanes have been set. -/
theorem getLsbD_marks (f : Lane → Bool) (ls : List Lane) (w : Word) (b : Nat) :
    (ls.foldl (fun w l => if f l then w ||| 1#32 <<< l.place else w) w).getLsbD b =
      (w.getLsbD b || ls.any fun l => f l && decide (l.place = b)) := by
  induction ls generalizing w with
  | nil => simp
  | cons l ls ih =>
    rw [List.foldl_cons, ih, List.any_cons]
    cases hf : f l with
    | false => simp
    | true =>
      rw [if_pos rfl, BitVec.getLsbD_or, getLsbD_bit (by have := place_lt l; omega)]
      simp [Bool.or_assoc]

theorem mem_lanes (d : Domain) (l : Lane) : l ∈ d.lanes ↔ l.domain = d := by
  cases d <;> cases l <;> simp [Domain.lanes, Lane.domain]
  omega

theorem place_inj {l k : Lane} (hd : l.domain = k.domain) (hp : l.place = k.place) : l = k := by
  cases l <;> cases k <;> simp_all [Lane.domain, Lane.place, Fin.ext_iff]

/-- ATTENTION shows the scan-wanted mark of each lane of the port (R6). -/
theorem attentionWord_lane (s : State) (l : Lane) :
    (s.attentionWord l.domain).getLsbD l.place = (s.lane l).scanWanted := by
  rw [State.attentionWord, getLsbD_marks, Bool.eq_iff_iff]
  simp only [BitVec.getLsbD_zero, Bool.false_or, Bool.and_eq_true, decide_eq_true_eq, List.any_eq_true, mem_lanes]
  exact ⟨fun ⟨k, hk, hs, hp⟩ => place_inj hk hp ▸ hs, fun h => ⟨l, rfl, h, rfl⟩⟩

theorem attentionWord_other (s : State) {d : Domain} {b : Nat} (h : ∀ l : Lane, l.domain = d → l.place ≠ b) :
    (s.attentionWord d).getLsbD b = false := by
  rw [State.attentionWord, getLsbD_marks, BitVec.getLsbD_zero, Bool.false_or]
  refine List.any_eq_false.2 fun l hl => ?_
  simp [h l ((mem_lanes d l).1 hl)]

/-- A bit of STATUS (R8). -/
theorem statusWord_bit (s : State) (d : Domain) (b : Nat) : (s.statusWord d).getLsbD b =
    ((s.dom d).flags.getLsbD b || (s.dom d).initialising.isSome && decide (28 = b)
      || decide ((s.dom d).status = .up) && decide (29 = b)) := by
  have mark : ∀ (p : Prop) [Decidable p] (n : Nat), n < 32 →
      (if p then 1#32 <<< n else 0#32).getLsbD b = (decide p && decide (n = b)) := fun p _ n hn => by
    split
    · next h => rw [getLsbD_bit hn, decide_eq_true h, Bool.true_and]
    · next h => rw [BitVec.getLsbD_zero, decide_eq_false h, Bool.false_and]
  rw [State.statusWord, BitVec.getLsbD_or, BitVec.getLsbD_or, mark _ 28 (by omega), mark _ 29 (by omega)]
  rw [Bool.decide_coe]

/-- The bytes of IDENTITY (R9, TABLE G). -/
theorem identityWord_bytes (s : State) {d : Domain} (h : (s.dom d).stray ≤ 255) :
    (s.identityWord d).extractLsb' 24 8 = 0xF4#8 ∧ (s.identityWord d).extractLsb' 16 8 = 0x01#8
      ∧ ((s.identityWord d).extractLsb' 8 8).toNat = d.code
      ∧ ((s.identityWord d).extractLsb' 0 8).toNat = (s.dom d).stray := by
  have hc : d.code ≤ 3 := by cases d <;> decide
  refine ⟨BitVec.eq_of_toNat_eq ?_, BitVec.eq_of_toNat_eq ?_, ?_, ?_⟩ <;>
    simp only [State.identityWord, BitVec.extractLsb'_toNat, BitVec.toNat_ofNat, Nat.shiftRight_eq_div_pow] <;> omega

/-- Where the port is open, a command of the port is carried out. -/
theorem portOpen_eq_true {s : State} {d : Domain} (hr : s.inReset = false) (hh : (s.dom d).status ≠ .held) :
    s.portOpen d = true := by simp [State.portOpen, hr, hh]

/-- An access of four bytes at the offset of a register is the read or the write of it. -/
theorem exec_registerAccess {s : State} {d : Domain} (hr : s.inReset = false) (hh : (s.dom d).status ≠ .held) {offset : Nat}
    {r : PortRegister} (h : registerAt offset 4 = some r) (hw : 0x23000 < offset) :
    exec (.portAccess d offset 4 .read) s = .next (s.returnData d (s.readRegister d r))
      ∧ ∀ value, exec (.portAccess d offset 4 (.write value)) s = .next (s.writeRegister d value r) := by
  have outside : d.inWindow offset 4 = false := by
    rw [← Bool.not_eq_true, inWindow_iff]
    rintro ⟨-, -, hf⟩
    cases d <;> simp only [Domain.windowSize] at hf <;> omega
  refine ⟨?_, fun value => ?_⟩ <;> rw [exec_portAccess hr hh] <;> simp [State.access, outside, h]

/-- Settles O7: each register by the bits of the word that it shows, each flag by its mask. -/
theorem portRegisters : Obligations.PortRegisters := by
  unfold Obligations.PortRegisters
  refine ⟨⟨fun x => ⟨rfl, rfl⟩, rfl, fun s d f => ⟨Flag.getLsbD_mask f, rfl, rfl⟩⟩, fun s d hr hh => ?_,
    fun s d value hr hh => ?_⟩
  · exact ⟨s.attentionWord d, (exec_registerAccess (r := .attention) hr hh rfl (by decide)).1, fun l hl => hl ▸ attentionWord_lane s l,
      fun b hb => attentionWord_other s hb⟩
  · have ho := portOpen_eq_true hr hh
    obtain ⟨-, writeAttention⟩ := exec_registerAccess (d := d) (offset := 0x30000) hr hh rfl (by omega)
    obtain ⟨readAcknowledge, writeAcknowledge⟩ := exec_registerAccess (d := d) (offset := 0x30004) hr hh rfl (by omega)
    obtain ⟨readStatus, writeStatus⟩ := exec_registerAccess (d := d) (offset := 0x30008) hr hh rfl (by omega)
    obtain ⟨readIdentity, writeIdentity⟩ := exec_registerAccess (d := d) (offset := 0x3000C) hr hh rfl (by omega)
    refine ⟨fun hf => ⟨_, readStatus, ?_⟩, readAcknowledge, fun hs => ⟨_, readIdentity, identityWord_bytes s hs⟩, ?_, ?_, rfl,
      ?_, ?_, writeStatus value, fun hv => ?_, ?_⟩
    · have bit := statusWord_bit s d
      have reserved : ∀ b, 25 ≤ b → (s.statusWord d).getLsbD b = ((s.dom d).initialising.isSome && decide (28 = b)
          || decide ((s.dom d).status = .up) && decide (29 = b)) := fun b hb => by rw [bit, hf b hb, Bool.false_or]
      simp only [State.readRegister, reserved 28 (by omega), reserved 29 (by omega), reserved 25 (by omega),
        reserved 26 (by omega), reserved 27 (by omega), reserved 30 (by omega), reserved 31 (by omega)]
      refine ⟨fun b hb => ?_, by simp⟩
      rw [bit, decide_eq_false (by omega : ¬28 = b), decide_eq_false (by omega : ¬29 = b)]
      simp
    · simp [exec, execAcknowledge, ho, State.clearFlags]
    · simp [exec, execIdentityWrite, ho, State.clearStray]
    · rw [writeAcknowledge]; simp [exec, execAcknowledge, ho, State.writeRegister]
    · rw [writeIdentity]; simp [exec, execIdentityWrite, ho, State.writeRegister]
    · rw [writeAttention]; simp [exec, execAttentionLanes, ho, State.writeRegister, State.writeAttention, Config.restartWord, hv]
    · rw [writeAttention]; simp [exec, execSelfAnnouncedRestart, ho, State.writeRegister, State.writeAttention, Config.restartWord]

end Sys2Proof.Machine

/-! PROOFS. Domains that name lanes, restart and complete their board initialisation (O8, O9). -/

namespace Sys2Proof.Machine

/-! ## Changes of records compose -/

section
variable {s : State} {d : Domain}

theorem updDom_congr {f g : DomainRecord → DomainRecord} (h : f (s.dom d) = g (s.dom d)) : s.updDom d f = s.updDom d g :=
  congrArg (s.setDom d) h

theorem updLanes_updDom (f : Lane → LaneState → LaneState) (g : DomainRecord → DomainRecord) :
    (s.updLanes f).updDom d g = (s.updDom d g).updLanes f := by cases d <;> rfl

theorem updLanes_congr {f g : Lane → LaneState → LaneState} (h : ∀ l, f l (s.lane l) = g l (s.lane l)) :
    s.updLanes f = s.updLanes g :=
  eq_of_lanes (by simpa using h) rfl

theorem updLanes_updLanes (f g : Lane → LaneState → LaneState) :
    (s.updLanes f).updLanes g = s.updLanes fun l r => g l (f l r) :=
  eq_of_lanes (by simp) rfl

theorem attend_eq (s : State) (d : Domain) (set : Byte) : s.attend d set = s.updLanes fun l r =>
    if l.domain = d ∧ set.getLsbD l.place = true then { r with scanWanted := true, roomWait := false } else r :=
  updLanes_congr fun l => by simp [namedLane]

theorem attend_zero (s : State) (d : Domain) : s.attend d 0#8 = s :=
  updLanes_eq_self fun l => by simp [namedLane]

theorem goUp_eq (s : State) (d : Domain) : s.goUp d =
    if d = .pay then s.updDom d fun r => { r with status := .up }
    else (s.updDom d fun r => { r with status := .up }).raise .pay .domain := rfl

end

/-! ## Naming lanes -/

theorem exec_attentionLanes {s : State} {d : Domain} {value : Word} (hr : s.inReset = false) (hh : (s.dom d).status ≠ .held)
    (hv : value ≠ 0x52535452#32) : exec (.attentionLanes d value) s = .next (s.nameLanes d (attentionSet d value)) := by
  simp [exec, execAttentionLanes, portOpen_eq_true hr hh, State.writeAttention, Config.restartWord, hv]

theorem nameLanes_zero (s : State) (d : Domain) : s.nameLanes d 0#8 = s := if_pos rfl

/-- Settles O8: naming lanes in each state of the domain; where the set is empty, each of these changes nothing. -/
theorem attentionNamesLanes : Obligations.AttentionNamesLanes := by
  unfold Obligations.AttentionNamesLanes
  intro s d value set hr hv hs
  obtain rfl : set = attentionSet d value := by rw [hs]; cases d <;> rfl
  have closed : (s.dom d).status = .held → exec (.attentionLanes d value) s = .next s := fun h => by
    simp [exec, execAttentionLanes, State.portOpen, h]
  have open' := fun h => exec_attentionLanes (d := d) hr h hv
  refine ⟨fun h0 => ?_, fun hu => ?_, fun hn hw hi => ⟨_, ?_, rfl⟩, fun hw hi => ?_, closed⟩
  · by_cases hh : (s.dom d).status = .held
    · exact closed hh
    · rw [open' hh, h0, nameLanes_zero]
  · rw [open' (by simp [hu]), ← attend_eq]
    by_cases h0 : attentionSet d value = 0#8
    · rw [h0, nameLanes_zero, attend_zero]
    · rw [State.nameLanes, if_neg h0, hu]
  · rw [open' (by simp [hw]), ← goUp_eq, ← attend_eq, State.nameLanes, if_neg hn, hw, hi]
  · rw [open' (by simp [hw])]
    by_cases h0 : attentionSet d value = 0#8
    · rw [h0, nameLanes_zero, updDom_eq_self (by simp)]
    · obtain ⟨began, hb⟩ := Option.isSome_iff_exists.1 hi
      rw [State.nameLanes, if_neg h0, hw, hb]

/-! ## Restarts and the completion of board initialisation -/

theorem selfRestart_of_restarts {s : State} {d : Domain}
    (h : (s.dom d).status = .up ∨ ((s.dom d).status = .waiting ∧ (s.dom d).initialising = none)) :
    s.selfRestart d = (s.removeDomain d).startInit d := by
  unfold State.selfRestart
  rcases h with h | ⟨h, hi⟩
  · rw [h]
  · rw [h, hi]

theorem selfRestart_of_discarded {s : State} {d : Domain}
    (h : (s.dom d).status = .held ∨ ((s.dom d).status = .waiting ∧ (s.dom d).initialising.isSome = true)) :
    s.selfRestart d = s := by
  unfold State.selfRestart
  rcases h with h | ⟨h, hi⟩
  · rw [h]
  · obtain ⟨began, hb⟩ := Option.isSome_iff_exists.1 hi
    rw [h, hb]

theorem exec_selfAnnouncedRestart {s : State} (hr : s.inReset = false) (d : Domain) :
    exec (.selfAnnouncedRestart d) s = .next (s.selfRestart d) := by
  by_cases hh : (s.dom d).status = .held
  · simp [exec, execSelfAnnouncedRestart, selfRestart_of_discarded (.inl hh)]
  · simp [exec, execSelfAnnouncedRestart, portOpen_eq_true hr hh]

theorem exec_boardInitialisationComplete {s : State} {d : Domain} (h : (s.dom d).initialising.isSome = true) :
    exec (.boardInitialisationComplete d) s = .next (s.finishInit d) := by
  obtain ⟨began, hb⟩ := Option.isSome_iff_exists.1 h
  simp [exec, execBoardInitialisationComplete, hb]

theorem finishInit_of_empty {s : State} {d : Domain} (h : (s.dom d).remembered = 0#8) : s.finishInit d =
    (s.updDom d fun r => { r with window := Memory.clear (s.window d) d.isStateByte, initialising := none }).updLanes fun l r =>
      if l.domain = d then { r with takeCursor := 0, putCursor := 0, deliveryNumber := 0#16 } else r := by
  unfold State.finishInit
  dsimp only
  rw [if_pos h]
  refine congrArg (State.updLanes · _) (updDom_congr ?_)
  rw [← h]; rfl

/-- Where a lane set is remembered, the completion brings the domain UP and attends to the set. -/
theorem finishInit_of_remembered {s t : State} {d : Domain} (h : (s.dom d).remembered ≠ 0#8)
    (ht : t = s.updDom d fun r => { r with
      window := Memory.clear (s.window d) d.isStateByte, initialising := none, remembered := 0#8, status := .up }) :
    s.finishInit d = (if d = .pay then t else t.raise .pay .domain).updLanes fun l r =>
      if l.domain = d then
        { r with
          takeCursor := 0
          putCursor := 0
          deliveryNumber := 0#16
          scanWanted := r.scanWanted || (s.dom d).remembered.getLsbD l.place
          roomWait := r.roomWait && !(s.dom d).remembered.getLsbD l.place }
      else r := by
  unfold State.finishInit
  dsimp only
  rw [if_neg h, goUp_eq, updLanes_updDom, updDom_updDom]
  have hu : (s.updDom d fun r => { r with
      window := Memory.clear r.window d.isStateByte, initialising := none, remembered := 0#8, status := .up }) = t := by
    rw [ht]; exact updDom_congr rfl
  rw [hu, State.raise, updLanes_updDom, ← apply_ite (State.updLanes · _), State.attend, updLanes_updLanes]
  refine updLanes_congr fun l => ?_
  by_cases hl : l.domain = d
  · cases hb : (s.dom d).remembered.getLsbD l.place <;> simp [namedLane, hl, hb]
  · simp [namedLane, hl]

/-- Settles O9: what a restart and the completion do in each state of the domain (`selfRestart_of_restarts`,
`finishInit_of_remembered`). -/
theorem restartAndInitialisation : Obligations.RestartAndInitialisation := by
  unfold Obligations.RestartAndInitialisation
  refine ⟨fun s d hr => ⟨fun h => ?_, fun h => ?_⟩, fun s d hi =>
    ⟨Memory.clear (s.window d) d.isStateByte, Memory.read_clear _ _, fun h => ?_, fun h => ⟨_, rfl, ?_⟩⟩⟩
  · rw [exec_selfAnnouncedRestart hr, selfRestart_of_restarts h, State.startInit]
    simp
  · rw [exec_selfAnnouncedRestart hr, selfRestart_of_discarded h]
  · rw [exec_boardInitialisationComplete hi, finishInit_of_empty h]
  · rw [exec_boardInitialisationComplete hi, finishInit_of_remembered h rfl]

end Sys2Proof.Machine

/-! PROOFS. The board scanner and the takes that settle, hold back and accept (O10, O11, O13, O14). -/

namespace Sys2Proof.Machine

/-! ## What a take reads -/

theorem readBytes_eq_map (m : Memory) (a n : Nat) : Memory.readBytes m a n = (List.range n).map fun k => Memory.read m (a + k) := by
  apply List.ext_getElem (by simp)
  intro k hk _
  have := Memory.readBytes_getD m a n k (by simpa using hk)
  rw [List.getD_eq_getElem _ _ hk] at this
  simpa using this

theorem toNat_append_byte {n : Nat} (x : BitVec n) (b : Byte) : (x ++ b).toNat = x.toNat * 256 + b.toNat := by
  rw [BitVec.toNat_append, ← Nat.shiftLeft_add_eq_or_of_lt b.isLt, Nat.shiftLeft_eq]

/-- Four bytes, least significant first, spell the word that they make up. -/
theorem word_of_bytes (a b c d : Byte) : BitVec.ofNat 32 (natOf [a, b, c, d]) = d ++ c ++ b ++ a := by
  apply BitVec.eq_of_toNat_eq
  have := a.isLt; have := b.isLt; have := c.isLt; have := d.isLt
  rw [toNat_append_byte, toNat_append_byte, toNat_append_byte, BitVec.toNat_ofNat]
  simp only [natOf]
  omega

/-- The fields of a slot by its bytes (TABLE F). -/
theorem readSlot_eq (m : Memory) (a : Nat) {byte : Nat → Byte} (h : ∀ k, byte k = Memory.read m (a + k)) : readSlot m a =
    { kind := (byte 1).toNat
      domain := (byte 2).toNat
      service := (byte 3).toNat
      length := (byte 4).toNat + 256 * (byte 5).toNat
      tag := (byte 8).toNat + 256 * (byte 9).toNat
      reference := byte 13 ++ byte 12 ++ byte 11 ++ byte 10
      payload := (List.range (min ((byte 4).toNat + 256 * (byte 5).toNat) 496)).map fun k => byte (16 + k) } := by
  have half : ∀ k, natOf (Memory.readBytes m (a + k) 2) = (byte k).toNat + 256 * (byte (k + 1)).toNat := fun k => by
    simp only [h, Memory.readBytes, natOf, Nat.add_assoc]; omega
  have word : BitVec.ofNat 32 (natOf (Memory.readBytes m (a + 10) 4)) = byte 13 ++ byte 12 ++ byte 11 ++ byte 10 := by
    simp only [Memory.readBytes, word_of_bytes, h, Nat.add_assoc]
  rw [readSlot, half, half, word, readBytes_eq_map, h 1, h 2, h 3]
  simp only [h, Nat.add_assoc, Config.maxPayload]

theorem visiting_slotMessage (s : State) (l : Lane) (first : Bool) (slot : Nat) :
    (s.visiting l first).slotMessage l slot = s.slotMessage l slot := by cases first <;> rfl

/-! ## The scanner -/

theorem eligible_iff (s : State) (l : Lane) : s.eligible l = true ↔
    (s.lane l).scanWanted = true ∧ (s.lane l).bufferWait = false ∧ (s.dom l.domain).status = .up := by
  simp [State.eligible, State.isUp, and_assoc]

/-- The grant goes to the first eligible lane from the next-lane position on (R13). -/
theorem granted_eq_some (s : State) (l : Lane) : s.granted = some l ↔
    ∃ k, k < 10 ∧ laneAt (s.scanner.nextLane.code + Fin.ofNat 10 k) = l ∧ s.eligible l = true
      ∧ ∀ j, j < k → ¬s.eligible (laneAt (s.scanner.nextLane.code + Fin.ofNat 10 j)) = true := by
  have length : (lanesFrom s.scanner.nextLane).length = 10 := by simp [lanesFrom, allLanes]
  have lane : ∀ k (hk : k < (lanesFrom s.scanner.nextLane).length),
      (lanesFrom s.scanner.nextLane)[k] = laneAt (s.scanner.nextLane.code + Fin.ofNat 10 k) := fun k hk =>
    (List.getElem_eq_iff _).2 (lanesFrom_getElem? _ _ (by omega))
  rw [State.granted, List.find?_eq_some_iff_getElem]
  constructor
  · rintro ⟨he, k, hk, rfl, hj⟩
    exact ⟨k, by omega, (lane k hk).symm, he, fun j hjk => by have := hj j hjk; rw [lane] at this; simpa using this⟩
  · rintro ⟨k, hk, hl, he, hj⟩
    exact ⟨he, k, by omega, by rw [lane]; exact hl, fun j hjk => by rw [lane]; simpa using hj j hjk⟩

theorem filledSlot_eq_some (s : State) (l : Lane) (slot : Nat) : s.filledSlot l = some slot ↔
    ∃ k, k < l.slots ∧ slot = ((s.lane l).takeCursor + k) % l.slots
      ∧ Memory.read (s.window l.domain) (l.outSlot slot) = slotFilled
      ∧ ∀ j, j < k → Memory.read (s.window l.domain) (l.outSlot (((s.lane l).takeCursor + j) % l.slots)) ≠ slotFilled := by
  simp only [State.filledSlot, searchBoard_eq_some, decide_eq_true_eq, decide_eq_false_iff_not]

theorem filledSlot_eq_none {s : State} {l : Lane}
    (h : ∀ i, i < l.slots → Memory.read (s.window l.domain) (l.outSlot i) ≠ slotFilled) : s.filledSlot l = none :=
  (searchBoard_eq_none _ _ _).2 fun _ _ => decide_eq_false (h _ (Nat.mod_lt _ (slots_pos l)))

/-- A take that finds no FILLED slot (R14, R15). -/
theorem takeFor_of_empty {s : State} {l : Lane} {first : Bool} (h : s.filledSlot l = none) :
    (s.visiting l first).takeFor l first = { s.updLane l fun r => { r with scanWanted := false } with
      scanner := scannerAfter s l first false } := by
  rw [State.takeFor, visiting_filledSlot, h]
  cases first <;> rfl

/-- Settles O10: the grant as a circular search of the lanes (`granted_eq_some`), a take's search as one of the slots, and the
fields by their bytes (`readSlot_eq`). -/
theorem takesGrantedAndSearched : Obligations.TakesGrantedAndSearched := by
  unfold Obligations.TakesGrantedAndSearched
  refine fun s l first => ⟨fun hr hv hg => ?_, ?_, fun hb hn => ?_, fun slot => filledSlot_eq_some s l slot,
    fun i byte hb => readSlot_eq _ _ hb⟩
  · simp [exec, execTake, hr, hv, hg]
  · simp only [granted_eq_some, eligible_iff]
    exact exists_congr fun k => and_congr_right' (and_congr_right' (and_congr_right'
      ⟨fun h j l' hj e => e ▸ h j hj, fun h j hj => h j _ hj rfl⟩))
  · rw [exec_take hb, takeFor_of_empty (filledSlot_eq_none hn)]

/-! ## Buffers -/

theorem heldMessages_eq (s : State) {f : Entry → Option Held} (hf : ∀ e, f e = e.held?) :
    s.heldMessages = (allLanes.flatMap fun l => (s.lane l).fifo.filterMap f) ++ s.hub.fifo := by
  rw [State.heldMessages, State.boardEntries, List.filterMap_flatMap, funext hf]

theorem grantBuffer_eq_none {s : State} {l : Lane} (h : l.quota ≤ s.charged l ∨ ∀ b : Fin 30, s.bufferFree b = false) :
    s.grantBuffer l = none := by
  unfold State.grantBuffer
  split
  · rcases h with h | h
    · omega
    · exact List.find?_eq_none.2 fun b _ => by simp [h b]
  · rfl

/-- Settles O13: no buffer is granted (`grantBuffer_eq_none`), so the take is held back, and the next search begins at its slot
(`filledSlot_heldBack`). -/
theorem heldBackTakes : Obligations.HeldBackTakes := by
  unfold Obligations.HeldBackTakes
  refine ⟨⟨fun _ => rfl, rfl, rfl⟩, fun s held h => ?_, fun s l first slot hb hf hj hn => ?_⟩
  · obtain rfl : held = s.heldMessages := h.trans (heldMessages_eq s fun e => by cases e <;> rfl).symm
    exact ⟨fun _ => rfl, fun b => by simp [State.bufferFree]⟩
  · have heldBack : (s.visiting l first).takeFor l first = (s.visiting l first).heldBack l slot :=
      takeFor_of_no_buffer (by rwa [visiting_filledSlot]) (fun o => by rw [visiting_judge, visiting_slotMessage]; exact hj o)
        (by rw [visiting_grantBuffer]; exact grantBuffer_eq_none hn)
    refine ⟨_, (exec_take hb).trans (by rw [heldBack]), ?_, filledSlot_heldBack (by rwa [visiting_filledSlot])⟩
    cases first <;> rfl

/-! ## Acceptance -/

theorem takeFor_of_refusal {s : State} {l : Lane} {slot : Nat} {o : TakeOutcome} (first : Bool)
    (hf : s.filledSlot l = some slot) (hj : s.judge l (s.slotMessage l slot) = .refuse o) :
    s.takeFor l first = (s.refuseTake l slot (s.slotMessage l slot) o).afterTake l slot first := by
  unfold State.slotMessage at *
  simp only [State.takeFor, hf, hj]

theorem takeFor_of_notice {s : State} {l : Lane} {slot route : Nat} {a : Address} {b : Fin 30} (first : Bool)
    (hf : s.filledSlot l = some slot) (hj : s.judge l (s.slotMessage l slot) = .notice a route)
    (hb : s.grantBuffer l = some b) :
    s.takeFor l first = (s.acceptNotice l slot (s.slotMessage l slot) a route b).afterTake l slot first := by
  unfold State.slotMessage at *
  simp only [State.takeFor, hf, hj, hb]

/-- A take that has admitted a message (R14, R44). -/
theorem afterTake_admitted {s u : State} {l : Lane} {first : Bool} (slot tag : Nat)
    (h : u.scanner = (s.visiting l first).scanner) : (u.admitted l slot tag).afterTake l slot first =
    { (u.writeOutcome l slot .accepted tag).updLane l fun q => { q with
        admitted := min (q.admitted + 1) 65535, takeCursor := (slot + 1) % l.slots } with
      scanner := scannerAfter s l first true } := by
  rw [afterTake_eq _ _ _ _ s ((admitted_scanner _ _ _ _).trans h), State.admitted, updLane_updLane]
  rfl

/-- Settles O14: the budget, the buffer and the FIFO (`joinMessage_board`), then what every accepted take writes
(`afterTake_admitted`). -/
theorem acceptedNotices : Obligations.AcceptedNotices := by
  unfold Obligations.AcceptedNotices
  intro s l r first slot route a b m hb hf hm hj ha hq hfree hlow
  have spend : (s.visiting l first).spend (some route) = { s.visiting l first with
      routes := s.routes.modify route fun e => { e with budget := e.budget.map fun g => { g with level := g.level - 1 } } } := by
    rw [State.spend, visiting_routes]
  have now : ((s.visiting l first).spend (some route)).now = s.now := by cases first <;> rfl
  refine ⟨(s.visiting l first).spend (some route), ((s.visiting l first).spend (some route)).joinMessage (.board r) _, spend,
    joinMessage_board s _ r _ ?_, ?_⟩
  · cases first <;> rfl
  · rw [exec_take hb, takeFor_of_notice first (by rwa [visiting_filledSlot])
      (by rw [visiting_judge, visiting_slotMessage, ← hm]; exact hj)
      (by rw [visiting_grantBuffer]; exact grantBuffer_eq_some hq hfree hlow), State.acceptNotice, ha,
      afterTake_admitted (s := s), visiting_slotMessage, ← hm, now]
    rw [joinMessage_scanner]
    rfl

/-! ## Refusal -/

/-- Admission never refuses with ACCEPTED. -/
theorem judge_ne_accepted {s : State} {l : Lane} {m : Slot} {o : TakeOutcome} (h : s.judge l m = .refuse o) :
    o ≠ .accepted := by
  have room : s.roomRefusal l ≠ some .accepted := by unfold State.roomRefusal; split_ifs <;> simp
  have budget : ∀ i, s.budgetRefusal i ≠ some .accepted := fun i => by
    unfold State.budgetRefusal
    split
    · simp
    · split_ifs <;> simp
  have route : ∀ k a n, s.judgeRoute l k a n ≠ .error .accepted := fun k a n => by
    unfold State.judgeRoute
    (repeat' split) <;> simp
  have mode : ∀ k a, s.modeRefusal l k a ≠ some .accepted := fun k a => by
    unfold State.modeRefusal
    (repeat' split) <;> simp
  rintro rfl
  unfold State.judge at h
  split at h
  · cases h
  split at h
  · cases h
  split at h
  · cases h
  split at h
  · cases h
  split at h
  · next hm => cases h; exact mode _ _ hm
  split at h
  · unfold State.judgeRequest at h
    (repeat' split at h) <;> cases h <;> simp_all
  · unfold State.judgeNotice at h
    (repeat' split at h) <;> cases h <;> simp_all
  · unfold State.judgeAnswer at h
    (repeat' split at h) <;> cases h

/-- The window after an outcome has been written in a slot (R12, R14). -/
def outcomeWindow (m : Memory) (a : Nat) (o : TakeOutcome) (tag : Nat) : Memory :=
  Memory.write (Memory.write (Memory.write m (a + 6) (bytesOf 1 o.code)) (a + 8) (bytesOf 2 tag)) a [slotDone]

theorem writeOutcome_eq (s : State) (l : Lane) (slot : Nat) (o : TakeOutcome) (tag : Nat) :
    s.writeOutcome l slot o tag =
      s.updDom l.domain fun r => { r with window := outcomeWindow (s.window l.domain) (l.outSlot slot) o tag } := by
  unfold State.writeOutcome State.writeWindow
  rw [updDom_updDom, updDom_updDom]
  exact updDom_congr rfl

theorem read_outcomeWindow (m : Memory) (a b : Nat) (o : TakeOutcome) (tag : Nat) :
    Memory.read (outcomeWindow m a o tag) b =
      if b = a then 0x02#8
      else if b = a + 6 then BitVec.ofNat 8 o.code
      else if b = a + 8 then BitVec.ofNat 8 tag
      else if b = a + 9 then BitVec.ofNat 8 (tag / 256)
      else Memory.read m b := by
  simp only [outcomeWindow, Memory.read_write, bytesOf, List.length_cons, List.length_nil]
  by_cases h0 : b = a
  · subst h0; simp [slotDone]
  by_cases h6 : b = a + 6
  · subst h6; simp
  by_cases h8 : b = a + 8
  · subst h8; simp
  by_cases h9 : b = a + 9
  · subst h9; simp
  rw [if_neg h0, if_neg h6, if_neg h8, if_neg h9, if_neg (by omega), if_neg (by omega), if_neg (by omega)]

theorem refusedTag_eq (m : Slot) : m.refusedTag = if m.kind = 3 then m.tag else 0xFFFF := by
  have : Kind.ofCode m.kind = some .answer ↔ m.kind = 3 := by unfold Kind.ofCode; split_ifs <;> simp_all
  simp only [Slot.refusedTag, this, Config.noTag]

/-- What a refusal changes beyond the slot, the counter and the flag: a LATE finding's change, or a violation (R40, R48). -/
def State.chargeRefusal (t : State) (l : Lane) (o : TakeOutcome) (tag : Nat) : State :=
  if o = .late then t.lateSeen tag else if o.isViolation then t.violate l else t

theorem refuseTake_eq (s : State) (l : Lane) (slot : Nat) (m : Slot) (o : TakeOutcome) : s.refuseTake l slot m o =
    State.chargeRefusal (((s.updDom l.domain fun r => { r with
        window := outcomeWindow (s.window l.domain) (l.outSlot slot) o m.refusedTag }).updLane l fun r =>
          { r with refused := min (r.refused + 1) 65535 }).raise l.domain (.outcome l)) l o m.tag := by
  rw [State.refuseTake, writeOutcome_eq]
  unfold State.chargeRefusal
  cases o <;> rfl

theorem refuseTake_scanner (s : State) (l : Lane) (slot : Nat) (m : Slot) (o : TakeOutcome) :
    (s.refuseTake l slot m o).scanner = s.scanner := by
  rw [refuseTake_eq, State.chargeRefusal]
  split_ifs <;> simp

/-- Settles O11: the bytes that an outcome writes (`read_outcomeWindow`), and the changes of a refusal (`refuseTake_eq`). -/
theorem refusedTakes : Obligations.RefusedTakes := by
  unfold Obligations.RefusedTakes
  refine ⟨rfl, fun s l slot o tag a ha => ⟨_, writeOutcome_eq s l slot o tag, fun b => ha ▸ read_outcomeWindow _ _ b o tag⟩,
    fun s l first slot o m hb hf hm hj => ?_⟩
  have run : exec .take s = .next (((s.visiting l first).refuseTake l slot m o).afterTake l slot first) := by
    rw [exec_take hb, takeFor_of_refusal (o := o) first (by rwa [visiting_filledSlot])
      (by rw [visiting_judge, visiting_slotMessage, ← hm]; exact hj), visiting_slotMessage, ← hm]
  rw [afterTake_eq _ _ _ _ s (refuseTake_scanner _ _ _ _ _), refuseTake_eq, visiting_window, refusedTag_eq] at run
  refine ⟨outcomeWindow (s.window l.domain) (l.outSlot slot) o (if m.kind = 3 then m.tag else 0xFFFF), _, _, _, rfl, run,
    fun b => read_outcomeWindow _ _ b o _, rfl, ?_, ?_, ?_, judge_ne_accepted hj⟩
  · intro ho; fin_cases ho <;> rfl
  · rintro rfl; rfl
  · intro ho; fin_cases ho <;> rfl

end Sys2Proof.Machine

/-! PROOFS. Deliveries, refills, hold limits and expiries (O20, O22, O23). -/

namespace Sys2Proof.Machine

section
variable {s : State}

/-! ## Changes of one lane -/

theorem updLane_congr {l : Lane} {f g : LaneState → LaneState} (h : f (s.lane l) = g (s.lane l)) : s.updLane l f = s.updLane l g :=
  congrArg (s.setLane l) h

/-- The removal of an entry that stands at a place of a lane's FIFO (R17, R64). -/
theorem removeAt_eq {l : Lane} {place : Nat} {e : Entry} (h : (s.lane l).fifo[place]? = some e) : s.removeAt l place =
    if e.holdsBuffer then State.clearBufferWait (s.updLane l fun r => { r with fifo := r.fifo.eraseIdx place })
    else s.updLane l fun r => { r with fifo := r.fifo.eraseIdx place } := by
  simp [State.removeAt, h]

/-! ## What a delivery tells the exchange table -/

theorem tellDelivered_request {h : Held} {i : Fin 48} {x : Exchange} (hk : h.message.kind = .request)
    (ht : s.findTag h.message.tag = some i) (hp : (s.entry i).state = .posted x) :
    s.tellDelivered (.message h) = s.setExchange i (.awaited x) := by
  simp only [State.tellDelivered, hk, if_true, State.requestDelivered, ht, hp]

theorem tellDelivered_conclusion {i : Fin 48} {x : Exchange} {c : Conclusion} {late : Bool}
    (hc : (s.entry i).state = .closing x c late) : s.tellDelivered (.conclusion i) =
      if c = .expired ∧ late = false then s.setExchange i (.lapsed x)
      else s.setEntry i ⟨(s.entry i).generation + 1, .free⟩ := by
  simp only [State.tellDelivered, State.concluded, hc]
  cases c <;> cases late <;> rfl

theorem tellDelivered_other {e : Entry} (hm : ∀ h, e = .message h → h.message.kind ≠ .request) (hc : ∀ i, e ≠ .conclusion i) :
    s.tellDelivered e = s := by
  cases e with
  | message h => exact if_neg (hm h rfl)
  | reply | cell => rfl
  | conclusion i => exact absurd rfl (hc i)

/-! ## Deliveries -/

/-- An attempt for a lane that finds no FREE slot (R66). -/
theorem exec_delivery_of_full {l : Lane} {e : Entry} {rest : List Entry} (hr : s.inReset = false)
    (hu : (s.dom l.domain).status = .up) (hw : (s.lane l).roomWait = false) (hf : (s.lane l).fifo = e :: rest)
    (hn : s.freeSlot l = none) : exec (.delivery l) s = .next (s.updLane l fun r => { r with roomWait := true }) := by
  simp [exec, execDelivery, State.isUp, hr, hu, hw, hf, hn]

/-- An attempt for a lane that finds a FREE slot (R66). -/
theorem exec_delivery_of_free {l : Lane} {e : Entry} {rest : List Entry} {slot : Nat} (hr : s.inReset = false)
    (hu : (s.dom l.domain).status = .up) (hw : (s.lane l).roomWait = false) (hf : (s.lane l).fifo = e :: rest)
    (hn : s.freeSlot l = some slot) : exec (.delivery l) s = .next (s.deliver l e slot) := by
  simp [exec, execDelivery, State.isUp, hr, hu, hw, hf, hn]

/-- The gap mark that the delivery of an entry clears: that of a cell whose event gives it (R62). -/
def Entry.clearsGap : Entry → Bool
  | .cell event _ => event.hasGap
  | .message _ | .reply _ | .conclusion _ => false

/-- The delivery of the head of a lane's FIFO (R67). -/
theorem deliver_eq {l : Lane} {e : Entry} {rest : List Entry} (slot : Nat) (hf : (s.lane l).fifo = e :: rest) :
    s.deliver l e slot =
    State.tellDelivered (State.raise
      ((fun q => if e.holdsBuffer then State.clearBufferWait q else q)
        ((s.updDom l.domain fun r => { r with
            window := Memory.write (s.window l.domain) (l.inSlot slot) ((s.envelopeOf l e).bytes (s.lane l).deliveryNumber) }).updLane l
          fun r => { r with
            deliveryNumber := r.deliveryNumber + 1
            putCursor := (slot + 1) % l.slots
            gapPending := r.gapPending && !e.clearsGap
            fifo := rest }))
      l.domain (.inbound l)) e := by
  unfold State.deliver
  dsimp only
  have write : ∀ bs, s.writeWindow l.domain (l.inSlot slot) bs =
      s.updDom l.domain fun r => { r with window := Memory.write (s.window l.domain) (l.inSlot slot) bs } := fun bs =>
    updDom_congr rfl
  rw [removeAt_eq (e := e) (by simp [hf]), updLane_updLane, write]
  refine congrArg (fun q => State.tellDelivered (State.raise (if e.holdsBuffer then State.clearBufferWait q else q) _ _) e)
    (updLane_congr ?_)
  cases e <;> simp [hf, Entry.clearsGap]

/-- What the exchange table holds as a delivery is told to it: what it held before. -/
theorem entry_of_frame {t : State} (h : t.exchanges = s.exchanges) (i : Fin 48) : t.entry i = s.entry i := by
  simp [State.entry, h]

theorem findTag_of_frame {t : State} (h : t.exchanges = s.exchanges) (tag : Nat) : t.findTag tag = s.findTag tag := by
  simp [State.findTag, entry_of_frame h]

theorem freeSlot_eq_some {l : Lane} {k slot : Nat} (hk : k < l.slots) (hs : slot = ((s.lane l).putCursor + k) % l.slots)
    (hr : Memory.read (s.window l.domain) (l.inSlot slot) = slotFree)
    (hj : ∀ j, j < k → Memory.read (s.window l.domain) (l.inSlot (((s.lane l).putCursor + j) % l.slots)) ≠ slotFree) :
    s.freeSlot l = some slot :=
  (searchBoard_eq_some _ _ _ _).2 ⟨k, hk, hs, decide_eq_true hr, fun j h => decide_eq_false (hj j h)⟩

theorem freeSlot_eq_none {l : Lane} (h : ∀ i, i < l.slots → Memory.read (s.window l.domain) (l.inSlot i) ≠ slotFree) :
    s.freeSlot l = none :=
  (searchBoard_eq_none _ _ _).2 fun _ _ => decide_eq_false (h _ (Nat.mod_lt _ (slots_pos l)))

end

/-- Settles O20: the search for a FREE slot, the delivery's own changes (`deliver_eq`), and what the exchange table is told by the kind
of the entry. -/
theorem deliveryOfTheHead : Obligations.DeliveryOfTheHead := by
  unfold Obligations.DeliveryOfTheHead
  intro s l e rest hr hu hw hf
  refine ⟨fun hn => exec_delivery_of_full hr hu hw hf (freeSlot_eq_none hn), fun k slot hk hs hfree hj hp => ?_⟩
  have run := exec_delivery_of_free hr hu hw hf (freeSlot_eq_some hk hs hfree hj)
  have length := Envelope.bytes_length (s.envelopeOf l e) (s.lane l).deliveryNumber hp
  refine ⟨Memory.write (s.window l.domain) (l.inSlot slot) ((s.envelopeOf l e).bytes (s.lane l).deliveryNumber), _,
    State.tellDelivered _ e, run.trans (congrArg Host.Outcome.next ?_), ?_, fun a ha => ?_, rfl, ?_, ?_, tellDelivered_other⟩
  · rw [deliver_eq slot hf]; cases e <;> rfl
  · rw [← length]; exact Memory.readBytes_write _ _ _
  · rw [Memory.read_write, length, if_neg (by omega)]
  · rintro h i x rfl hk' ht hp'
    exact tellDelivered_request hk' ((findTag_of_frame (by simp [Entry.holdsBuffer]) _).trans ht)
      (by rw [entry_of_frame (s := s) (by simp [Entry.holdsBuffer])]; exact hp')
  · rintro i x c late rfl hc
    rw [tellDelivered_conclusion (by rw [entry_of_frame (s := s) (by simp [Entry.holdsBuffer])]; exact hc),
      entry_of_frame (s := s) (by simp [Entry.holdsBuffer])]

/-! ## Refills and drops -/

section
variable {s : State}

theorem clearBufferWait_updLane (l : Lane) {f : LaneState → LaneState}
    (h : ∀ r, f { r with bufferWait := false } = { f r with bufferWait := false }) :
    s.clearBufferWait.updLane l f = (s.updLane l f).clearBufferWait := by
  refine eq_of_lanes (fun k => ?_) rfl
  by_cases hk : k = l
  · subst hk; simp [State.clearBufferWait, h]
  · simp [State.clearBufferWait, hk]

theorem exec_refill {k : Nat} {r : Route} {b : Budget} (hr : s.routes[k]? = some r) (hb : r.budget = some b)
    (hd : b.timerZero + b.interval * 1000 ≤ s.now) : exec (.refill k) s = .next { s with
      routes := s.routes.set k ({ r with budget := some { b with level := min (b.level + 1) b.burst, timerZero := s.now } }) } := by
  have due : b.due s.now = true := decide_eq_true hd
  simp only [exec, execRefill, List.modify_eq_set_getElem?, hr, Option.map_eq_map, Option.map_some, Option.getD_some, hb, due, if_true]
  rfl

/-- The drop of an entry that holds a buffer and has stood its hold limit (R71). -/
theorem exec_holdLimitDrop {l : Lane} {place : Nat} {e : Entry} (h : (s.lane l).fifo[place]? = some e)
    (hb : e.holdsBuffer = true) (hx : e.holdExpired s.now = true) :
    exec (.holdLimitDrop l place) s = .next (State.clearBufferWait (s.updLane l fun r =>
      { r with fifo := r.fifo.eraseIdx place, dropped := min (r.dropped + 1) 65535 })) := by
  simp only [exec, execHoldLimitDrop, h, Option.any_some, hx, if_true, removeAt_eq h, hb, State.countDropped]
  rw [clearBufferWait_updLane l fun _ => rfl, updLane_updLane]
  rfl

theorem exec_eventCellDrop {l : Lane} {place joined : Nat} {e : InputEvent} (h : (s.lane l).fifo[place]? = some (.cell e joined))
    (hx : joined + 250 * 1000 ≤ s.now) : exec (.eventCellDrop l place) s = .next ((s.updLane l fun r =>
      { r with
        fifo := r.fifo.eraseIdx place
        inputLost := min (r.inputLost + 1) 65535
        gapPending := r.gapPending || e.hasGap }).raise l.domain .inputLost) := by
  have expired : Entry.expiredEvent s.now (.cell e joined) = some e := if_pos hx
  simp only [exec, execEventCellDrop, h, Option.bind_some, expired, removeAt_eq h, Entry.holdsBuffer, Bool.false_eq_true,
    if_false, State.loseEvent, updLane_updLane]
  rfl

end

/-- Settles O22: a refill, and each drop where the entry at its place is due. -/
theorem refillsAndHoldLimits : Obligations.RefillsAndHoldLimits := by
  unfold Obligations.RefillsAndHoldLimits
  refine fun s => ⟨fun k r b => exec_refill, fun l place => ⟨fun h hp hk hx => exec_holdLimitDrop hp rfl ?_,
    fun h hp hx => exec_holdLimitDrop hp rfl (decide_eq_true hx), fun e joined => exec_eventCellDrop⟩⟩
  exact Bool.and_eq_true_iff.2 ⟨decide_eq_true hk, decide_eq_true hx⟩

/-! ## Expiry -/

section
variable {s : State} {i : Fin 48} {x : Exchange}

theorem exec_expiry_of_waiting (h : ∀ x, (s.entry i).state = .posted x ∨ (s.entry i).state = .awaited x → s.now < x.deadline) :
    exec (.expiry i) s = .next s := by
  have : s.expiryDue i = false := by
    unfold State.expiryDue
    split
    · next x hx => exact decide_eq_false (Nat.not_le.2 (h x (.inl hx)))
    · next x hx => exact decide_eq_false (Nat.not_le.2 (h x (.inr hx)))
    all_goals rfl
  simp [exec, execExpiry, this]

theorem exec_expiry_of_due (hd : x.deadline ≤ s.now) (h : (s.entry i).state = .posted x ∨ (s.entry i).state = .awaited x) :
    exec (.expiry i) s = .next (s.expire i) := by
  have : s.expiryDue i = true := by
    unfold State.expiryDue
    rcases h with h | h <;> simp [h, hd]
  simp [exec, execExpiry, this]

theorem conclude_of_fenced (c : Conclusion) (h : (s.lane x.requester).fenced = true) : s.conclude i x c =
    (s.setEntry i ⟨(s.entry i).generation + 1, .free⟩).updLane x.requester fun r =>
      { r with dropped := min (r.dropped + 1) 65535 } := by
  rw [State.conclude, if_pos h]; rfl

theorem conclude_of_shutOut (c : Conclusion) (h : (s.lane x.requester).fenced = false) (ha : x.requester.isApp = true)
    (hl : s.hub.mode = .lockdown) : s.conclude i x c = s.setEntry i ⟨(s.entry i).generation + 1, .free⟩ := by
  rw [State.conclude, h, if_neg Bool.false_ne_true, if_pos (by simp [State.shutOut, ha, hl])]; rfl

theorem conclude_of_open (c : Conclusion) (h : (s.lane x.requester).fenced = false)
    (hs : ¬(x.requester.isApp = true ∧ s.hub.mode = .lockdown)) : s.conclude i x c =
    (s.setExchange i (.closing x c false)).updLane x.requester fun r => { r with fifo := r.fifo ++ [.conclusion i] } := by
  rw [State.conclude, h, if_neg Bool.false_ne_true, if_neg (by simpa [State.shutOut] using hs)]; rfl

theorem holdsBuffer_of_isRequest {p : Message → Bool} {e : Entry} (h : e.isRequest p = true) : e.holdsBuffer = true := by
  cases e <;> simp_all [Entry.isRequest, Entry.holdsBuffer]

/-- A removal from the FIFOs: what it leaves of each, and the release of buffers by what it takes (R17, R58, R64). -/
theorem filterFifos_eq (s : State) (keep : Lane → Entry → Bool) (keepHub : Held → Bool) {released : Bool}
    (h : released = true ↔ (∃ k, ∃ e ∈ (s.lane k).fifo, keep k e = false ∧ e.holdsBuffer = true)
      ∨ ∃ h ∈ s.hub.fifo, keepHub h = false) :
    s.filterFifos keep keepHub = { s.updLanes (fun l r => { r with
        fifo := r.fifo.filter (keep l)
        bufferWait := r.bufferWait && !released }) with
      hub := { s.hub with fifo := s.hub.fifo.filter keepHub } } := by
  have hr : released = (allLanes.any (fun k => (s.lane k).fifo.any fun e => !keep k e && e.holdsBuffer)
      || s.hub.fifo.any fun h => !keepHub h) := by
    rw [Bool.eq_iff_iff, h]
    simp [mem_allLanes]
  refine eq_of_lanes (fun l => ?_) ?_
  · rw [filterFifos_lane, ← hr]
    simp only [State.lane_mk, State.lane_updLanes]
  · unfold State.filterFifos
    dsimp only
    split <;> rfl

/-- The removal of the REQUESTs that bear a tag, with the release of their buffers (R17, R64). -/
theorem removeRequest_eq {tag : Nat} {released : Bool}
    (h : released = true ↔ ∃ l, ∃ e ∈ (s.lane l).fifo, e.isRequest (fun m => decide (m.tag = tag)) = true) :
    s.removeRequest tag = s.updLanes fun _ r => { r with
      fifo := r.fifo.filter fun e => !e.isRequest fun m => decide (m.tag = tag)
      bufferWait := r.bufferWait && !released } := by
  rw [State.removeRequest, filterFifos_eq (released := released), List.filter_true]
  · rfl
  · simp only [h, Bool.not_eq_false', Bool.true_eq_false, and_false, exists_false, or_false]
    exact exists_congr fun l => exists_congr fun e => and_congr_right fun _ =>
      ⟨fun hq => ⟨hq, holdsBuffer_of_isRequest hq⟩, And.left⟩

/-- The state in which an expiry concludes its entry, and the conclusion (R81). -/
theorem expire_eq (h : (s.entry i).state = .posted x ∨ (s.entry i).state = .awaited x) : s.expire i =
    if (s.entry i).state = .posted x ∧ x.responder ≠ .hub then (s.removeRequest (s.tagOf i)).conclude i x .undelivered
    else s.conclude i x .expired := by
  unfold State.expire
  rcases h with h | h
  · cases hr : x.responder <;> simp [h, hr, Address.recipient]
  · simp [h]

end

/-- Settles O23: the conclusion by the state of the requester's lane (`conclude_of_open` and the like), and what the expiry of a
REQUEST that has not been delivered removes (`removeRequest_eq`). -/
theorem expiryConcludes : Obligations.ExpiryConcludes := by
  unfold Obligations.ExpiryConcludes
  refine ⟨fun s i => exec_expiry_of_waiting, fun q i x c => ⟨fun _ => rfl, conclude_of_fenced c, conclude_of_shutOut c,
    conclude_of_open c⟩, fun s i x released hd hp hr => ?_⟩
  rw [exec_expiry_of_due hd hp, expire_eq hp]
  by_cases hu : (s.entry i).state = .posted x ∧ x.responder ≠ .hub
  · have entry : (s.removeRequest (s.tagOf i)).entry i = s.entry i := by simp
    have lane : ((s.removeRequest (s.tagOf i)).lane x.requester).fenced = (s.lane x.requester).fenced := by simp
    have hub := removeRequest_hub s (s.tagOf i)
    rw [if_pos hu]
    refine ⟨s.removeRequest (s.tagOf i), .undelivered, fun _ => ⟨rfl, removeRequest_eq hr⟩, fun h => ?_, fun hf => ?_, fun hf ha hm => ?_,
      fun hf hs => ?_⟩
    · rcases h with h | h
      · rw [hu.1] at h; cases h
      · exact absurd h hu.2
    · rw [conclude_of_fenced _ (lane ▸ hf), entry]
    · rw [conclude_of_shutOut _ (lane ▸ hf) ha (hub ▸ hm), entry]
    · rw [conclude_of_open _ (lane ▸ hf) (hub ▸ hs)]
  · rw [if_neg hu]
    refine ⟨s, .expired, fun h => absurd h hu, fun _ => ⟨rfl, rfl⟩, fun hf => ?_, fun hf ha hm => ?_, fun hf hs => ?_⟩
    · rw [conclude_of_fenced _ hf]
    · rw [conclude_of_shutOut _ hf ha hm]
    · rw [conclude_of_open _ hf hs]

end Sys2Proof.Machine

/-! PROOFS. DOMAIN RESET (O32). -/

namespace Sys2Proof.Machine

section
variable {s : State} {m : Message} {d : Domain} {q : HubRequest}

/-- What the three rows of DOMAIN RESET have in common. -/
def IsDomainReset (q : HubRequest) : Prop :=
  q.code = 0x0A ∧ q.issuer = payOnly ∧ q.available = anyMode ∧ q.length = fun _ => 4

theorem isDomainReset_hold : IsDomainReset domainResetHoldRequest := ⟨rfl, rfl, rfl, rfl⟩
theorem isDomainReset_release : IsDomainReset domainResetReleaseRequest := ⟨rfl, rfl, rfl, rfl⟩
theorem isDomainReset_pulse : IsDomainReset domainResetPulseRequest := ⟨rfl, rfl, rfl, rfl⟩

theorem serve_domainReset (hq : IsDomainReset q) (h : HubTakes s m) (ht : q.takes m.payload = true) (hs : m.sender = .pay)
    (hl : 4 ≤ m.payload.length) (hb : q.badField m.payload = none) (hr : q.refused (s.hubTake m) m = none) :
    q.serve s = q.run (s.hubTake m) m := by
  obtain ⟨-, issuer, available, length⟩ := hq
  exact serve_run h q ht (by rw [issuer, hs]; rfl) (by rw [available]; rfl) (by rw [length]; exact hl) hb hr

/-- A field or a condition at fault is answered PARAMETER (R33, R97). -/
theorem serve_domainReset_refused (hq : IsDomainReset q) (h : HubTakes s m) (ht : q.takes m.payload = true) (hs : m.sender = .pay)
    (hl : 4 ≤ m.payload.length) (hr : q.badField m.payload = some 0
      ∨ (q.badField m.payload = none ∧ q.refused (s.hubTake m) m = some (.parameter, 0))) :
    q.serve s = s.answered m [4#8, 0x0A#8, 0#8, 0#8] := by
  obtain ⟨code, issuer, available, length⟩ := hq
  have hi : q.issuer m.sender = true := by rw [issuer, hs]; rfl
  have ha : q.available s.hub.mode = true := by rw [available]; rfl
  have hl : q.length m.payload ≤ m.payload.length := by rw [length]; exact hl
  rcases hr with hb | ⟨hb, hr⟩
  · rw [serve_badField h q ht hi ha hl hb, code]; rfl
  · rw [serve_refused h q ht hi ha hl hb hr, code]; rfl

theorem hasCode_cons (rest : List Byte) : hasCode 0x0A (0x0A#8 :: rest) = true := by simp [hasCode]

theorem resetDomainOf_eq {p : List Byte} (h : byteAt p 2 = 1 ∧ d = .app ∨ byteAt p 2 = 3 ∧ d = .rad) :
    resetDomainOf p = d ∧ resetDomainListed p = true := by
  unfold resetDomainOf resetDomainListed
  rcases h with ⟨h, rfl⟩ | ⟨h, rfl⟩ <;> simp [h]

theorem hubTake_isHeld : (s.hubTake m).isHeld d = decide ((s.dom d).status = .held) := by simp [State.isHeld]

/-- The release of APP or RAD (R112). -/
theorem releaseDomain_eq (hd : d ≠ .pay) : s.releaseDomain d = ((s.updDom d fun r =>
      { r with release := none, status := .waiting, initialising := some s.now, remembered := 0#8, stray := 0 }).updLanes
        fun l r => if l.domain = d then { r with scanWanted := false, bufferWait := false, roomWait := false } else r).raise
          .pay .domain := by
  rw [State.releaseDomain, State.raiseDomain, if_neg hd, State.startInit, updDom_updDom, State.updDom_now]

end

/-! ## The three rows -/

section
variable {s : State} {m : Message} {d : Domain}

theorem serve_hold (h : HubTakes s m) (hc : hasCode 0x0A m.payload = true) (hs : m.sender = .pay) (hl : 4 ≤ m.payload.length)
    (hd : byteAt m.payload 2 = 1 ∧ d = .app ∨ byteAt m.payload 2 = 3 ∧ d = .rad) (ha : byteAt m.payload 3 = 1) :
    domainResetHoldRequest.serve s = ((s.hubTake m).hold d).complete m.tag [1#8, 0x0A#8, 0#8, 0#8] := by
  obtain ⟨domain, listed⟩ := resetDomainOf_eq hd
  rw [serve_domainReset isDomainReset_hold h (by simp [domainResetHoldRequest, hc, isRelease, isResetPulse, ha]) hs hl
    (by simp [domainResetHoldRequest, badItem, listed, ha]) rfl]
  rw [← domain]; rfl

theorem serve_pulse (h : HubTakes s m) (hc : hasCode 0x0A m.payload = true) (hs : m.sender = .pay) (hl : 4 ≤ m.payload.length)
    (hd : byteAt m.payload 2 = 1 ∧ d = .app ∨ byteAt m.payload 2 = 3 ∧ d = .rad) (ha : byteAt m.payload 3 = 3) :
    domainResetPulseRequest.serve s = if (s.dom d).status = .held then s.answered m [4#8, 0x0A#8, 0#8, 0#8]
      else State.addOutstanding (((s.hubTake m).holdDomain d).updDom d fun r =>
        { r with release := some ((s.hubTake m).now + Config.pulseLength) }) (.pulse d) m := by
  obtain ⟨domain, listed⟩ := resetDomainOf_eq hd
  have takes : domainResetPulseRequest.takes m.payload = true := by simp [domainResetPulseRequest, hc, isResetPulse, ha]
  have field : domainResetPulseRequest.badField m.payload = none := by simp [domainResetPulseRequest, badItem, listed]
  have refused : domainResetPulseRequest.refused (s.hubTake m) m =
      if (s.dom d).status = .held then some (.parameter, 0) else none := by
    simp [domainResetPulseRequest, domain, hubTake_isHeld]
  split
  · next hh => exact serve_domainReset_refused isDomainReset_pulse h takes hs hl (.inr ⟨field, by rw [refused, if_pos hh]⟩)
  · next hh =>
    rw [serve_domainReset isDomainReset_pulse h takes hs hl field (by rw [refused, if_neg hh]), ← domain]; rfl

theorem serve_release (h : HubTakes s m) (hc : hasCode 0x0A m.payload = true) (hs : m.sender = .pay) (hl : 4 ≤ m.payload.length)
    (hd : byteAt m.payload 2 = 1 ∧ d = .app ∨ byteAt m.payload 2 = 3 ∧ d = .rad) (ha : byteAt m.payload 3 = 2) :
    domainResetReleaseRequest.serve s = if (s.dom d).status = .held then
        (((s.hubTake m).releaseDomain d).completeJobs (.pulse d) .done 0).complete m.tag [1#8, 0x0A#8, 0#8, 0#8]
      else s.answered m [4#8, 0x0A#8, 0#8, 0#8] := by
  obtain ⟨domain, listed⟩ := resetDomainOf_eq hd
  have takes : domainResetReleaseRequest.takes m.payload = true := by simp [domainResetReleaseRequest, hc, isRelease, ha]
  have field : domainResetReleaseRequest.badField m.payload = none := by simp [domainResetReleaseRequest, badItem, listed]
  have refused : domainResetReleaseRequest.refused (s.hubTake m) m =
      if (s.dom d).status = .held then none else some (.parameter, 0) := by
    simp [domainResetReleaseRequest, domain, hubTake_isHeld]
  split
  · next hh =>
    rw [serve_domainReset isDomainReset_release h takes hs hl field (by rw [refused, if_pos hh]), ← domain]; rfl
  · next hh => exact serve_domainReset_refused isDomainReset_release h takes hs hl (.inr ⟨field, by rw [refused, if_neg hh]⟩)

/-- A domain or an action that is not listed is answered PARAMETER by the row that takes the request. -/
theorem exec_domainReset_unlisted {c : Instr} (h : HubTakes s m) (hc : hasCode 0x0A m.payload = true) (hs : m.sender = .pay)
    (hl : 4 ≤ m.payload.length) (hb : byteAt m.payload 2 ∉ [1, 3] ∨ byteAt m.payload 3 ∉ [1, 2, 3])
    (ht : c = (if byteAt m.payload 3 = 2 then .domainResetRelease else if byteAt m.payload 3 = 3 then .domainResetPulse
      else .domainResetHold)) : exec c s = .next (s.answered m [4#8, 0x0A#8, 0#8, 0#8]) := by
  have listed : resetDomainListed m.payload = false ↔ byteAt m.payload 2 ∉ [1, 3] := by simp [resetDomainListed]
  split_ifs at ht with h2 h3 <;> subst ht
  · have field : resetDomainListed m.payload = false := listed.2 (hb.resolve_right (by simp [h2]))
    exact congrArg Host.Outcome.next (serve_domainReset_refused isDomainReset_release h
      (by simp [domainResetReleaseRequest, hc, isRelease, h2]) hs hl (.inl (by simp [domainResetReleaseRequest, badItem, field])))
  · have field : resetDomainListed m.payload = false := listed.2 (hb.resolve_right (by simp [h3]))
    exact congrArg Host.Outcome.next (serve_domainReset_refused isDomainReset_pulse h
      (by simp [domainResetPulseRequest, hc, isResetPulse, h3]) hs hl (.inl (by simp [domainResetPulseRequest, badItem, field])))
  · have field : (resetDomainListed m.payload && decide (byteAt m.payload 3 = 1)) = false := by
      rcases hb with hb | hb
      · rw [listed.2 hb, Bool.false_and]
      · rw [decide_eq_false fun e => hb (by simp [e]), Bool.and_false]
    exact congrArg Host.Outcome.next (serve_domainReset_refused isDomainReset_hold h
      (by simp [domainResetHoldRequest, hc, isRelease, isResetPulse, h2, h3]) hs hl
      (.inl (by simp only [domainResetHoldRequest, badItem, field]; rfl)))

end

/-- Settles O32: each action's row served in each state of the domain, the release as the PULSE's and the RELEASE's one change
(`releaseDomain_eq`), and the rows that no list holds (`exec_domainReset_unlisted`). -/
theorem domainResets : Obligations.DomainResets := by
  unfold Obligations.DomainResets
  refine ⟨?_, ?_, ?_, ?_⟩
  · rintro s v h m rest _ d ht rfl hs hp hl hd rfl hh
    have code : hasCode 0x0A m.payload = true := hp ▸ hasCode_cons rest
    have held := hubTake_isHeld (s := s) (m := m) (d := d)
    refine ⟨fun ha hn => ?_, fun ha hn => ?_, fun ha hn => ?_, fun ha hn => ?_⟩
    · refine congrArg Host.Outcome.next ?_
      rw [serve_hold ht code hs hl hd ha, State.hold, held, if_neg (by simpa using hn), hh]
      rfl
    · refine congrArg Host.Outcome.next ?_
      rw [serve_hold ht code hs hl hd ha, State.hold, held, if_pos (by simpa using hn)]
      rfl
    · refine congrArg Host.Outcome.next ?_
      rw [serve_pulse ht code hs hl hd ha, if_neg hn, hh]
      simp [State.holdDomain, Config.pulseLength, Config.ms]
    · refine congrArg Host.Outcome.next ?_
      rw [serve_pulse ht code hs hl hd ha, if_pos hn]
  · intro s d released hr
    have release : ∀ q, d ≠ .pay → released q = (q.releaseDomain d).completeJobs (.pulse d) .done 0 := fun q hd => by
      rw [hr, releaseDomain_eq hd]
    refine ⟨fun t hd hp ht => ?_, fun m rest p ht hm hs hp hl hd ha => ?_⟩
    · have due : s.releaseDue d = true := by simp [State.releaseDue, hp, ht]
      rw [release s hd]
      exact congrArg Host.Outcome.next (if_pos due)
    · subst hm
      have code : hasCode 0x0A m.payload = true := hp ▸ hasCode_cons rest
      have hne : d ≠ .pay := by rcases hd with ⟨-, rfl⟩ | ⟨-, rfl⟩ <;> simp
      rw [release _ hne]
      refine ⟨fun hh => congrArg Host.Outcome.next ?_, fun hh => congrArg Host.Outcome.next ?_⟩
      · rw [serve_release ht code hs hl hd ha, if_pos hh]
      · rw [serve_release ht code hs hl hd ha, if_neg hh]
  · rintro s m rest _ c ht rfl hs hp hl hbad hc
    exact exec_domainReset_unlisted ht (hp ▸ hasCode_cons rest) hs hl hbad hc
  · intro s d hd
    cases d <;> simp_all [State.resetOutput]

end Sys2Proof.Machine

/-! PROOFS. What the loss of lanes does to the exchange table and to the FIFOs that its conclusions join: the folds over the
entries, for removals, fences and the entry into LOCKDOWN (O36, O37, O38). -/

namespace Sys2Proof.Machine

/-! ## Conclusions for a lane -/

section
variable {s t : State}

theorem counterAfter_counterAfter (c n m : Nat) : counterAfter (counterAfter c n) m = counterAfter c (n + m) := by
  unfold counterAfter
  split_ifs <;> omega

/-- A lane's record once the conclusions of entries have been placed for it: the references join its FIFO, or are discarded, and
counted where it is fenced (R73, R86). -/
def State.told (s : State) (l : Lane) (refs : List (Fin 48)) : LaneState :=
  { s.lane l with
    fifo := (s.lane l).fifo ++ (if s.concludes l then refs.map .conclusion else [])
    dropped := counterAfter (s.lane l).dropped (if (s.lane l).fenced then refs.length else 0) }

@[simp] theorem told_nil (s : State) (l : Lane) : s.told l [] = s.lane l := by simp [State.told]

theorem told_append {l : Lane} {refs : List (Fin 48)} (h : t.lane l = s.told l refs) (hc : t.concludes l = s.concludes l)
    (refs' : List (Fin 48)) : t.told l refs' = s.told l (refs ++ refs') := by
  simp only [State.told, h, hc, counterAfter_counterAfter]
  congr 1
  · split <;> simp
  · split <;> simp

theorem concludes_iff (s : State) (l : Lane) : s.concludes l = (!(s.lane l).fenced && !s.shutOut l) := rfl

theorem concludes_congr {l : Lane} (hf : (t.lane l).fenced = (s.lane l).fenced) (hm : t.hub.mode = s.hub.mode) :
    t.concludes l = s.concludes l := by
  simp [State.concludes, hf, hm]

theorem conclude_entry (s : State) (i j : Fin 48) (x : Exchange) (c : Conclusion) : (s.conclude i x c).entry j =
    if j = i then s.entryConcluded (s.entry i) x c else s.entry j := by
  unfold State.conclude State.entryConcluded
  rw [concludes_iff]
  cases (s.lane x.requester).fenced <;> cases s.shutOut x.requester <;>
    simp [State.freeEntry, State.countDropped, State.setExchange, State.join, ExchangeEntry.freed]

/-- An application lane in LOCKDOWN that is not fenced is told of nothing, and nothing is counted. -/
theorem told_of_shutOut {l : Lane} (hf : (s.lane l).fenced = false) (hs : s.shutOut l = true) (refs : List (Fin 48)) :
    s.told l refs = s.lane l := by
  have hc : s.concludes l = false := by rw [concludes_iff, hs, Bool.not_true, Bool.and_false]
  have hn : ¬(s.lane l).fenced = true := by simp [hf]
  rw [State.told, hc, if_neg Bool.false_ne_true, if_neg hn, List.append_nil, counterAfter_zero]

theorem conclude_lane (s : State) (i : Fin 48) (x : Exchange) (c : Conclusion) (l : Lane) : (s.conclude i x c).lane l =
    s.told l (if x.requester = l then [i] else []) := by
  by_cases hl : x.requester = l
  · subst hl
    rw [if_pos rfl]
    unfold State.conclude
    split_ifs with hf hs
    · simp [State.freeEntry, State.countDropped, State.told, concludes_iff, hf, counterAfter, bumpBy]
    · rw [told_of_shutOut (by simpa using hf) hs]
      simp [State.freeEntry]
    · simp [State.setExchange, State.join, State.told, concludes_iff, hf, hs]
  · rw [if_neg hl, told_nil]
    unfold State.conclude
    split_ifs <;> simp [State.freeEntry, State.countDropped, State.setExchange, State.join, Ne.symm hl]

/-! ## Folds over the entries -/

/-- What an event does to one entry: its new value, and the lane that is told of its conclusion. -/
structure Closes (f : State → Fin 48 → State) (new : State → ExchangeEntry → ExchangeEntry) (tells : ExchangeEntry → Option Lane) :
    Prop where
  entry : ∀ s i j, (f s i).entry j = if j = i then new s (s.entry i) else s.entry j
  lane : ∀ s i l, (f s i).lane l = s.told l (if tells (s.entry i) = some l then [i] else [])
  hub : ∀ s i, (f s i).hub = s.hub
  congr : ∀ s t, (∀ l, t.concludes l = s.concludes l) → new t = new s

variable {f : State → Fin 48 → State} {new : State → ExchangeEntry → ExchangeEntry} {tells : ExchangeEntry → Option Lane}

theorem Closes.concludes (h : Closes f new tells) (s : State) (i : Fin 48) (l : Lane) : (f s i).concludes l = s.concludes l :=
  concludes_congr (by rw [h.lane]; rfl) (by rw [h.hub])

/-- Over a list of distinct entries each is changed as it stood, and each lane is told in the order of the list. -/
theorem Closes.fold (h : Closes f new tells) {xs : List (Fin 48)} (hx : xs.Nodup) (s : State) :
    (∀ j, (xs.foldl f s).entry j = if j ∈ xs then new s (s.entry j) else s.entry j)
      ∧ ∀ l, (xs.foldl f s).lane l = s.told l (xs.filter fun i => decide (tells (s.entry i) = some l)) := by
  induction xs generalizing s with
  | nil => simp
  | cons i xs ih =>
    obtain ⟨hi, hx⟩ := List.nodup_cons.1 hx
    obtain ⟨entry, lane⟩ := ih hx (f s i)
    have others : ∀ j ∈ xs, (f s i).entry j = s.entry j := fun j hj => by
      have e : j ≠ i := fun e => hi (e ▸ hj)
      rw [h.entry, if_neg e]
    refine ⟨fun j => ?_, fun l => ?_⟩
    · rw [List.foldl_cons, entry, h.congr s (f s i) (h.concludes s i)]
      by_cases hj : j ∈ xs
      · rw [if_pos hj, others j hj, if_pos (List.mem_cons_of_mem _ hj)]
      · rw [if_neg hj, h.entry]
        by_cases e : j = i <;> simp [e, hj]
    · have later : xs.filter (fun j => decide (tells ((f s i).entry j) = some l)) = xs.filter fun j => decide (tells (s.entry j) = some l) :=
        List.filter_congr fun j hj => by rw [others j hj]
      rw [List.foldl_cons, lane, later, told_append (h.lane s i l) (h.concludes s i l), List.filter_cons]
      split_ifs <;> simp_all

/-! ## The loss of lanes -/

theorem responderLane_any (x : Exchange) (gone : Lane → Bool) : x.responderLane?.any gone = x.answeredBy gone := by
  unfold Exchange.responderLane? Exchange.answeredBy
  cases x.responder <;> rfl

/-- The lane that is told where the lanes that `gone` picks are lost: the requester, which stays, of an exchange that waits for one
of them (R90, R92). -/
def tellee (gone : Lane → Bool) (e : ExchangeEntry) : Option Lane :=
  (e.state.waits?.filter fun x => !gone x.requester && x.answeredBy gone).map Exchange.requester

theorem entryConcluded_congr {x : Exchange} (h : t.concludes x.requester = s.concludes x.requester) (e : ExchangeEntry)
    (c : Conclusion) : t.entryConcluded e x c = s.entryConcluded e x c := by rw [State.entryConcluded, h]; rfl

theorem entryRemoved_congr {gone : Lane → Bool} (h : ∀ l, gone l = false → t.concludes l = s.concludes l) (fence : Bool) :
    t.entryRemoved gone fence = s.entryRemoved gone fence := by
  funext e
  have staying : ∀ x : Exchange, ¬gone x.requester = true → t.entryConcluded e x .targetDown = s.entryConcluded e x .targetDown :=
    fun x hx => entryConcluded_congr (h _ (by simpa using hx)) e _
  unfold State.entryRemoved
  cases e.state with
  | free | closing | lapsed => rfl
  | posted x | awaited x =>
    by_cases hx : gone x.requester = true
    · simp only [hx, if_true]
    · simp only [staying x hx]

section
variable (gone : Lane → Bool) (keepHub : Bool) {i : Fin 48} {x : Exchange}

/-! ### What a removal does to an entry in each of its states -/

theorem removeFrom_free (he : (s.entry i).state = .free) : State.removeFrom gone keepHub s i = s := by
  simp [State.removeFrom, he, ExchangeState.exchange?]

theorem removeFrom_posted (he : (s.entry i).state = .posted x) : State.removeFrom gone keepHub s i =
    if gone x.requester then s.freeEntry i else if x.answeredBy gone then s.conclude i x .targetDown else s := by
  simp [State.removeFrom, he, ExchangeState.exchange?, ExchangeState.awaitsHub, responderLane_any, State.responderRemoved]

theorem removeFrom_awaited (he : (s.entry i).state = .awaited x) : State.removeFrom gone keepHub s i =
    if gone x.requester then if keepHub && decide (x.responder = .hub) then s else s.freeEntry i
    else if x.answeredBy gone then s.conclude i x .targetDown else s := by
  simp [State.removeFrom, he, ExchangeState.exchange?, ExchangeState.awaitsHub, responderLane_any, State.responderRemoved]

theorem removeFrom_closing {c : Conclusion} {late : Bool} (he : (s.entry i).state = .closing x c late) :
    State.removeFrom gone keepHub s i =
      if gone x.requester then s.freeEntry i
      else if x.answeredBy gone && decide (c = .expired) then s.setExchange i (.closing x c true) else s := by
  cases c <;>
    simp [State.removeFrom, he, ExchangeState.exchange?, ExchangeState.awaitsHub, responderLane_any, State.responderRemoved]

theorem removeFrom_lapsed (he : (s.entry i).state = .lapsed x) : State.removeFrom gone keepHub s i =
    if gone x.requester || x.answeredBy gone then s.freeEntry i else s := by
  simp only [State.removeFrom, he, ExchangeState.exchange?, ExchangeState.awaitsHub, responderLane_any, State.responderRemoved]
  cases gone x.requester <;> cases x.answeredBy gone <;> simp

end

theorem freeEntry_entry (s : State) (i j : Fin 48) :
    (s.freeEntry i).entry j = if j = i then (s.entry i).freed else s.entry j := by
  simp [State.freeEntry, ExchangeEntry.freed]

theorem entry_eq_ite (s : State) (i j : Fin 48) : s.entry j = if j = i then s.entry i else s.entry j := by
  split_ifs with e
  · rw [e]
  · rfl

theorem removeFrom_entry (gone : Lane → Bool) (keepHub : Bool) (s : State) (i j : Fin 48) :
    (State.removeFrom gone keepHub s i).entry j = if j = i then s.entryRemoved gone keepHub (s.entry i) else s.entry j := by
  have self := entry_eq_ite s i j
  unfold State.entryRemoved
  cases he : (s.entry i).state with
  | free => rw [removeFrom_free gone keepHub he]; exact self
  | posted x =>
    rw [removeFrom_posted gone keepHub he]
    split_ifs <;> simp_all [conclude_entry, freeEntry_entry]
  | awaited x =>
    rw [removeFrom_awaited gone keepHub he]
    split_ifs <;> simp_all [conclude_entry, freeEntry_entry]
  | closing x c late =>
    rw [removeFrom_closing gone keepHub he]
    split_ifs <;> simp_all [freeEntry_entry, State.setExchange]
  | lapsed x =>
    rw [removeFrom_lapsed gone keepHub he]
    split_ifs <;> simp_all [freeEntry_entry]

theorem removeFrom_lane (gone : Lane → Bool) (keepHub : Bool) (s : State) (i : Fin 48) (l : Lane) :
    (State.removeFrom gone keepHub s i).lane l = s.told l (if tellee gone (s.entry i) = some l then [i] else []) := by
  cases he : (s.entry i).state with
  | free => rw [removeFrom_free gone keepHub he]; simp [tellee, he, ExchangeState.waits?]
  | posted x =>
    rw [removeFrom_posted gone keepHub he]
    split_ifs <;> simp_all [tellee, ExchangeState.waits?, conclude_lane]
  | awaited x =>
    rw [removeFrom_awaited gone keepHub he]
    split_ifs <;> simp_all [tellee, ExchangeState.waits?, conclude_lane]
  | closing x c late =>
    rw [removeFrom_closing gone keepHub he]
    split_ifs <;> simp_all [tellee, ExchangeState.waits?]
  | lapsed x =>
    rw [removeFrom_lapsed gone keepHub he]
    split_ifs <;> simp_all [tellee, ExchangeState.waits?]

theorem removeFrom_closes (gone : Lane → Bool) (keepHub : Bool) :
    Closes (State.removeFrom gone keepHub) (fun s => s.entryRemoved gone keepHub) (tellee gone) where
  entry := removeFrom_entry gone keepHub
  lane := removeFrom_lane gone keepHub
  hub s i := by simp
  congr s t h := entryRemoved_congr (fun l _ => h l) keepHub

/-! ### The loss of lanes over the whole table -/

theorem removeExchanges_entry (s : State) (gone : Lane → Bool) (keepHub : Bool) (j : Fin 48) :
    (s.removeExchanges gone keepHub).entry j = s.entryRemoved gone keepHub (s.entry j) := by
  rw [State.removeExchanges, ((removeFrom_closes gone keepHub).fold (List.nodup_finRange 48) s).1, if_pos (List.mem_finRange j)]

/-- The entries whose conclusions are for a lane where the lanes that `gone` picks are lost, in ascending order. -/
def State.tellsOf (s : State) (gone : Lane → Bool) (l : Lane) : List (Fin 48) :=
  (List.finRange 48).filter fun i => decide (tellee gone (s.entry i) = some l)

theorem removeExchanges_lane (s : State) (gone : Lane → Bool) (keepHub : Bool) (l : Lane) :
    (s.removeExchanges gone keepHub).lane l = s.told l (s.tellsOf gone l) :=
  ((removeFrom_closes gone keepHub).fold (List.nodup_finRange 48) s).2 l

theorem tellee_eq_some (gone : Lane → Bool) (e : ExchangeEntry) (l : Lane) : tellee gone e = some l ↔
    gone l = false ∧ (e.state.waits?).any (fun x => decide (x.requester = l) && x.answeredBy gone) = true := by
  unfold tellee
  cases e.state.waits? with
  | none => simp
  | some x =>
    simp only [Option.map_eq_some_iff, Option.filter_eq_some_iff, Option.any_some, Bool.and_eq_true, Bool.not_eq_true',
      decide_eq_true_eq, Option.some.injEq]
    constructor
    · rintro ⟨y, ⟨rfl, hg, ha⟩, rfl⟩; exact ⟨hg, rfl, ha⟩
    · rintro ⟨hg, rfl, ha⟩; exact ⟨x, ⟨rfl, hg, ha⟩, rfl⟩

/-- A lane that is lost is told of nothing. -/
theorem told_of_gone {gone : Lane → Bool} {l : Lane} (hg : gone l = true) : s.told l (s.tellsOf gone l) = s.lane l := by
  have : s.tellsOf gone l = [] := List.filter_eq_nil_iff.2 fun i _ => by
    rw [decide_eq_true_eq, tellee_eq_some, hg]; simp
  rw [this, told_nil]

/-- A lane that stays is told of the conclusions that `State.concludedFor` and `State.discardedFor` list and count. -/
theorem told_of_staying {gone : Lane → Bool} {l : Lane} (hg : gone l = false) : s.told l (s.tellsOf gone l) = { s.lane l with
    fifo := (s.lane l).fifo ++ (s.concludedFor gone l).map .conclusion
    dropped := counterAfter (s.lane l).dropped (s.discardedFor gone l) } := by
  have tells : s.tellsOf gone l = (List.finRange 48).filter fun i =>
      ((s.entry i).state.waits?).any fun x => decide (x.requester = l) && x.answeredBy gone :=
    List.filter_congr fun i _ => by
      rw [Bool.eq_iff_iff, decide_eq_true_eq, tellee_eq_some, hg]
      simp only [true_and]
  have refs : s.concludedFor gone l = if s.concludes l then s.tellsOf gone l else [] := by
    rw [tells, State.concludedFor]
    cases s.concludes l <;> simp
  have count : s.discardedFor gone l = if (s.lane l).fenced then (s.tellsOf gone l).length else 0 := by
    rw [tells, State.discardedFor, ← List.countP_eq_length_filter]
  rw [State.told, refs, count]
  congr 2
  split <;> rfl

/-! ### The entry into LOCKDOWN -/

section
variable {i : Fin 48} {x : Exchange}

theorem lockEntry_free (he : (s.entry i).state = .free) : s.lockEntry i = s := by
  simp [State.lockEntry, he, ExchangeState.exchange?]

theorem lockEntry_posted (he : (s.entry i).state = .posted x) : s.lockEntry i =
    if x.requester.isApp then s.freeEntry i else if x.answeredBy Lane.isApp then s.conclude i x .lockdown else s := by
  simp [State.lockEntry, he, ExchangeState.exchange?, ExchangeState.awaitsHub, responderLane_any]

theorem lockEntry_awaited (he : (s.entry i).state = .awaited x) : s.lockEntry i =
    if x.requester.isApp then if x.responder = .hub then s else s.freeEntry i
    else if x.answeredBy Lane.isApp then s.conclude i x .lockdown else s := by
  simp [State.lockEntry, he, ExchangeState.exchange?, ExchangeState.awaitsHub, responderLane_any]

theorem lockEntry_closing {c : Conclusion} {late : Bool} (he : (s.entry i).state = .closing x c late) :
    s.lockEntry i = if x.requester.isApp then s.freeEntry i else s := by
  simp [State.lockEntry, he, ExchangeState.exchange?, ExchangeState.awaitsHub]

theorem lockEntry_lapsed (he : (s.entry i).state = .lapsed x) :
    s.lockEntry i = if x.requester.isApp then s.freeEntry i else s := by
  simp [State.lockEntry, he, ExchangeState.exchange?, ExchangeState.awaitsHub]

end

theorem lockEntry_entry (s : State) (i j : Fin 48) :
    (s.lockEntry i).entry j = if j = i then s.entryLocked (s.entry i) else s.entry j := by
  have self := entry_eq_ite s i j
  unfold State.entryLocked
  cases he : (s.entry i).state with
  | free => rw [lockEntry_free he]; exact self
  | posted x =>
    rw [lockEntry_posted he]
    split_ifs <;> simp_all [conclude_entry, freeEntry_entry]
  | awaited x =>
    rw [lockEntry_awaited he]
    split_ifs <;> simp_all [conclude_entry, freeEntry_entry]
  | closing x c late =>
    rw [lockEntry_closing he]
    split_ifs <;> simp_all [freeEntry_entry]
  | lapsed x =>
    rw [lockEntry_lapsed he]
    split_ifs <;> simp_all [freeEntry_entry]

theorem lockEntry_lane (s : State) (i : Fin 48) (l : Lane) :
    (s.lockEntry i).lane l = s.told l (if tellee Lane.isApp (s.entry i) = some l then [i] else []) := by
  cases he : (s.entry i).state with
  | free => rw [lockEntry_free he]; simp [tellee, he, ExchangeState.waits?]
  | posted x =>
    rw [lockEntry_posted he]
    split_ifs <;> simp_all [tellee, ExchangeState.waits?, conclude_lane]
  | awaited x =>
    rw [lockEntry_awaited he]
    split_ifs <;> simp_all [tellee, ExchangeState.waits?, conclude_lane]
  | closing x c late =>
    rw [lockEntry_closing he]
    split_ifs <;> simp_all [tellee, ExchangeState.waits?]
  | lapsed x =>
    rw [lockEntry_lapsed he]
    split_ifs <;> simp_all [tellee, ExchangeState.waits?]

theorem entryLocked_congr (h : ∀ l : Lane, l.isApp = false → t.concludes l = s.concludes l) : t.entryLocked = s.entryLocked := by
  funext e
  have staying : ∀ x : Exchange, ¬x.requester.isApp = true → t.entryConcluded e x .lockdown = s.entryConcluded e x .lockdown :=
    fun x hx => entryConcluded_congr (h _ (by simpa using hx)) e _
  unfold State.entryLocked
  cases e.state with
  | free | closing | lapsed => rfl
  | posted x | awaited x =>
    by_cases hx : x.requester.isApp = true
    · simp only [hx, if_true]
    · simp only [staying x hx]

theorem lockEntry_closes : Closes State.lockEntry State.entryLocked (tellee Lane.isApp) where
  entry := lockEntry_entry
  lane := lockEntry_lane
  hub s i := by simp
  congr s t h := entryLocked_congr fun l _ => h l

theorem lockExchanges_entry (s : State) (j : Fin 48) : s.lockExchanges.entry j = s.entryLocked (s.entry j) := by
  rw [State.lockExchanges, (lockEntry_closes.fold (List.nodup_finRange 48) s).1, if_pos (List.mem_finRange j)]

theorem lockExchanges_lane (s : State) (l : Lane) : s.lockExchanges.lane l = s.told l (s.tellsOf Lane.isApp l) :=
  (lockEntry_closes.fold (List.nodup_finRange 48) s).2 l

end
end Sys2Proof.Machine

/-! PROOFS. The cancelling of contacts and keys for lanes that no event reaches, and the fence of a lane (O37). -/

namespace Sys2Proof.Machine

section
variable {s : State} {p : Lane → Bool}

/-! ## Lanes that no event reaches -/

/-- No event is placed for the lanes that `p` picks: they are fenced, or application lanes in LOCKDOWN (R73). -/
def State.Deaf (s : State) (p : Lane → Bool) : Prop := ∀ l, p l = true → (s.lane l).fenced = true ∨ s.shutOut l = true

/-- A lane's record once `n` of its events have been discarded, which are counted where it is fenced (R73). -/
def State.discarding (s : State) (l : Lane) (n : Nat) : LaneState :=
  { s.lane l with dropped := counterAfter (s.lane l).dropped (if (s.lane l).fenced then n else 0) }

@[simp] theorem discarding_zero (s : State) (l : Lane) : s.discarding l 0 = s.lane l := by simp [State.discarding]

theorem discarding_add {t : State} {l : Lane} {n : Nat} (h : t.lane l = s.discarding l n) (m : Nat) :
    t.discarding l m = s.discarding l (n + m) := by
  simp only [State.discarding, h, counterAfter_counterAfter]
  congr 2
  split <;> rfl

theorem discarding_one_of_fenced {l : Lane} (h : (s.lane l).fenced = true) :
    s.discarding l 1 = { s.lane l with dropped := bumpBy (s.lane l).dropped 1 } := by
  rw [State.discarding, if_pos h]; rfl

theorem discarding_of_open {l : Lane} (h : (s.lane l).fenced = false) (n : Nat) : s.discarding l n = s.lane l := by
  rw [State.discarding, if_neg (by simp [h]), counterAfter_zero]

theorem setLane_self (s : State) (l : Lane) : s.setLane l (s.lane l) = s :=
  eq_of_lanes (fun k => by rw [State.lane_setLane]; split_ifs with e <;> simp_all) rfl

/-- An event for a lane that none reaches. -/
theorem placeEvent_of_deaf {l : Lane} (h : (s.lane l).fenced = true ∨ s.shutOut l = true) (e : InputEvent) :
    s.placeEvent l e = s.setLane l (s.discarding l 1) := by
  unfold State.placeEvent
  by_cases hf : (s.lane l).fenced = true
  · rw [if_pos hf, discarding_one_of_fenced hf]; rfl
  · rw [if_neg hf, if_pos (h.resolve_left hf), discarding_of_open (by simpa using hf)]
    exact (setLane_self s l).symm

/-! ## Cancelling in turn -/

/-- What the cancelling of one contact or key does where no event reaches the lanes that `p` picks: the record, which has an owner,
drops it, and the event for its owner is discarded. -/
structure Cancels {ι ρ : Type} [DecidableEq ι] (p : Lane → Bool) (f : State → ι → State) (record : State → ι → ρ)
    (owner : ρ → Option Lane) (drop : ρ → ρ) : Prop where
  records : ∀ s i j, record (f s i) j = if j = i then drop (record s i) else record s j
  lane : ∀ s i l, s.Deaf p → (f s i).lane l = s.discarding l (if p l && decide (owner (record s i) = some l) then 1 else 0)
  dom : ∀ s i d, s.Deaf p → (f s i).dom d = s.dom d
  deaf : ∀ s i, s.Deaf p → (f s i).Deaf p

/-- Over distinct contacts or keys each is cancelled as it stood, and each lane's events are counted together. -/
theorem Cancels.fold {ι ρ : Type} [DecidableEq ι] {f : State → ι → State} {record : State → ι → ρ} {owner : ρ → Option Lane}
    {drop : ρ → ρ} (h : Cancels p f record owner drop) {xs : List ι} (hx : xs.Nodup) (s : State) :
    (∀ j, record (xs.foldl f s) j = if j ∈ xs then drop (record s j) else record s j)
      ∧ (s.Deaf p → (∀ l, (xs.foldl f s).lane l =
          s.discarding l (if p l then xs.countP fun i => decide (owner (record s i) = some l) else 0))
        ∧ (∀ d, (xs.foldl f s).dom d = s.dom d) ∧ (xs.foldl f s).Deaf p) := by
  induction xs generalizing s with
  | nil => simp +contextual
  | cons i xs ih =>
    obtain ⟨hi, hx⟩ := List.nodup_cons.1 hx
    obtain ⟨records, rest⟩ := ih hx (f s i)
    have others : ∀ j ∈ xs, record (f s i) j = record s j := fun j hj => by
      have e : j ≠ i := fun e => hi (e ▸ hj)
      rw [h.records, if_neg e]
    refine ⟨fun j => ?_, fun hd => ?_⟩
    · rw [List.foldl_cons, records]
      by_cases hj : j ∈ xs
      · rw [if_pos hj, others j hj, if_pos (List.mem_cons_of_mem _ hj)]
      · rw [if_neg hj, h.records]
        by_cases e : j = i <;> simp [e, hj]
    · obtain ⟨lanes, doms, deaf⟩ := rest (h.deaf s i hd)
      refine ⟨fun l => ?_, fun d => (doms d).trans (h.dom s i d hd), deaf⟩
      have later : xs.countP (fun j => decide (owner (record (f s i) j) = some l))
          = xs.countP fun j => decide (owner (record s j) = some l) :=
        List.countP_congr fun j hj => by rw [others j hj]
      rw [List.foldl_cons, lanes, later, discarding_add (h.lane s i l hd), List.countP_cons]
      cases p l <;> simp [Nat.add_comm]

theorem deaf_of_frame {t : State} (h : s.Deaf p) (hf : ∀ l, (t.lane l).fenced = (s.lane l).fenced) (hm : t.hub.mode = s.hub.mode) :
    t.Deaf p := fun l hl => by
  have := h l hl
  rwa [State.shutOut, hf, hm]

theorem dropOwner_some (p : Lane → Bool) (l : Lane) : dropOwner p (some l) = if p l then none else some l := by
  cases h : p l <;> simp [dropOwner, h]

theorem dropOwner_none (p : Lane → Bool) : dropOwner p none = none := rfl

/-- A contact that `p`'s lanes lose. -/
def Contact.dropped (p : Lane → Bool) (c : Option Contact) : Option Contact :=
  c.map fun c => { c with owner := dropOwner p c.owner }

/-- A key that `p`'s lanes lose. -/
def Key.dropped (p : Lane → Bool) (k : Key) : Key := { k with owner := dropOwner p k.owner }

theorem Key.dropped_self {k : Key} (h : dropOwner p k.owner = k.owner) : k.dropped p = k := by rw [Key.dropped, h]

theorem cancelContact_cancels (p : Lane → Bool) :
    Cancels p (State.cancelContact p) State.contact (fun c => c.bind Contact.owner) (Contact.dropped p) where
  records s i j := by
    unfold State.cancelContact
    split
    next l place hc => cases hp : p l <;> by_cases e : j = i <;> simp_all [Contact.dropped, dropOwner_some]
    all_goals by_cases e : j = i <;> simp_all [Contact.dropped, dropOwner_none]
  lane s i l hd := by
    unfold State.cancelContact
    split
    next k place hc =>
      by_cases hp : p k = true
      · rw [if_pos hp, State.setContact_lane, placeEvent_of_deaf (hd k hp), State.lane_setLane]
        by_cases e : l = k
        · simp [e, hp, hc]
        · simp [e, hc, Ne.symm e]
      · have : ¬(p l = true ∧ k = l) := fun h => hp (h.2 ▸ h.1)
        simp [hp, hc, this]
    all_goals simp_all
  dom s i d hd := by
    unfold State.cancelContact
    split
    next k place hc =>
      by_cases hp : p k = true
      · rw [if_pos hp, State.setContact_dom, placeEvent_of_deaf (hd k hp), State.setLane_dom]
      · rw [if_neg hp]
    all_goals rfl
  deaf s i hd := deaf_of_frame hd (by simp) (by simp)

theorem cancelKey_cancels (p : Lane → Bool) : Cancels p (State.cancelKey p) State.key Key.owner (Key.dropped p) where
  records s i j := by
    unfold State.cancelKey
    split
    next l hc =>
      have drop := dropOwner_some p l
      rw [← hc] at drop
      by_cases hp : p l = true
      · rw [if_pos hp] at drop ⊢
        by_cases e : j = i <;> simp_all [Key.dropped]
      · rw [if_neg hp] at drop ⊢
        by_cases e : j = i <;> simp_all [Key.dropped_self]
    next hc => by_cases e : j = i <;> simp_all [Key.dropped_self, dropOwner_none]
  lane s i l hd := by
    unfold State.cancelKey
    split
    next k hc =>
      by_cases hp : p k = true
      · rw [if_pos hp, State.setKey_lane, placeEvent_of_deaf (hd k hp), State.lane_setLane]
        by_cases e : l = k
        · simp [e, hp, hc]
        · simp [e, hc, Ne.symm e]
      · have : ¬(p l = true ∧ k = l) := fun h => hp (h.2 ▸ h.1)
        simp [hp, hc, this]
    next hc => simp_all
  dom s i d hd := by
    unfold State.cancelKey
    split
    next k hc =>
      by_cases hp : p k = true
      · rw [if_pos hp, State.setKey_dom, placeEvent_of_deaf (hd k hp), State.setLane_dom]
      · rw [if_neg hp]
    next => rfl
  deaf s i hd := deaf_of_frame hd (by simp) (by simp)

/-! ## What the cancelling leaves -/

theorem cancelInputs_contact (s : State) (p : Lane → Bool) (i : Fin 2) :
    (s.cancelInputs p).contact i = Contact.dropped p (s.contact i) := by
  have h := ((cancelContact_cancels p).fold (List.nodup_finRange 2) s).1 i
  rw [if_pos (List.mem_finRange i)] at h
  simp [State.cancelInputs, h]

theorem cancelInputs_key (s : State) (p : Lane → Bool) (k : Fin 16) : (s.cancelInputs p).key k = Key.dropped p (s.key k) := by
  rw [State.cancelInputs, ((cancelKey_cancels p).fold (List.nodup_finRange 16) _).1 k, if_pos (List.mem_finRange k)]
  simp

/-- The contacts and keys of lanes that no event reaches. -/
theorem cancelInputs_of_deaf (h : s.Deaf p) :
    (∀ l, (s.cancelInputs p).lane l = s.discarding l (if p l then s.inputsOf l else 0))
      ∧ ∀ d, (s.cancelInputs p).dom d = s.dom d := by
  obtain ⟨lanes, doms, deaf⟩ := ((cancelContact_cancels p).fold (List.nodup_finRange 2) s).2 h
  obtain ⟨lanes', doms', -⟩ := ((cancelKey_cancels p).fold (List.nodup_finRange 16) _).2 deaf
  refine ⟨fun l => ?_, fun d => (doms' d).trans (doms d)⟩
  rw [State.cancelInputs, lanes', discarding_add (lanes l)]
  cases p l with
  | false => rfl
  | true =>
    simp only [if_true, State.cancelContact_fold, State.inputsOf]
    congr 2
    exact List.countP_congr fun i _ => by cases s.contact i <;> simp

/-! ## The fence of a lane -/

theorem concludedFor_congr {t : State} {gone : Lane → Bool} {l : Lane} (hc : t.concludes l = s.concludes l)
    (he : ∀ i, t.entry i = s.entry i) : t.concludedFor gone l = s.concludedFor gone l := by
  simp only [State.concludedFor, hc, he]

theorem discardedFor_congr {t : State} {gone : Lane → Bool} {l : Lane} (hf : (t.lane l).fenced = (s.lane l).fenced)
    (he : ∀ i, t.entry i = s.entry i) : t.discardedFor gone l = s.discardedFor gone l := by
  simp only [State.discardedFor, hf, he]

theorem inputsOf_congr {t : State} (hc : ∀ i, t.contact i = s.contact i) (hk : ∀ k, t.key k = s.key k) (l : Lane) :
    t.inputsOf l = s.inputsOf l := by
  simp only [State.inputsOf, hc, hk]

/-- The mark of a fenced lane, what its FIFO loses counted, and what leaves the FIFOs with it (R73, R89): the fence before its
exchanges and inputs end. -/
def State.fencing (s : State) (l : Lane) : State :=
  ((s.updLane l fun r => { r with fenced := true }).countDropped l ((s.lane l).fifo.countP fun e => !e.isReply)).filterFifos
    (fun l' e => if l' = l then e.isReply else !e.isRequest fun m => decide (m.sender = l))
    fun h => decide (h.message.sender ≠ l)

theorem fenceLane_eq (s : State) (l : Lane) : s.fenceLane l = (((((s.fencing l).removeExchanges (fun k => decide (k = l)) true).cancelInputs
    fun k => decide (k = l)).raise l.domain .fence).raise .pay .fence) := rfl

section
variable {l : Lane} {released : Bool}

theorem fencing_eq (h : released = true ↔ (∃ k, ∃ e ∈ (s.lane k).fifo, e.holdsBuffer = true
      ∧ if k = l then e.isReply = false else e.isRequest (fun m => decide (m.sender = l)) = true)
    ∨ ∃ h ∈ s.hub.fifo, h.message.sender = l) (k : Lane) :
    (s.fencing l).lane k = if k = l then { s.lane l with
        fenced := true
        fifo := (s.lane l).fifo.filter Entry.isReply
        bufferWait := (s.lane l).bufferWait && !released
        dropped := bumpBy (s.lane l).dropped ((s.lane l).fifo.countP fun e => !e.isReply) }
      else { s.lane k with
        fifo := (s.lane k).fifo.filter fun e => !e.isRequest fun m => decide (m.sender = l)
        bufferWait := (s.lane k).bufferWait && !released } := by
  rw [State.fencing, filterFifos_eq (released := released), State.lane_mk]
  · by_cases e : k = l
    · subst e; simp [State.countDropped]
    · simp [State.countDropped, e]
  · rw [h]
    refine or_congr (exists_congr fun k => ?_) (by simp [State.countDropped])
    by_cases e : k = l
    · subst e; simp [State.countDropped, and_comm]
    · simp [State.countDropped, e, and_comm]

theorem fencing_hub (s : State) (l : Lane) :
    (s.fencing l).hub = { s.hub with fifo := s.hub.fifo.filter fun h => decide (h.message.sender ≠ l) } := by
  simp [State.fencing, filterFifos_hub, State.countDropped]

theorem fencing_entry (s : State) (l : Lane) (i : Fin 48) : (s.fencing l).entry i = s.entry i := by
  simp [State.fencing, State.countDropped]

/-- Only the fenced lane is cut off by its fence. -/
theorem fencing_fenced (s : State) (l k : Lane) : ((s.fencing l).lane k).fenced = if k = l then true else (s.lane k).fenced := by
  by_cases e : k = l
  · subst e; simp [State.fencing, State.countDropped]
  · simp [State.fencing, State.countDropped, e]

theorem fencing_concludes {k : Lane} (h : k ≠ l) : (s.fencing l).concludes k = s.concludes k :=
  concludes_congr (by rw [fencing_fenced, if_neg h]) (by rw [fencing_hub])

theorem fenceLane_entry (s : State) (l : Lane) (i : Fin 48) :
    (s.fenceLane l).entry i = s.entryRemoved (fun k => decide (k = l)) true (s.entry i) := by
  have staying := entryRemoved_congr (s := s) (t := s.fencing l) (gone := fun k => decide (k = l))
    (fun k hk => fencing_concludes (by simpa using hk)) true
  simp [fenceLane_eq, removeExchanges_entry, fencing_entry, staying]

theorem raise_dom (s : State) (d k : Domain) (f : Flag) :
    (s.raise d f).dom k = { s.dom k with flags := if k = d then (s.dom k).flags ||| f.mask else (s.dom k).flags } := by
  by_cases e : k = d
  · subst e; simp [State.raise]
  · simp [State.raise, e]

/-- A lane's fence is raised in its domain and in PAY (R89). -/
theorem raise_fence_dom (s : State) (d k : Domain) : ((s.raise d .fence).raise .pay .fence).dom k = { s.dom k with
    flags := if k = d ∨ k = .pay then (s.dom k).flags ||| Flag.fence.mask else (s.dom k).flags } := by
  simp only [raise_dom]
  split_ifs with e' e e <;> simp_all [BitVec.or_assoc]

theorem fencing_deaf (s : State) (l : Lane) :
    ((s.fencing l).removeExchanges (fun k => decide (k = l)) true).Deaf fun k => decide (k = l) := fun k hk => by
  simp [fencing_fenced, of_decide_eq_true hk]

/-- What of the fence of a lane reaches the lanes: the fence's own mark, conclusions, and the inputs that end. -/
theorem fenceLane_lane (s : State) (l k : Lane) : (s.fenceLane l).lane k =
    if k = l then (s.fencing l).discarding l (s.inputsOf l)
    else (s.fencing l).told k ((s.fencing l).tellsOf (fun k => decide (k = l)) k) := by
  have inputs : ((s.fencing l).removeExchanges (fun k => decide (k = l)) true).inputsOf l = s.inputsOf l :=
    inputsOf_congr (by simp [State.fencing, State.countDropped]) (by simp [State.fencing, State.countDropped]) l
  simp only [fenceLane_eq, State.raise_frame]
  rw [(cancelInputs_of_deaf (fencing_deaf s l)).1]
  split_ifs with e e' e'
  · subst e'
    rw [inputs, State.discarding, removeExchanges_lane, told_of_gone (by simp)]; rfl
  · exact absurd (of_decide_eq_true e) e'
  · exact absurd (decide_eq_true e') e
  · rw [discarding_zero, removeExchanges_lane]

end

/-- Settles O37: the fence's own mark and what leaves the FIFOs, then the exchanges of the lane, then its inputs, whose events its
own fence discards. -/
theorem laneFence : Obligations.LaneFence := by
  unfold Obligations.LaneFence
  rintro s r l released hl rfl hr
  refine ⟨?_, fun k hk => ?_, fenceLane_entry s l, ?_, fun i => ?_, fun k => ?_, fun d => ?_, ?_, ?_⟩
  · have total : ∀ d n m : Nat, counterAfter (bumpBy d n) m = min (d + n + m) 65535 := fun d n m => by
      unfold counterAfter bumpBy; split_ifs <;> omega
    rw [fenceLane_lane, if_pos rfl, State.discarding, fencing_eq hr, if_pos rfl, if_pos rfl, total]
  · rw [fenceLane_lane, if_neg hk, told_of_staying (by simpa using hk), fencing_eq hr, if_neg hk,
      concludedFor_congr (fencing_concludes hk) (fencing_entry s l),
      discardedFor_congr (by rw [fencing_fenced, if_neg hk]) (fencing_entry s l)]
  · simp [fenceLane_eq, fencing_hub]
  · simp only [fenceLane_eq, State.raise_frame, cancelInputs_contact, State.removeExchanges_frame]
    simp [State.fencing, State.countDropped, Contact.dropped, dropOwner]
  · simp only [fenceLane_eq, State.raise_frame, cancelInputs_key, State.removeExchanges_frame]
    simp [State.fencing, State.countDropped, Key.dropped, dropOwner]
  · simp only [fenceLane_eq, raise_fence_dom, (cancelInputs_of_deaf (fencing_deaf s l)).2, State.removeExchanges_frame]
    simp [State.fencing, State.countDropped]
  · simp [fenceLane_eq, State.fencing, State.countDropped]
  · simp [fenceLane_eq, State.fencing, State.countDropped]

end

end Sys2Proof.Machine

/-! PROOFS. The entry into LOCKDOWN (O38). -/

namespace Sys2Proof.Machine

section
variable {s : State}

/-! ## The stages of the entry -/

/-- The mode, and what leaves the FIFOs (R74): the entry before its exchanges end. -/
def State.locking (s : State) : State := State.lockFifos { s with hub := { s.hub with mode := .lockdown } }

/-- The entry up to the commands that wait: the exchanges closed and nothing staged (R92, R125). -/
def State.unstaged (s : State) : State :=
  { s.locking.lockExchanges with panel := { s.locking.lockExchanges.panel with staged := none } }

/-- The entry once the SET PANES that wait have completed (R97). -/
def State.cancelled (s : State) : State := s.unstaged.completeJobs .setPanes .cancelled 0

theorem enterLockdown_eq (s : State) : s.enterLockdown =
    (((s.cancelled.setActive lockdownTable).cancelInputs Lane.isApp).restLines fun d => decide (d = .app)).raiseAll .mode := by
  rw [State.enterLockdown, State.lockPanel, State.cancelled, State.unstaged, State.locking]

/-- The lockdown table has no capture pane, so that it ends a capture and begins none (R125). -/
theorem setActive_lockdownTable (s : State) : s.setActive lockdownTable =
    if s.capture then State.raiseAll { s with panel := { s.panel with active := lockdownTable } } .capture
    else { s with panel := { s.panel with active := lockdownTable } } := by
  have ends : ({ s with panel := { s.panel with active := lockdownTable } } : State).capture = false := rfl
  rw [State.setActive, State.captureChange, ends]
  cases s.capture <;> simp

section
variable {released : Bool}

theorem locking_lane (h : released = true ↔ (∃ k, ∃ e ∈ (s.lane k).fifo, e.holdsBuffer = true
      ∧ if k.isApp then e.isReply = false else e.fromApp = true)
    ∨ ∃ h ∈ s.hub.fifo, h.message.sender.isApp = true) (l : Lane) : s.locking.lane l = { s.lane l with
      fifo := if l.isApp then (s.lane l).fifo.filter Entry.isReply else (s.lane l).fifo.filter fun e => !e.fromApp
      bufferWait := (s.lane l).bufferWait && !released } := by
  rw [State.locking, State.lockFifos, filterFifos_eq (released := released), State.lane_mk]
  · cases e : l.isApp <;> simp [State.lane_mk, e]
  · rw [h]
    refine or_congr (exists_congr fun k => exists_congr fun e => and_congr_right fun _ => ?_) (by simp)
    cases hk : k.isApp <;> simp [and_comm]

theorem concludes_of_isApp_eq_false {l : Lane} (h : l.isApp = false) : s.concludes l = !(s.lane l).fenced := by
  simp [State.concludes, h]

theorem locking_concludes {l : Lane} (h : l.isApp = false) : s.locking.concludes l = s.concludes l := by
  simp [concludes_of_isApp_eq_false h, State.locking]

theorem locking_entry (s : State) (i : Fin 48) : s.locking.entry i = s.entry i := by simp [State.locking]

theorem unstaged_entry (s : State) (i : Fin 48) : s.unstaged.entry i = s.entryLocked (s.entry i) := by
  rw [State.unstaged, State.entry_mk, lockExchanges_entry, entryLocked_congr fun l hl => locking_concludes hl, locking_entry]

theorem unstaged_lane (s : State) (l : Lane) : s.unstaged.lane l =
    s.locking.told l (s.locking.tellsOf Lane.isApp l) := by
  rw [State.unstaged, State.lane_mk, lockExchanges_lane]

/-- The lanes as the entry leaves them where no command waits: the conclusions for the other lanes, and the inputs of application
lanes, whose events LOCKDOWN discards. -/
theorem unstaged_discarding (h : released = true ↔ (∃ k, ∃ e ∈ (s.lane k).fifo, e.holdsBuffer = true
      ∧ if k.isApp then e.isReply = false else e.fromApp = true)
    ∨ ∃ h ∈ s.hub.fifo, h.message.sender.isApp = true) (l : Lane) :
    s.unstaged.discarding l (if l.isApp then s.inputsOf l else 0) = { s.lane l with
      fifo := if l.isApp then (s.lane l).fifo.filter Entry.isReply
        else ((s.lane l).fifo.filter fun e => !e.fromApp) ++ (s.concludedFor Lane.isApp l).map .conclusion
      bufferWait := (s.lane l).bufferWait && !released
      dropped := counterAfter (s.lane l).dropped
        (if l.isApp then (if (s.lane l).fenced then s.inputsOf l else 0) else s.discardedFor Lane.isApp l) } := by
  cases e : l.isApp with
  | true =>
    have lane : s.unstaged.lane l = s.locking.lane l := by rw [unstaged_lane, told_of_gone e]
    simp only [State.discarding, lane, locking_lane h, e, if_true]
  | false =>
    simp only [Bool.false_eq_true, if_false, discarding_zero, unstaged_lane]
    rw [told_of_staying e, locking_lane h, concludedFor_congr (locking_concludes e) (locking_entry s),
      discardedFor_congr (by simp [State.locking]) (locking_entry s)]
    simp only [e, Bool.false_eq_true, if_false]

end

/-! ## The inputs, the panel and the marks -/

theorem cancelled_deaf (s : State) : (s.cancelled.setActive lockdownTable).Deaf Lane.isApp := fun l hl =>
  .inr (by simp [State.shutOut, hl, State.cancelled, State.unstaged, State.locking])

theorem setActive_lockdownTable_frame (s : State) :
    (s.setActive lockdownTable).exchanges = s.exchanges ∧ (∀ l, (s.setActive lockdownTable).lane l = s.lane l)
      ∧ (∀ i, (s.setActive lockdownTable).contact i = s.contact i) ∧ (∀ k, (s.setActive lockdownTable).key k = s.key k)
      ∧ (s.setActive lockdownTable).panel = { s.panel with active := lockdownTable } := by
  rw [setActive_lockdownTable]
  split <;> simp

/-- The events of the inputs that end are discarded, and counted where a lane is fenced (R73, R145). -/
theorem enterLockdown_lane (s : State) (l : Lane) :
    s.enterLockdown.lane l = s.cancelled.discarding l (if l.isApp then s.inputsOf l else 0) := by
  obtain ⟨-, lanes, contacts, keys, -⟩ := setActive_lockdownTable_frame s.cancelled
  have inputs : (s.cancelled.setActive lockdownTable).inputsOf l = s.inputsOf l :=
    inputsOf_congr (fun i => by rw [contacts]; simp [State.cancelled, State.unstaged, State.locking])
      (fun k => by rw [keys]; simp [State.cancelled, State.unstaged, State.locking]) l
  simp only [enterLockdown_eq, State.raiseAll_frame, State.restLines_frame]
  rw [(cancelInputs_of_deaf (cancelled_deaf s)).1, inputs, State.discarding, lanes]
  rfl

theorem enterLockdown_entry (s : State) (i : Fin 48) : s.enterLockdown.entry i = s.cancelled.entry i := by
  simp [enterLockdown_eq]

theorem enterLockdown_contact (s : State) (i : Fin 2) : s.enterLockdown.contact i = Contact.dropped Lane.isApp (s.contact i) := by
  obtain ⟨-, -, contacts, -, -⟩ := setActive_lockdownTable_frame s.cancelled
  simp only [enterLockdown_eq, State.raiseAll_frame, State.restLines_frame, cancelInputs_contact, contacts]
  simp [State.cancelled, State.unstaged, State.locking]

theorem enterLockdown_key (s : State) (k : Fin 16) : s.enterLockdown.key k = Key.dropped Lane.isApp (s.key k) := by
  obtain ⟨-, -, -, keys, -⟩ := setActive_lockdownTable_frame s.cancelled
  simp only [enterLockdown_eq, State.raiseAll_frame, State.restLines_frame, cancelInputs_key, keys]
  simp [State.cancelled, State.unstaged, State.locking]

theorem enterLockdown_panel (s : State) :
    s.enterLockdown.panel = { s.panel with active := lockdownTable, staged := none } := by
  obtain ⟨-, -, -, -, panel⟩ := setActive_lockdownTable_frame s.cancelled
  simp only [enterLockdown_eq, State.raiseAll_frame, State.restLines_frame, State.cancelInputs_frame, panel]
  simp [State.cancelled, State.unstaged, State.locking]

theorem completeJobs_hub (s : State) (job : Job) (r : HubResult) (detail : Nat) : (s.completeJobs job r detail).hub =
    { s.hub with outstanding := s.hub.outstanding.filter fun o => decide (o.job ≠ job) } := by
  simp [State.completeJobs]

theorem enterLockdown_outstanding (s : State) :
    s.enterLockdown.hub.outstanding = s.hub.outstanding.filter fun o => decide (o.job ≠ .setPanes) := by
  simp only [enterLockdown_eq, State.raiseAll_frame, State.restLines_frame, State.cancelInputs_frame, State.setActive_frame,
    State.cancelled, completeJobs_hub]
  simp [State.unstaged, State.locking]

theorem raiseAll_dom (s : State) (f : Flag) (d : Domain) :
    (s.raiseAll f).dom d = { s.dom d with flags := (s.dom d).flags ||| f.mask } := by
  cases d <;> simp [State.raiseAll, raise_dom]

theorem enterLockdown_dom (s : State) (d : Domain) : s.enterLockdown.dom d = { s.dom d with
    flags := (if s.capture then (s.dom d).flags ||| Flag.capture.mask else (s.dom d).flags) ||| Flag.mode.mask } := by
  have doms : ∀ d, s.cancelled.dom d = s.dom d := fun d => by simp [State.cancelled, State.unstaged, State.locking]
  have capture : s.cancelled.capture = s.capture := by simp [State.capture, State.cancelled, State.unstaged, State.locking]
  rw [enterLockdown_eq, raiseAll_dom]
  simp only [State.restLines_frame, (cancelInputs_of_deaf (cancelled_deaf s)).2]
  rw [setActive_lockdownTable, capture]
  split_ifs
  · simp [raiseAll_dom, doms]
  · simp [doms]

/-! ## The SET PANES that waits -/

theorem unstaged_outstanding (s : State) : s.unstaged.hub.outstanding = s.hub.outstanding := by
  simp [State.unstaged, State.locking]

/-- The entry with the SET PANES that wait taken off the list of outstanding commands. -/
def State.delisted (s : State) : State :=
  { s.unstaged with hub := { s.unstaged.hub with
    outstanding := s.unstaged.hub.outstanding.filter fun o => decide (o.job ≠ .setPanes) } }

theorem delisted_lane (s : State) (l : Lane) : s.delisted.lane l = s.unstaged.lane l := State.lane_mk ..

theorem delisted_entry (s : State) (i : Fin 48) : s.delisted.entry i = s.entryLocked (s.entry i) := by
  rw [State.delisted, State.entry_mk, unstaged_entry]

/-- The entry where no SET PANES waits. -/
theorem cancelled_of_none (h : ∀ o ∈ s.hub.outstanding, o.job ≠ .setPanes) :
    (∀ l, s.cancelled.lane l = s.unstaged.lane l) ∧ ∀ i, s.cancelled.entry i = s.entryLocked (s.entry i) := by
  have none : s.unstaged.hub.outstanding.filter (fun o => decide (o.job = .setPanes)) = [] :=
    List.filter_eq_nil_iff.2 fun o ho => by simpa using h o (unstaged_outstanding s ▸ ho)
  rw [State.cancelled, State.completeJobs, none, List.foldl_nil]
  exact ⟨delisted_lane s, delisted_entry s⟩

/-- The reply to a SET PANES that the entry cancels (R97, R100). -/
def cancelledReply : List Byte := replyBytes .cancelled Job.setPanes.code 0 []

/-- The entry where one SET PANES waits. -/
theorem cancelled_of_one {o : Outstanding} (h : (s.hub.outstanding.filter fun o => decide (o.job = .setPanes)) = [o]) :
    s.cancelled = s.delisted.complete o.tag cancelledReply := by
  rw [State.cancelled, State.completeJobs, unstaged_outstanding, h, cancelledReply, State.delisted, unstaged_outstanding,
    List.foldl_cons, List.foldl_nil]

section
variable {tag : Nat} {i : Fin 48} {x : Exchange} (payload : List Byte)

theorem complete_of_none (h : s.findTag tag = none) : s.complete tag payload = s := by
  simp [State.complete, h]

theorem complete_of_awaited (h : s.findTag tag = some i) (he : (s.entry i).state = .awaited x) :
    s.complete tag payload = (s.freeEntry i).placeReply x.requester tag x.reference payload := by
  simp [State.complete, h, he]

/-- What the completion of a command makes of its entry where the entry awaits none: it is seen late, or frees the entry
(R85). -/
def ExchangeEntry.seenLate (e : ExchangeEntry) : ExchangeEntry :=
  match e.state with
  | .closing x .expired _ => ⟨e.generation, .closing x .expired true⟩
  | .lapsed _ => e.freed
  | _ => e

theorem complete_of_not_awaited (h : s.findTag tag = some i) (he : ∀ x, (s.entry i).state ≠ .awaited x) :
    (∀ l, (s.complete tag payload).lane l = s.lane l)
      ∧ ∀ j, (s.complete tag payload).entry j = if j = i then (s.entry i).seenLate else s.entry j := by
  have self := entry_eq_ite s i
  unfold ExchangeEntry.seenLate
  cases e : (s.entry i).state with
  | awaited x => exact absurd e (he x)
  | free | posted => simp [State.complete, h, e, ← self]
  | closing x c late =>
    cases c <;> simp [State.complete, h, e, ← self, State.setExchange]
  | lapsed x => simp [State.complete, h, e, freeEntry_entry]

end

/-! ### The reply buffers -/

theorem heldReplies_congr {t : State} (h : ∀ l, (t.lane l).fifo.filterMap Entry.reply? = (s.lane l).fifo.filterMap Entry.reply?) :
    t.heldReplies = s.heldReplies := by
  simp only [State.heldReplies, State.boardEntries, List.filterMap_flatMap, h]

/-- Entries leave a FIFO, but no reply. -/
theorem filterMap_reply_filter {keep : Entry → Bool} (h : ∀ r, keep (.reply r) = true) (fifo : List Entry) :
    (fifo.filter keep).filterMap Entry.reply? = fifo.filterMap Entry.reply? := by
  rw [List.filterMap_filter]
  refine List.filterMap_congr fun e _ => ?_
  cases e with
  | reply r => simp [h]
  | message | cell | conclusion => simp [Entry.reply?]

/-- Every hub reply stays in its FIFO (R74). -/
theorem unstaged_heldReplies (s : State) : s.unstaged.heldReplies = s.heldReplies := heldReplies_congr fun l => by
  have kept : (s.locking.lane l).fifo.filterMap Entry.reply? = (s.lane l).fifo.filterMap Entry.reply? := by
    rw [State.locking, State.lockFifos, filterFifos_lane]
    cases e : l.isApp <;> simp [filterMap_reply_filter, Entry.isReply, Entry.fromApp, State.lane_mk]
  have conclusions : ∀ refs : List (Fin 48), (refs.map Entry.conclusion).filterMap Entry.reply? = [] := fun refs => by
    simp [List.filterMap_map, Function.comp_def, Entry.reply?]
  rw [unstaged_lane, State.told]
  simp only [List.filterMap_append, kept]
  split <;> simp [conclusions]

/-! ### The lanes and entries behind it -/

section
variable {o : Outstanding} (h : (s.hub.outstanding.filter fun o => decide (o.job = .setPanes)) = [o])
include h

theorem cancelled_of_unfound
    (ht : ∀ i : Fin 48, i.val = o.tag % 64 → (s.entryLocked (s.entry i)).generation.toNat ≠ o.tag / 64) :
    (∀ l, s.cancelled.lane l = s.unstaged.lane l) ∧ ∀ i, s.cancelled.entry i = s.entryLocked (s.entry i) := by
  rw [cancelled_of_one h, complete_of_none _ (findTag_none fun i hi => by rw [delisted_entry]; exact ht i hi)]
  exact ⟨delisted_lane s, delisted_entry s⟩

variable {i : Fin 48} (hi : i.val = o.tag % 64) (hg : (s.entryLocked (s.entry i)).generation.toNat = o.tag / 64)
include hi hg

theorem cancelled_of_not_awaited (he : ∀ x, (s.entryLocked (s.entry i)).state ≠ .awaited x) :
    (∀ l, s.cancelled.lane l = s.unstaged.lane l) ∧ ∀ j, s.cancelled.entry j =
      if j = i then (s.entryLocked (s.entry i)).seenLate else s.entryLocked (s.entry j) := by
  have found : s.delisted.findTag o.tag = some i := findTag_of_generation hi (by rw [delisted_entry]; exact hg)
  obtain ⟨lanes, entries⟩ := complete_of_not_awaited cancelledReply found (by rw [delisted_entry]; exact he)
  rw [cancelled_of_one h]
  exact ⟨fun l => (lanes l).trans (delisted_lane s l), fun j => by rw [entries]; simp only [delisted_entry]⟩

theorem cancelled_of_awaited {x : Exchange} (he : (s.entryLocked (s.entry i)).state = .awaited x) :
    (∀ l, s.cancelled.lane l = if l = x.requester then { s.unstaged.lane l with fifo := (s.unstaged.lane l).fifo
        ++ [.reply ⟨if s.replyFree 0 then 0 else 1, o.tag, x.reference, [7#8, 2#8, 0#8, 0#8], s.now⟩] } else s.unstaged.lane l)
      ∧ ∀ j, s.cancelled.entry j = if j = i then (s.entryLocked (s.entry i)).freed else s.entryLocked (s.entry j) := by
  have found : s.delisted.findTag o.tag = some i := findTag_of_generation hi (by rw [delisted_entry]; exact hg)
  have replyFree : (s.delisted.freeEntry i).replyFree 0 = s.replyFree 0 := by
    rw [State.replyFree, heldReplies_congr (s := s.unstaged) fun l => by simp [delisted_lane], unstaged_heldReplies]
    rfl
  rw [cancelled_of_one h, complete_of_awaited cancelledReply found (by rw [delisted_entry]; exact he), State.placeReply,
    State.grantReply, replyFree]
  have now : s.delisted.now = s.now := by simp [State.delisted, State.unstaged, State.locking]
  refine ⟨fun l => ?_, fun j => ?_⟩
  · rw [State.join, State.lane_updLane]
    simp only [State.freeEntry_frame, delisted_lane, now]
    by_cases e : l = x.requester
    · rw [if_pos e, if_pos e, e, cancelledReply]; rfl
    · rw [if_neg e, if_neg e]
  · simp [State.join, freeEntry_entry, delisted_entry]

end

end

/-- Settles O38: the FIFOs, then the exchanges, then the SET PANES that waits, then the inputs. -/
theorem lockdownEntry : Obligations.LockdownEntry := by
  unfold Obligations.LockdownEntry
  rintro s r released kept rfl hr hk
  have lanes : ∀ l, kept l = s.unstaged.discarding l (if l.isApp then s.inputsOf l else 0) := fun l => by
    rw [hk, unstaged_discarding hr]
  have settled : (∀ l, s.cancelled.lane l = s.unstaged.lane l) → ∀ l, s.enterLockdown.lane l = kept l := fun h l => by
    rw [enterLockdown_lane, lanes, State.discarding, h]; rfl
  refine ⟨⟨enterLockdown_hub_mode s, by simp, by simp, enterLockdown_outstanding s, enterLockdown_hub_fifo s⟩, enterLockdown_panel s,
    enterLockdown_line s, enterLockdown_contact s, enterLockdown_key s, enterLockdown_dom s, by simp, by simp, fun hn => ?_,
    fun o ho => ⟨fun ht => ?_, fun i e hi he hg => ?_⟩⟩
  · obtain ⟨hl, hE⟩ := cancelled_of_none hn
    exact ⟨fun i => by rw [enterLockdown_entry, hE], settled hl⟩
  · obtain ⟨hl, hE⟩ := cancelled_of_unfound ho ht
    exact ⟨fun i => by rw [enterLockdown_entry, hE], settled hl⟩
  subst he
  by_cases ha : ∀ x, (s.entryLocked (s.entry i)).state ≠ .awaited x
  · obtain ⟨hl, hE⟩ := cancelled_of_not_awaited ho hi hg ha
    refine ⟨fun j hj => by rw [enterLockdown_entry, hE, if_neg hj], fun x hx => absurd hx (ha x), fun _ => ⟨settled hl, ?_⟩⟩
    rw [enterLockdown_entry, hE, if_pos rfl]
    rfl
  · obtain ⟨x, hx⟩ := not_forall_not.1 ha
    obtain ⟨hl, hE⟩ := cancelled_of_awaited ho hi hg hx
    refine ⟨fun j hj => by rw [enterLockdown_entry, hE, if_neg hj], fun y hy => ?_, fun h => absurd hx (h x)⟩
    obtain rfl : x = y := by rw [hx] at hy; injection hy
    refine ⟨by rw [enterLockdown_entry, hE, if_pos rfl], fun l => ?_⟩
    rw [enterLockdown_lane, lanes, State.discarding, hl]
    by_cases e : l = x.requester
    · simp only [if_pos e, State.discarding]
    · simp only [if_neg e, State.discarding]

end Sys2Proof.Machine

/-! PROOFS. The removal of a domain, and the entry into LOCKDOWN that the same event brings (O36). -/

namespace Sys2Proof.Machine

section
variable {s : State} {d : Domain}

/-! ## The stages of the removal -/

/-- The visit and the flags of the removed domain, and what leaves the FIFOs with it (R18, R58, R165). -/
def State.removing (s : State) (d : Domain) : State :=
  ((s.endVisit d).updDom d fun r => { r with flags := 0#32 }).filterFifos
    (fun l e => decide (l.domain ≠ d) && !e.isRequest fun m => decide (m.sender.domain = d))
    fun h => decide (h.message.sender.domain ≠ d)

section
variable {released : Bool}

theorem removing_lane (h : released = true ↔ (∃ k, ∃ e ∈ (s.lane k).fifo, e.holdsBuffer = true
      ∧ (k.domain = d ∨ e.isRequest (fun m => decide (m.sender.domain = d)) = true))
    ∨ ∃ h ∈ s.hub.fifo, h.message.sender.domain = d) (l : Lane) : (s.removing d).lane l = { s.lane l with
      fifo := if l.domain = d then [] else (s.lane l).fifo.filter fun e => !e.isRequest fun m => decide (m.sender.domain = d)
      bufferWait := (s.lane l).bufferWait && !released } := by
  rw [State.removing, filterFifos_eq (released := released), State.lane_mk]
  · by_cases e : l.domain = d <;> simp [e]
  · rw [h]
    refine or_congr (exists_congr fun k => ?_) (by simp)
    by_cases hk : k.domain = d <;> simp [hk, and_comm]

theorem removing_entry (s : State) (d : Domain) (i : Fin 48) : (s.removing d).entry i = s.entry i := by simp [State.removing]

theorem removing_concludes (s : State) (d : Domain) (l : Lane) : (s.removing d).concludes l = s.concludes l :=
  concludes_congr (by simp [State.removing]) (by simp [State.removing])

end

theorem removal_entry (s : State) (d : Domain) (i : Fin 48) :
    (s.removal d).entry i = s.entryRemoved (fun k => decide (k.domain = d)) false (s.entry i) := by
  have stages : (s.removal d).entry i = ((s.removing d).removeExchanges (fun k => decide (k.domain = d)) false).entry i := by
    by_cases h : d = .app <;> simp [State.removal, State.removing, h]
  rw [stages, removeExchanges_entry, entryRemoved_congr fun l _ => removing_concludes s d l, removing_entry]

/-- The marks of a removed lane are cleared (R90, R117). -/
theorem removal_lane (s : State) (d : Domain) (l : Lane) : (s.removal d).lane l =
    if l.domain = d then { (s.removing d).lane l with gapPending := false, fenced := false, autoFenced := false, tally := 0 }
    else (s.removing d).told l ((s.removing d).tellsOf (fun k => decide (k.domain = d)) l) := by
  have stages : (s.removal d).lane l = if l.domain = d
      then { ((s.removing d).removeExchanges (fun k => decide (k.domain = d)) false).lane l with
        gapPending := false, fenced := false, autoFenced := false, tally := 0 }
      else ((s.removing d).removeExchanges (fun k => decide (k.domain = d)) false).lane l := by
    by_cases h : d = .app <;> simp [State.removal, State.removing, h]
  rw [stages, removeExchanges_lane]
  split_ifs with e
  · rw [told_of_gone (decide_eq_true e)]
  · rfl

theorem removal_contact (s : State) (d : Domain) (i : Fin 2) :
    (s.removal d).contact i = Contact.dropped (fun k => decide (k.domain = d)) (s.contact i) := by
  by_cases h : d = .app <;> simp [State.removal, h, State.endInputs, State.contact, Contact.dropped]

theorem removal_key (s : State) (d : Domain) (k : Fin 16) :
    (s.removal d).key k = Key.dropped (fun k => decide (k.domain = d)) (s.key k) := by
  by_cases h : d = .app <;> simp [State.removal, h, State.endInputs, State.key, Key.dropped]

theorem removal_focus (s : State) (d : Domain) : (s.removal d).touch.focus = if d = .app then 0 else s.touch.focus := by
  by_cases h : d = .app <;> simp [State.removal, h]

theorem raiseDomain_dom (s : State) (d k : Domain) : (s.raiseDomain d).dom k = { s.dom k with
    flags := if d ≠ .pay ∧ k = .pay then (s.dom k).flags ||| Flag.domain.mask else (s.dom k).flags } := by
  unfold State.raiseDomain
  by_cases h : d = .pay <;> simp [h, raise_dom]

theorem removal_dom (s : State) (d k : Domain) : (s.removal d).dom k = { s.dom k with
    flags := if k = d then 0#32 else if k = .pay then (s.dom k).flags ||| Flag.domain.mask else (s.dom k).flags } := by
  have stages : (s.removal d).dom k = ((s.updDom d fun r => { r with flags := 0#32 }).raiseDomain d).dom k := by
    rw [raiseDomain_dom]
    by_cases h : d = .app <;> simp [State.removal, h, raiseDomain_dom, State.dom_updDom]
  rw [stages, raiseDomain_dom, State.dom_updDom]
  by_cases e : k = d
  · subst e; simp
  · by_cases hp : k = .pay
    · subst hp; simp [e, Ne.symm e]
    · simp [e, hp]

/-! ## An entry in the removal and in the entry into LOCKDOWN after it -/

@[simp] theorem waits_free : ExchangeState.free.waits? = none := rfl

@[simp] theorem waits_posted (x : Exchange) : (ExchangeState.posted x).waits? = some x := rfl

@[simp] theorem waits_awaited (x : Exchange) : (ExchangeState.awaited x).waits? = some x := rfl

@[simp] theorem waits_closing (x : Exchange) (c : Conclusion) (late : Bool) : (ExchangeState.closing x c late).waits? = none := rfl

@[simp] theorem waits_lapsed (x : Exchange) : (ExchangeState.lapsed x).waits? = none := rfl

theorem waits_eq_some {st : ExchangeState} {x : Exchange} : st.waits? = some x ↔ st = .posted x ∨ st = .awaited x := by
  cases st <;> simp

section
variable {gone : Lane → Bool} {e : ExchangeEntry} {x : Exchange}

/-- The conclusion of an exchange that waits for a lane that is lost, where the requester stays and is told (R90). -/
theorem entryRemoved_of_answeredBy (fence : Bool) (hw : e.state.waits? = some x) (hg : gone x.requester = false)
    (ha : x.answeredBy gone = true) (hc : s.concludes x.requester = true) :
    s.entryRemoved gone fence e = ⟨e.generation, .closing x .targetDown false⟩ := by
  rcases waits_eq_some.1 hw with h | h <;> simp [State.entryRemoved, h, hg, ha, State.entryConcluded, hc]

@[simp] theorem freed_waits (e : ExchangeEntry) : e.freed.state.waits? = none := rfl

@[simp] theorem entryConcluded_waits (s : State) (e : ExchangeEntry) (x : Exchange) (c : Conclusion) :
    (s.entryConcluded e x c).state.waits? = none := by
  unfold State.entryConcluded
  split_ifs <;> rfl

/-- What still waits after a removal: the exchanges that it does not touch (R90). -/
theorem waits_entryRemoved (gone : Lane → Bool) (e : ExchangeEntry) : (s.entryRemoved gone false e).state.waits? =
    e.state.waits?.filter fun x => !gone x.requester && !x.answeredBy gone := by
  unfold State.entryRemoved
  cases h : e.state with
  | free => simp [h]
  | posted x | awaited x =>
    by_cases hg : gone x.requester = true
    · simp [hg, Option.filter]
    · by_cases ha : x.answeredBy gone = true
      · simp [hg, ha, Option.filter]
      · simp [h, hg, ha, Option.filter]
  | closing x c late =>
    simp only [Bool.and_eq_true]
    split_ifs <;> simp [h]
  | lapsed x =>
    simp only [Bool.or_eq_true]
    split_ifs <;> simp [h]

/-- The conclusion of an exchange that waits for an application lane, where the requester stays and is told (R92). -/
theorem entryLocked_of_answeredBy (hw : e.state.waits? = some x) (hg : x.requester.isApp = false)
    (ha : x.answeredBy Lane.isApp = true) (hc : s.concludes x.requester = true) :
    s.entryLocked e = ⟨e.generation, .closing x .lockdown false⟩ := by
  rcases waits_eq_some.1 hw with h | h <;> simp [State.entryLocked, h, hg, ha, State.entryConcluded, hc]

/-- An entry that is CLOSING for another lane than an application lane's stays so (R92). -/
theorem entryLocked_of_closing {c : Conclusion} {late : Bool} (h : e.state = .closing x c late) (hg : x.requester.isApp = false) :
    s.entryLocked e = e := by
  simp [State.entryLocked, h, hg]

theorem isClosing_eq_false_of_waits (hw : e.state.waits? = some x) : e.state.isClosing = false := by
  rcases waits_eq_some.1 hw with h | h <;> simp [h, ExchangeState.isClosing]

end

theorem answeredBy_or (p q : Lane → Bool) (x : Exchange) :
    x.answeredBy (fun l => p l || q l) = (x.answeredBy p || x.answeredBy q) := by
  unfold Exchange.answeredBy
  cases x.responder <;> rfl

theorem mem_concludedFor {gone : Lane → Bool} {l : Lane} {i : Fin 48} : i ∈ s.concludedFor gone l ↔
    s.concludes l = true ∧ ∃ x, (s.entry i).state.waits? = some x ∧ x.requester = l ∧ x.answeredBy gone = true := by
  simp [State.concludedFor, Option.any_eq_true]

/-! ## The two events in one -/

/-- A removal that brings the entry into LOCKDOWN: the entry, on the removal with the output formed anew, and the references of both
in ascending order (R86, R158, R159). -/
theorem removeDomain_of_lockdown (hs : s.hub.mode ≠ .lockdown) (hu : (s.removeDomain d).hub.mode = .lockdown) :
    s.removeDomain d = State.orderConclusions s (s.removal d).formOutput.enterLockdown := by
  have mode : (s.removal d).hub.mode = s.hub.mode := by rw [removal_hub]
  by_cases hv : (s.removal d).viol = s.viol
  · rw [removeDomain_eq, State.evaluateViol, if_pos hv, mode] at hu
    exact absurd hu hs
  · rw [removeDomain_eq, State.evaluateViol, if_neg hv, State.evaluate, State.lockdownIfDue] at hu ⊢
    by_cases hl : (s.removal d).formOutput.lockdownCondition = true ∧ (s.removal d).formOutput.hub.mode ≠ .lockdown
    · rw [if_pos hl]
    · rw [if_neg hl] at hu
      simp only [State.orderConclusions_frame, State.formOutput_frame, mode] at hu
      exact absurd hu hs

section
variable {k : Lane}

/-- What the removal leaves of the FIFO of a lane that stays, with the references that join it. -/
theorem removal_fifo (hd : k.domain ≠ d) : ((s.removal d).lane k).fifo =
    ((s.lane k).fifo.filter fun e => !e.isRequest fun m => decide (m.sender.domain = d))
      ++ (s.concludedFor (fun j => decide (j.domain = d)) k).map .conclusion := by
  rw [removal_lane, if_neg hd, told_of_staying (decide_eq_false hd), concludedFor_congr (removing_concludes s d k) (removing_entry s d),
    State.removing, filterFifos_lane]
  simp [hd]

theorem removal_concludes (hd : k.domain ≠ d) : (s.removal d).concludes k = s.concludes k :=
  concludes_congr (by simp [removal_lane, hd, State.told, State.removing]) (by rw [removal_hub])

/-- What the entry leaves of the FIFO of a lane that is no application lane, with the references that join it. -/
theorem enterLockdown_fifo (hn : ∀ o ∈ s.hub.outstanding, o.job ≠ .setPanes) (hk : k.isApp = false) :
    (s.enterLockdown.lane k).fifo =
      ((s.lane k).fifo.filter fun e => !e.fromApp) ++ (s.concludedFor Lane.isApp k).map .conclusion := by
  have lane : (s.enterLockdown.lane k).fifo = (s.unstaged.lane k).fifo := by
    rw [enterLockdown_lane, State.discarding, (cancelled_of_none hn).1]
  rw [lane, unstaged_lane, told_of_staying hk, concludedFor_congr (locking_concludes hk) (locking_entry s), State.locking,
    State.lockFifos, filterFifos_lane]
  simp [hk, State.lane_mk]

/-- The state on which the entry into LOCKDOWN comes: the removal with the combiner's output formed anew. -/
theorem removal_formed (hd : k.domain ≠ d) (hn : ∀ o ∈ s.hub.outstanding, o.job ≠ .setPanes) :
    (∀ o ∈ (s.removal d).formOutput.hub.outstanding, o.job ≠ .setPanes)
      ∧ (s.removal d).formOutput.concludes k = s.concludes k
      ∧ ∀ i, (s.removal d).formOutput.entry i = s.entryRemoved (fun k => decide (k.domain = d)) false (s.entry i) := by
  refine ⟨by simpa [removal_hub] using hn, ?_, fun i => ?_⟩
  · rw [← removal_concludes (s := s) hd]; exact concludes_congr (by simp) (by simp)
  · simp [removal_entry]

variable (hk : k.isApp = false) (hd : k.domain ≠ d) (hn : ∀ o ∈ s.hub.outstanding, o.job ≠ .setPanes)
include hk hd hn

/-- An entry whose reference joins in the event goes to CLOSING in it. -/
theorem closes_of_told {i : Fin 48} (hi : i ∈ s.concludedFor (fun j => decide (j.domain = d)) k
      ∨ i ∈ (s.removal d).formOutput.concludedFor Lane.isApp k) :
    ((s.removal d).formOutput.enterLockdown.entry i).state.isClosing = true ∧ (s.entry i).state.isClosing = false := by
  obtain ⟨none, concludes, entries⟩ := removal_formed hd hn
  rw [enterLockdown_entry, (cancelled_of_none none).2, entries]
  rcases hi with hi | hi
  · obtain ⟨hc, x, hw, rfl, ha⟩ := mem_concludedFor.1 hi
    rw [entryRemoved_of_answeredBy false hw (decide_eq_false hd) ha hc, entryLocked_of_closing rfl hk]
    exact ⟨rfl, isClosing_eq_false_of_waits hw⟩
  · obtain ⟨hc, x, hw, rfl, ha⟩ := mem_concludedFor.1 hi
    rw [entries] at hw
    rw [entryLocked_of_answeredBy hw hk ha hc]
    rw [waits_entryRemoved] at hw
    exact ⟨rfl, isClosing_eq_false_of_waits (Option.filter_eq_some_iff.1 hw).1⟩

/-- The entry's references are those that the removal has left waiting for an application lane. -/
theorem mem_concludedFor_either {i : Fin 48} : (i ∈ s.concludedFor (fun j => decide (j.domain = d)) k
      ∨ i ∈ (s.removal d).formOutput.concludedFor Lane.isApp k)
    ↔ i ∈ s.concludedFor (fun j => decide (j.domain = d) || j.isApp) k := by
  obtain ⟨-, concludes, entries⟩ := removal_formed hd hn
  simp only [mem_concludedFor, concludes, entries, waits_entryRemoved, Option.filter_eq_some_iff, answeredBy_or, Bool.or_eq_true]
  constructor
  · rintro (⟨hc, x, hw, hx, ha⟩ | ⟨hc, x, ⟨hw, -⟩, hx, ha⟩)
    · exact ⟨hc, x, hw, hx, .inl ha⟩
    · exact ⟨hc, x, hw, hx, .inr ha⟩
  · rintro ⟨hc, x, hw, rfl, ha⟩
    by_cases h : x.answeredBy (fun j => decide (j.domain = d)) = true
    · exact .inl ⟨hc, x, hw, rfl, h⟩
    · exact .inr ⟨hc, x, ⟨hw, by simp [hd, h]⟩, rfl, ha.resolve_left h⟩

/-- The FIFO of a lane that stays, where the removal brings the entry: the references of both, in ascending order (R86). -/
theorem removeDomain_fifo_of_lockdown (hs : ConclusionsSound s) (hm : s.hub.mode ≠ .lockdown)
    (hu : (s.removeDomain d).hub.mode = .lockdown) : ((s.removeDomain d).lane k).fifo =
      ((s.lane k).fifo.filter fun e => !e.fromApp && !e.isRequest fun m => decide (m.sender.domain = d))
        ++ (s.concludedFor (fun j => decide (j.domain = d) || j.isApp) k).map .conclusion := by
  obtain ⟨none, -, -⟩ := removal_formed hd hn
  have joined : ((s.removal d).formOutput.enterLockdown.lane k).fifo =
      ((s.lane k).fifo.filter fun e => !e.fromApp && !e.isRequest fun m => decide (m.sender.domain = d))
        ++ (s.concludedFor (fun j => decide (j.domain = d)) k ++ (s.removal d).formOutput.concludedFor Lane.isApp k).map .conclusion := by
    have staying : ∀ refs : List (Fin 48), (refs.map Entry.conclusion).filter (fun e => !e.fromApp) = refs.map .conclusion :=
      fun refs => List.filter_eq_self.2 fun e he => by obtain ⟨i, -, rfl⟩ := List.mem_map.1 he; rfl
    rw [enterLockdown_fifo none hk]
    simp only [State.formOutput_frame, removal_fifo hd, List.filter_append, List.filter_filter, staying, List.map_append,
      List.append_assoc]
  have either : ((List.finRange 48).filter fun i => decide (i ∈ s.concludedFor (fun j => decide (j.domain = d)) k
      ++ (s.removal d).formOutput.concludedFor Lane.isApp k)) = s.concludedFor (fun j => decide (j.domain = d) || j.isApp) k := by
    simp only [List.mem_append, mem_concludedFor_either hk hd hn]
    exact List.filter_congr fun i _ => by simp [State.concludedFor]
  rw [removeDomain_of_lockdown hm hu, orderConclusions_lane, joined, orderReferences_append, either]
  · rintro e he
    cases e with
    | message | reply | cell => rfl
    | conclusion i =>
      obtain ⟨x, c, late, hc, -⟩ := (hs k i).2 (List.mem_of_mem_filter he)
      simp [Entry.refersTo, hc, ExchangeState.isClosing]
  · intro i hi
    obtain ⟨after, before⟩ := closes_of_told hk hd hn (List.mem_append.1 hi)
    rw [after, before]; rfl

end

end

/-- Settles O36: the removal stage by stage, and the FIFOs where VIOL brings the entry into LOCKDOWN with it. -/
theorem domainRemoval : Obligations.DomainRemoval := by
  unfold Obligations.DomainRemoval
  refine ⟨fun s d released hr => ⟨s.removal d, removeDomain_eq s d, fun l hl => ?_, fun l hl => ?_, removal_entry s d, removal_hub s d,
    fun i => ?_, fun k => ?_, removal_focus s d, removal_line s d, removal_dom s d, removal_scanner s d, ?_, ?_⟩, ?_⟩
  · rw [removal_lane, if_pos hl, removing_lane hr, if_pos hl]
  · rw [removal_lane, if_neg hl, told_of_staying (decide_eq_false hl), removing_lane hr, if_neg hl,
      concludedFor_congr (removing_concludes s d l) (removing_entry s d),
      discardedFor_congr (by simp [State.removing]) (removing_entry s d)]
  · simp [removal_contact, Contact.dropped, dropOwner]
  · simp [removal_key, Key.dropped, dropOwner]
  · by_cases h : d = .app <;> simp [State.removal, h]
  · by_cases h : d = .app <;> simp [State.removal, h]
  · rintro s u d k rfl hs hm hu hn hk hd
    exact removeDomain_fifo_of_lockdown hk hd hn hs hm hu

end Sys2Proof.Machine

/-! PROOFS. The takes that accept a REQUEST or an ANSWER (O15, O16). -/

namespace Sys2Proof.Machine

section
variable {s t : State} {l : Lane} {slot : Nat} {b : Fin 30} {i : Fin 48} {x : Exchange}

/-! ## The take's choice -/

theorem takeFor_of_request {a : Address} {route : Option Nat} (first : Bool) (hf : s.filledSlot l = some slot)
    (hj : s.judge l (s.slotMessage l slot) = .request a route) (hb : s.grantBuffer l = some b) :
    s.takeFor l first = (s.acceptRequest l slot (s.slotMessage l slot) a route b).afterTake l slot first := by
  unfold State.slotMessage at *
  simp only [State.takeFor, hf, hj, hb]

theorem takeFor_of_answer (first : Bool) (hf : s.filledSlot l = some slot)
    (hj : s.judge l (s.slotMessage l slot) = .answer i x) (hb : s.grantBuffer l = some b) :
    s.takeFor l first = (s.acceptAnswer l slot (s.slotMessage l slot) i x b).afterTake l slot first := by
  unfold State.slotMessage at *
  simp only [State.takeFor, hf, hj, hb]

theorem visiting_claimable (s : State) (l : Lane) (first : Bool) : (s.visiting l first).claimable = s.claimable := by
  cases first <;> rfl

theorem visiting_entry (s : State) (l : Lane) (first : Bool) (i : Fin 48) : (s.visiting l first).entry i = s.entry i := by
  cases first <;> rfl

theorem visiting_now (s : State) (l : Lane) (first : Bool) : (s.visiting l first).now = s.now := by cases first <;> rfl

/-! ## Accepted REQUESTs -/

/-- The generation that an entry bears once it is claimed: a LAPSED entry has gone FREE first (R29, R79). -/
def ExchangeEntry.claimedGeneration (e : ExchangeEntry) : BitVec 10 :=
  if e.state = .free then e.generation else e.generation + 1

theorem claim_eq (s : State) (i : Fin 48) (x : Exchange) :
    s.claim i x = s.setEntry i ⟨(s.entry i).claimedGeneration, .posted x⟩ := by
  unfold State.claim ExchangeEntry.claimedGeneration
  split <;> simp [State.setExchange, State.freeEntry, State.setEntry, State.entry]

/-- The exchange that an accepted REQUEST opens (step 3 of R44). -/
def State.requestExchange (s : State) (l : Lane) (reference : Word) (a : Address) (route : Option Nat) : Exchange :=
  ⟨l, reference, a, s.now + (s.requestTerms route).2 * Config.ms, (s.requestTerms route).1⟩

/-- A REQUEST whose entry has been claimed goes to its recipient, or is concluded where that is fenced (R44, R91). -/
def State.placeRequest (t : State) (i : Fin 48) (x : Exchange) (h : Held) : State :=
  if t.recipientFenced x.responder.recipient then (t.joinMessage x.responder.recipient h).conclude i x .targetDown
  else t.joinMessage x.responder.recipient h

theorem acceptRequest_eq {m : Slot} {a : Address} {route : Option Nat} (hi : s.claimable = some i)
    (hx : x = s.requestExchange l m.reference a route) (ht : t = (s.spend route).claim i x) :
    s.acceptRequest l slot m a route b =
      (t.placeRequest i x ⟨b, ⟨.request, l, a, t.tagOf i, m.reference, m.payload⟩, s.now⟩).admitted l slot (t.tagOf i) := by
  subst hx ht
  simp only [State.acceptRequest, hi, State.claim_frame, spend_frame]
  rfl

theorem placeRequest_hub (h : Held) (ha : x.responder = .hub) :
    t.placeRequest i x h = { t with hub := { t.hub with fifo := t.hub.fifo ++ [h] } } := by
  simp only [State.placeRequest, ha]; rfl

theorem placeRequest_of_open {r : Lane} (h : Held) (ha : x.responder.recipient = .board r) (hf : (t.lane r).fenced = false) :
    t.placeRequest i x h = t.updLane r fun q => { q with fifo := q.fifo ++ [.message h] } := by
  simp only [State.placeRequest, ha, State.recipientFenced, joinMessage_board t t r h rfl, hf]; rfl

theorem placeRequest_of_fenced {r : Lane} (h : Held) (ha : x.responder.recipient = .board r) (hf : (t.lane r).fenced = true) :
    t.placeRequest i x h = State.conclude
      (State.clearBufferWait (t.updLane r fun q => { q with dropped := min (q.dropped + 1) 65535 })) i x .targetDown := by
  simp only [State.placeRequest, ha, State.recipientFenced, joinMessage_board t t r h rfl, hf]; rfl

theorem placeRequest_scanner (t : State) (i : Fin 48) (x : Exchange) (h : Held) :
    (t.placeRequest i x h).scanner = t.scanner := by
  unfold State.placeRequest
  split <;> simp only [State.conclude_frame, joinMessage_scanner]

end

/-- Settles O15: the claimed entry (`claimable_eq_some`, `claim_eq`), the way of the REQUEST by the state of its recipient
(`placeRequest_of_open` and the like), then what every accepted take writes (`afterTake_admitted`). -/
theorem acceptedRequests : Obligations.AcceptedRequests := by
  unfold Obligations.AcceptedRequests
  intro s l first slot a route b m i hb hf hm hj hq hfree hlow hi
  obtain ⟨v, hv⟩ : ∃ v, v = s.visiting l first := ⟨_, rfl⟩
  obtain ⟨x, hx⟩ : ∃ x, x = v.requestExchange l m.reference a route := ⟨_, rfl⟩
  obtain ⟨t, ht⟩ : ∃ t, t = (v.spend route).claim i x := ⟨_, rfl⟩
  have now : v.now = s.now := hv ▸ visiting_now s l first
  have entry : v.entry i = s.entry i := hv ▸ visiting_entry s l first i
  have routes : v.routes = s.routes := hv ▸ visiting_routes s l first
  have lane : ∀ r, t.lane r = s.lane r := fun r => by rw [ht, hv]; simp [visiting_lane]
  have claimed : t = State.setEntry (v.spend route) i ⟨(s.entry i).claimedGeneration, .posted x⟩ := by
    rw [ht, claim_eq, ← entry]; simp
  have tag : t.tagOf i = (s.entry i).claimedGeneration.toNat * 64 + i.val := by
    rw [claimed]; simp [State.tagOf]
  have responder : x.responder = a := by rw [hx]; rfl
  refine ⟨t, t.placeRequest i x ⟨b, ⟨.request, l, a, t.tagOf i, m.reference, m.payload⟩, s.now⟩, x, (s.entry i).claimedGeneration,
    t.tagOf i, rfl, tag, by rw [hx]; exact ⟨rfl, rfl, rfl⟩, ?_, ?_, ?_, fun ha => ?_, fun r hr ho => ?_, fun r hr ho => ?_, ?_⟩
  · rintro rfl
    rw [hx, ← now]
    exact ⟨rfl, rfl⟩
  · rintro k e rfl he
    rw [hx, ← now]
    simp [State.requestExchange, State.requestTerms, routes, he, Config.ms]
  · rw [claimed, ← hv, ← routes]
    cases route <;> rfl
  · exact placeRequest_hub _ (responder.trans ha)
  · exact placeRequest_of_open _ (responder ▸ hr) (lane r ▸ ho)
  · exact placeRequest_of_fenced _ (responder ▸ hr) (lane r ▸ ho)
  · have accept := acceptRequest_eq (slot := slot) (b := b) (by rw [hv, visiting_claimable, claimable_eq_some hi]) hx ht
    have scanner : t.scanner = v.scanner := by rw [ht]; simp
    rw [exec_take hb, takeFor_of_request first (by rwa [visiting_filledSlot])
      (by rw [visiting_judge, visiting_slotMessage, ← hm]; exact hj)
      (by rw [visiting_grantBuffer]; exact grantBuffer_eq_some hq hfree hlow), visiting_slotMessage, ← hm, ← hv, accept, now,
      afterTake_admitted (s := s) _ _ (by rw [placeRequest_scanner, scanner, hv])]

/-! ## Accepted ANSWERs -/

/-- Settles O16: the entry goes FREE, the answer joins the requester's FIFO or is dropped (`joinMessage_board`), then what every
accepted take writes (`afterTake_admitted`). -/
theorem acceptedAnswers : Obligations.AcceptedAnswers := by
  unfold Obligations.AcceptedAnswers
  intro s l first slot b m i x hb hf hm hj hq hfree hlow
  have entry := visiting_entry s l first i
  refine ⟨(s.visiting l first).setEntry i ⟨(s.entry i).generation + 1, .free⟩, _, rfl, rfl, ?_⟩
  rw [exec_take hb, takeFor_of_answer first (by rwa [visiting_filledSlot])
    (by rw [visiting_judge, visiting_slotMessage, ← hm]; exact hj)
    (by rw [visiting_grantBuffer]; exact grantBuffer_eq_some hq hfree hlow), visiting_slotMessage, ← hm, State.acceptAnswer,
    State.freeEntry, entry, afterTake_admitted (s := s) _ _ (by rw [joinMessage_scanner]; rfl),
    joinMessage_board s _ _ _ (by simp [visiting_lane])]
  simp only [State.setEntry_now, visiting_now]

end Sys2Proof.Machine

/-! PROOFS. The codes of envelopes, the first steps of admission, and the bytes of inbound slots (O17, O21). -/

namespace Sys2Proof.Machine

/-! ## Codes -/

theorem kind_ofCode_eq_some (c : Nat) (k : Kind) : Kind.ofCode c = some k ↔ c = k.code := by
  unfold Kind.ofCode
  cases k <;> split_ifs <;> simp_all [Kind.code]

theorem address_decode_eq_some (d v : Nat) (a : Address) :
    Address.decode d v = some a ↔ d = a.domainCode ∧ v = a.service := by
  constructor
  · intro h
    unfold Address.decode at h
    split_ifs at h <;> cases h <;> exact ⟨‹_›, by simp [Address.service, *]⟩
  · rintro ⟨rfl, rfl⟩
    cases a <;> simp [Address.decode, Address.domainCode, Address.service]

/-! ## The first steps of admission -/

section
variable {s : State} {l : Lane} {m : Slot} {k : Kind} {a : Address}

theorem judge_of_badKind (h : Kind.ofCode m.kind = none) : s.judge l m = .refuse .badKind := by
  simp only [State.judge, h]

theorem judge_of_malformed (hk : Kind.ofCode m.kind = some k)
    (h : 496 < m.length ∨ Address.decode m.domain m.service = none) : s.judge l m = .refuse .malformed := by
  simp only [State.judge, hk]
  split
  · rfl
  · next hl => simp only [h.resolve_left hl]

theorem judge_of_fenced (hk : Kind.ofCode m.kind = some k) (hl : m.length ≤ 496)
    (ha : Address.decode m.domain m.service = some a) (hf : (s.lane l).fenced = true) : s.judge l m = .refuse .fenced := by
  simp only [State.judge, hk, if_neg (Nat.not_lt.2 hl), ha, hf, if_true]

theorem judge_of_modeRefusal {o : TakeOutcome} (hk : Kind.ofCode m.kind = some k) (hl : m.length ≤ 496)
    (ha : Address.decode m.domain m.service = some a) (hf : (s.lane l).fenced = false)
    (ho : s.modeRefusal l k a = some o) : s.judge l m = .refuse o := by
  simp only [State.judge, hk, if_neg (Nat.not_lt.2 hl), ha, hf, ho]
  rfl

theorem modeRefusal_of_boot (hm : s.hub.mode = .boot) (h : ¬(k = .request ∧ a = .hub)) :
    s.modeRefusal l k a = some .notReady := by
  simp only [State.modeRefusal, hm, if_neg h]

theorem modeRefusal_of_lockdown (hm : s.hub.mode = .lockdown) (h : l.isApp = true ∨ (k ≠ .answer ∧ a.isApp = true)) :
    s.modeRefusal l k a = some .lockdown := by
  simp only [State.modeRefusal, hm]
  split
  · rfl
  · next hl => exact if_pos (h.resolve_left hl)

/-- The addresses of the application domain are those of its code. -/
theorem isApp_of_domainCode (h : a.domainCode = 1) : a.isApp = true := by
  cases a <;> simp_all [Address.domainCode, Address.isApp]

end

/-- Settles O17: the codes by cases, and each step of admission under the steps before it. -/
theorem admissionGate : Obligations.AdmissionGate := by
  unfold Obligations.AdmissionGate
  refine ⟨fun c k => ?_, fun domain service a => ?_, fun a l => ?_, fun s l m => ⟨fun h => ?_, fun hk h => ?_,
    fun k a hk hl ha => ⟨fun hf => ?_, fun hf hm h => ?_, fun hf hm h => ?_⟩⟩⟩
  · rw [kind_ofCode_eq_some]; cases k <;> rfl
  · rw [address_decode_eq_some]; cases a <;> rfl
  · cases a <;> simp [Address.recipient, eq_comm]
  · exact judge_of_badKind ((kind_ofCode_eq_none _).2 h)
  · obtain ⟨k, hk⟩ := Option.ne_none_iff_exists'.1 (mt (kind_ofCode_eq_none _).1 (not_not.2 hk))
    refine judge_of_malformed hk (h.imp_right fun h => (address_decode_eq_none _ _).2 ?_)
    simp only [List.mem_cons, List.not_mem_nil, or_false] at h ⊢
    omega
  · exact judge_of_fenced hk hl ha hf
  · exact judge_of_modeRefusal hk hl ha hf (modeRefusal_of_boot hm h)
  · obtain ⟨hd, -⟩ := (address_decode_eq_some _ _ _).1 ha
    exact judge_of_modeRefusal hk hl ha hf
      (modeRefusal_of_lockdown hm (h.imp_right (And.imp_right fun h => isApp_of_domainCode (hd ▸ h))))

/-! ## The bytes of an inbound slot -/

/-- Byte `k` of a word, by division and by place. -/
theorem ofNat_div_eq_extract {w : Nat} (x : BitVec w) (k : Nat) :
    BitVec.ofNat 8 (x.toNat / 256 ^ k) = x.extractLsb' (8 * k) 8 := by
  apply BitVec.eq_of_toNat_eq
  rw [BitVec.toNat_ofNat, BitVec.extractLsb'_toNat, Nat.shiftRight_eq_div_pow, pow_mul]
  rfl

theorem bytesOf_half (x : Half) : bytesOf 2 x.toNat = [x.extractLsb' 0 8, x.extractLsb' 8 8] := by
  rw [← ofNat_div_eq_extract x 0, ← ofNat_div_eq_extract x 1]
  simp [bytesOf]

theorem bytesOf_word (x : Word) :
    bytesOf 4 x.toNat = [x.extractLsb' 0 8, x.extractLsb' 8 8, x.extractLsb' 16 8, x.extractLsb' 24 8] := by
  rw [← ofNat_div_eq_extract x 0, ← ofNat_div_eq_extract x 1, ← ofNat_div_eq_extract x 2, ← ofNat_div_eq_extract x 3]
  simp [bytesOf, Nat.div_div_eq_div_mul]

theorem Envelope.bytes_eq (v : Envelope) (n : Half) : v.bytes n =
    [0x01#8, BitVec.ofNat 8 v.kind, BitVec.ofNat 8 v.domain, BitVec.ofNat 8 v.service,
      BitVec.ofNat 8 v.payload.length, BitVec.ofNat 8 (v.payload.length / 256),
      BitVec.ofNat 8 v.outcome, BitVec.ofNat 8 v.mark, BitVec.ofNat 8 v.tag, BitVec.ofNat 8 (v.tag / 256),
      v.reference.extractLsb' 0 8, v.reference.extractLsb' 8 8, v.reference.extractLsb' 16 8,
      v.reference.extractLsb' 24 8, n.extractLsb' 0 8, n.extractLsb' 8 8]
    ++ v.payload ++ List.replicate (496 - v.payload.length) 0#8 := by
  rw [Envelope.bytes, bytesOf_half, bytesOf_word]
  rfl

/-! ## The envelopes of a FIFO's entries -/

theorem envelopeOf_conclusion {s : State} {i : Fin 48} {x : Exchange} {c : Conclusion} {late : Bool} (l : Lane)
    (h : (s.entry i).state = .closing x c late) : s.envelopeOf l (.conclusion i) = x.envelope c (s.tagOf i) := by
  simp only [State.envelopeOf, h]

/-- Settles O21: the bytes by fields (`Envelope.bytes_eq`), and the envelope of each entry by the cases of its codes. -/
theorem inboundEnvelopes : Obligations.InboundEnvelopes := by
  unfold Obligations.InboundEnvelopes
  refine ⟨Envelope.bytes_eq, fun s l => ⟨fun h => ?_, fun r => rfl, fun i x c late hc => ?_, fun id phase p j => ?_,
    fun k action j => ?_, fun tag n level mismatch j => ?_⟩⟩
  · show h.message.envelope = _
    rw [Message.envelope, Envelope.mk.injEq]
    refine ⟨?_, ?_, ?_, rfl, ?_, rfl, rfl, rfl⟩
    · cases h.message.kind <;> rfl
    · cases h.message.sender <;> rfl
    · cases h.message.address <;> rfl
    · cases h.message.sender <;> rfl
  · rw [envelopeOf_conclusion l hc, Exchange.envelope, Envelope.mk.injEq]
    refine ⟨rfl, rfl, rfl, ?_, ?_, rfl, rfl, rfl⟩
    · cases c <;> rfl
    · cases x.responder <;> rfl
  · obtain ⟨x, y, pane, row, storeLine, stored⟩ := p
    show InputEvent.envelope _ _ = _
    cases (s.lane l).gapPending <;> cases phase <;> cases stored <;> rfl
  · show InputEvent.envelope _ _ = _
    cases (s.lane l).gapPending <;> cases action <;> rfl
  · show InputEvent.envelope _ _ = _
    cases (s.lane l).gapPending <;> cases level <;> cases mismatch <;> rfl

end Sys2Proof.Machine

/-! PROOFS. The checks of the hub service over the request catalogue (O26). -/

namespace Sys2Proof.Machine

/-! ## Replies and codes -/

theorem hasCode_of_head {code : Nat} (h : code < 256) (rest : List Byte) :
    hasCode code (BitVec.ofNat 8 code :: rest) = true := by
  simp [hasCode, Nat.mod_eq_of_lt h]

theorem unknownCode_cons {b : Byte} (rest : List Byte) (h : b.toNat = 0 ∨ 0x11 < b.toNat) :
    unknownCode (b :: rest) = true := by
  simp only [unknownCode, knownCode, Bool.not_eq_true', Bool.and_eq_false_iff, decide_eq_false_iff_not]
  omega

/-- A request with no code of the catalogue (check 1 of R96). -/
theorem exec_unknownRequestCode {s : State} {m : Message} (h : HubTakes s m) (hu : unknownCode m.payload = true) :
    exec .unknownRequestCode s =
      .next (s.answered m [4#8, BitVec.ofNat 8 (byteAt m.payload 0), 0xFF#8, 0xFF#8]) := by
  obtain ⟨head, hh, rfl⟩ := hubHead_of_hubTakes h
  simp only [exec, execUnknownRequestCode, hh, hu, if_true]
  rfl

/-! ## The rows of the catalogue -/

/-- The request that the model serves for a row of the catalogue: its code, the payloads it takes, its issuers, its modes and its
length are the row's. -/
structure HubRow.Serves (row : HubRow) (q : HubRequest) : Prop where
  exec_eq : ∀ s, exec row.command s = .next (q.serve s)
  code_eq : q.code = row.code
  takes_eq : ∀ p, q.takes p = (hasCode row.code p && row.picks p)
  issuer_eq : ∀ l, q.issuer l = decide (l ∈ row.issuers)
  available_eq : ∀ mode, q.available mode = decide (mode ∈ row.modes)
  short_iff : ∀ p, p.length < q.length p ↔ p.length < row.length p

theorem payOnly_eq (l : Lane) : payOnly l = decide (l ∈ [Lane.pay]) := by simp [payOnly]

theorem firstLanes_eq (l : Lane) : firstLanes l = decide (l ∈ domainLanes) := by
  cases l <;> simp [firstLanes, domainLanes, Lane.domain, Domain.firstLane]

theorem anyMode_eq (mode : HubMode) : anyMode mode = decide (mode ∈ allModes) := by cases mode <;> rfl

theorem notLockdown_eq (mode : HubMode) : notLockdown mode = decide (mode ∈ [HubMode.boot, .openMode]) := by
  cases mode <;> rfl

/-- The requests of the catalogue's rows. -/
def hubRequests : List HubRequest :=
  [loadRoutesRequest, setPanesRequest, scrollPaneRequest, setCalibrationRequest, setFocusRequest, setLineMapRequest,
    setCombinerRequest, driveLineRequest, driveLinePulseRequest, setNoticesRequest, domainResetHoldRequest,
    domainResetReleaseRequest, domainResetPulseRequest, fenceLaneRequest, restoreLaneRequest, setViolationLimitRequest,
    readCountersRequest, statusRequest, resumeRequest, restartHubRequest]

theorem setPanes_short_iff (p : List Byte) : p.length < setPanesRequest.length p ↔ p.length < 6 + 8 * byteAt p 2 := by
  simp only [setPanesRequest, paneCount]
  split <;> omega

theorem hubCatalogue_code_lt : ∀ row ∈ hubCatalogue, row.code < 256 := by decide

/-- The model serves the catalogue row by row, in its order (TABLE A of The Hub Service and Hub Modes, TABLE N): the order of the
proof's lines is that of the rows. -/
theorem hubCatalogue_serves : List.Forall₂ HubRow.Serves hubCatalogue hubRequests :=
  have plain : ∀ code p, hasCode code p = (hasCode code p && true) := fun _ _ => (Bool.and_true _).symm
  .cons ⟨fun _ => rfl, rfl, plain _, payOnly_eq, anyMode_eq, fun _ => .rfl⟩ <|
  .cons ⟨fun _ => rfl, rfl, plain _, payOnly_eq, notLockdown_eq, setPanes_short_iff⟩ <|
  .cons ⟨fun _ => rfl, rfl, plain _, payOnly_eq, notLockdown_eq, fun _ => .rfl⟩ <|
  .cons ⟨fun _ => rfl, rfl, plain _, payOnly_eq, anyMode_eq, fun _ => .rfl⟩ <|
  .cons ⟨fun _ => rfl, rfl, plain _, fun l => by simp [setFocusRequest], anyMode_eq, fun _ => .rfl⟩ <|
  .cons ⟨fun _ => rfl, rfl, plain _, payOnly_eq, anyMode_eq, fun _ => .rfl⟩ <|
  .cons ⟨fun _ => rfl, rfl, plain _, payOnly_eq, anyMode_eq, fun _ => .rfl⟩ <|
  .cons ⟨fun _ => rfl, rfl, fun p => by simp [driveLineRequest, isPulse], firstLanes_eq, anyMode_eq, fun _ => .rfl⟩ <|
  .cons ⟨fun _ => rfl, rfl, fun _ => rfl, firstLanes_eq, anyMode_eq, fun _ => .rfl⟩ <|
  .cons ⟨fun _ => rfl, rfl, plain _, firstLanes_eq, anyMode_eq, fun _ => .rfl⟩ <|
  .cons ⟨fun _ => rfl, rfl, fun p => by simp [domainResetHoldRequest, isRelease, isResetPulse, Bool.and_assoc], payOnly_eq,
    anyMode_eq, fun _ => .rfl⟩ <|
  .cons ⟨fun _ => rfl, rfl, fun _ => rfl, payOnly_eq, anyMode_eq, fun _ => .rfl⟩ <|
  .cons ⟨fun _ => rfl, rfl, fun _ => rfl, payOnly_eq, anyMode_eq, fun _ => .rfl⟩ <|
  .cons ⟨fun _ => rfl, rfl, plain _, payOnly_eq, anyMode_eq, fun _ => .rfl⟩ <|
  .cons ⟨fun _ => rfl, rfl, plain _, payOnly_eq, anyMode_eq, fun _ => .rfl⟩ <|
  .cons ⟨fun _ => rfl, rfl, plain _, payOnly_eq, anyMode_eq, fun _ => .rfl⟩ <|
  .cons ⟨fun _ => rfl, rfl, plain _, firstLanes_eq, anyMode_eq, fun _ => .rfl⟩ <|
  .cons ⟨fun _ => rfl, rfl, plain _, fun l => (decide_eq_true (mem_allLanes l)).symm, anyMode_eq, fun _ => .rfl⟩ <|
  .cons ⟨fun _ => rfl, rfl, plain _, payOnly_eq, fun mode => by cases mode <;> rfl, fun _ => .rfl⟩ <|
  .cons ⟨fun _ => rfl, rfl, plain _, payOnly_eq, anyMode_eq, fun _ => .rfl⟩ <|
  .nil

theorem exists_serves {row : HubRow} (h : row ∈ hubCatalogue) : ∃ q, row.Serves q := by
  obtain ⟨k, hk, rfl⟩ := List.getElem_of_mem h
  exact ⟨_, List.Forall₂.get hubCatalogue_serves hk (hubCatalogue_serves.length_eq ▸ hk)⟩

section
variable {s : State} {m : Message} {row : HubRow} {q : HubRequest}

/-- Check 2 of R96 for a row of the catalogue. -/
theorem HubRow.Serves.authority (h : row.Serves q) (ht : HubTakes s m) (hq : q.takes m.payload = true)
    (hi : m.sender ∉ row.issuers) : exec row.command s =
      .next (((s.hubTake m).violate m.sender).complete m.tag [2#8, BitVec.ofNat 8 row.code, 0#8, 0#8]) := by
  rw [h.exec_eq, serve_authority ht q hq (by rw [h.issuer_eq]; exact decide_eq_false hi), h.code_eq]
  rfl

/-- Check 3 of R96 for a row of the catalogue. -/
theorem HubRow.Serves.mode (h : row.Serves q) (ht : HubTakes s m) (hq : q.takes m.payload = true)
    (hi : m.sender ∈ row.issuers) (ha : s.hub.mode ∉ row.modes) : exec row.command s =
      .next (s.answered m [3#8, BitVec.ofNat 8 row.code, 0#8, 0#8]) := by
  rw [h.exec_eq, serve_mode ht q hq (by rw [h.issuer_eq]; exact decide_eq_true hi)
    (by rw [h.available_eq]; exact decide_eq_false ha), h.code_eq]
  rfl

/-- Check 4 of R96 for a row of the catalogue. -/
theorem HubRow.Serves.short (h : row.Serves q) (ht : HubTakes s m) (hq : q.takes m.payload = true)
    (hi : m.sender ∈ row.issuers) (ha : s.hub.mode ∈ row.modes) (hl : m.payload.length < row.length m.payload) :
    exec row.command s = .next (s.answered m [4#8, BitVec.ofNat 8 row.code, 0xFF#8, 0xFF#8]) := by
  rw [h.exec_eq, serve_short ht q hq (by rw [h.issuer_eq]; exact decide_eq_true hi)
    (by rw [h.available_eq]; exact decide_eq_true ha) ((h.short_iff _).2 hl), h.code_eq]
  rfl

end

/-- Settles O26: a request with no code (`exec_unknownRequestCode`), and the checks of each row by the request that serves it
(`hubCatalogue_serves`). -/
theorem hubChecks : Obligations.HubChecks := by
  unfold Obligations.HubChecks
  refine ⟨fun s m ht => ⟨fun hp => ?_, fun b rest hp hb => ?_⟩, fun row hrow s m rest ht hp hk => ?_⟩
  · rw [exec_unknownRequestCode ht (by rw [hp]; rfl), hp]
    rfl
  · have code : BitVec.ofNat 8 (byteAt m.payload 0) = b := by simp [hp, byteAt]
    rw [exec_unknownRequestCode ht (by rw [hp]; exact unknownCode_cons rest hb), code]
  · obtain ⟨q, hq⟩ := exists_serves hrow
    have takes : q.takes m.payload = true := by
      rw [hq.takes_eq, hk, Bool.and_true, hp]
      exact hasCode_of_head (hubCatalogue_code_lt row hrow) rest
    exact ⟨hq.authority ht takes, hq.mode ht takes, hq.short ht takes⟩

end Sys2Proof.Machine

/-! PROOFS. READ COUNTERS and STATUS (O34). -/

namespace Sys2Proof.Machine

/-! ## The take of a hub request and the rest of the part -/

theorem hubAwaits_updLane (s : State) (l : Lane) (f : LaneState → LaneState) (tag : Nat) :
    (s.updLane l f).hubAwaits tag = (s.hubAwaits tag).updLane l f := by
  have find : (s.updLane l f).findTag tag = s.findTag tag := rfl
  have entry : ∀ i, (s.updLane l f).entry i = s.entry i := fun _ => rfl
  unfold State.hubAwaits
  rw [find]
  cases s.findTag tag with
  | none => rfl
  | some i =>
    dsimp only
    rw [entry]
    cases (s.entry i).state with
    | posted x => dsimp only; split <;> rfl
    | free | awaited | closing | lapsed => rfl

/-- A change of a lane's record that does not touch its buffer-wait mark is the same before and after the take. -/
theorem hubTake_updLane (s : State) (m : Message) (l : Lane) {f : LaneState → LaneState}
    (h : ∀ r, f { r with bufferWait := false } = { f r with bufferWait := false }) :
    (s.updLane l f).hubTake m = (s.hubTake m).updLane l f := by
  rw [State.hubTake, State.hubTake, ← hubAwaits_updLane, clearBufferWait_updLane l h]
  rfl

theorem hubAwaits_free_iff (s : State) (tag : Nat) (i : Fin 48) :
    ((s.hubAwaits tag).entry i).state = .free ↔ (s.entry i).state = .free := by
  unfold State.hubAwaits
  split
  · rfl
  next j _ =>
    split
    · next x hx =>
      split
      · rw [State.entry_setExchange]
        split
        · next e => subst e; simp [hx]
        · rfl
      · rfl
    all_goals rfl

theorem hubTake_freeEntries (s : State) (m : Message) : (s.hubTake m).freeEntries = s.freeEntries := by
  unfold State.freeEntries State.hubTake
  congr 1
  funext i
  rw [decide_eq_decide, hubAwaits_free_iff]
  rfl

/-! ## READ COUNTERS -/

theorem laneAtByte_of_code {p : List Byte} {k : Nat} {l : Lane} (h : Lane.ofCode (byteAt p k) = some l) :
    laneAtByte p k = l := by
  rw [laneAtByte, h]; rfl

theorem le_nine_of_code {c : Nat} {l : Lane} (h : Lane.ofCode c = some l) : c ≤ 9 := by
  unfold Lane.ofCode at h
  split_ifs at h <;> omega

/-- The first lanes reach the lanes of their domain, and PAY every lane (R102). -/
theorem reaches_iff {requester l : Lane} (h : requester ∈ domainLanes) :
    reaches requester l = true ↔ requester = .pay ∨ l.domain = requester.domain := by
  simp only [domainLanes, List.mem_cons, List.not_mem_nil, or_false] at h
  rcases h with rfl | rfl | rfl <;> cases l <;> simp [reaches, Lane.isApp, Lane.domain]

theorem countersOf_eq (r : LaneState) : countersOf r =
    [BitVec.ofNat 8 r.admitted, BitVec.ofNat 8 (r.admitted / 256), BitVec.ofNat 8 r.refused, BitVec.ofNat 8 (r.refused / 256),
      BitVec.ofNat 8 r.violations, BitVec.ofNat 8 (r.violations / 256), BitVec.ofNat 8 r.dropped,
      BitVec.ofNat 8 (r.dropped / 256), BitVec.ofNat 8 r.inputLost, BitVec.ofNat 8 (r.inputLost / 256),
      BitVec.ofNat 8 r.tally, BitVec.ofNat 8 r.limit,
      BitVec.ofNat 8 ((if r.fenced then 1 else 0) + if r.autoFenced then 2 else 0)] := by
  have marks : bit r.fenced + 2 * bit r.autoFenced = (if r.fenced then 1 else 0) + if r.autoFenced then 2 else 0 := by
    cases r.autoFenced <;> rfl
  rw [countersOf, marks]
  rfl

section
variable {s : State} {m : Message} {l : Lane} {rest : List Byte}

theorem readCounters_badField (h : Lane.ofCode (byteAt m.payload 2) = some l) :
    readCountersRequest.badField m.payload = none := by
  simp [readCountersRequest, badItem, le_nine_of_code h]

theorem readCounters_takes (h : m.payload = 0x0E#8 :: rest) : readCountersRequest.takes m.payload = true :=
  h ▸ hasCode_of_head (code := 0x0E) (by omega) rest

theorem readCounters_issuer (h : m.sender ∈ domainLanes) : readCountersRequest.issuer m.sender = true :=
  (firstLanes_eq _).trans (decide_eq_true h)

/-- READ COUNTERS of a lane within reach (R102). -/
theorem serve_readCounters (ht : HubTakes s m) (hp : m.payload = 0x0E#8 :: rest) (hl : 3 ≤ m.payload.length)
    (hs : m.sender ∈ domainLanes) (hc : Lane.ofCode (byteAt m.payload 2) = some l) (hr : reaches m.sender l = true) :
    readCountersRequest.serve s = State.answered (s.updLane l LaneState.clearCounters) m
      ([1#8, 0x0E#8, 0#8, 0#8] ++ countersOf (s.lane l)) := by
  have lane := laneAtByte_of_code hc
  have counters : countersOf ((s.hubTake m).lane l) = countersOf (s.lane l) := by simp [countersOf]
  rw [serve_run ht _ (readCounters_takes hp) (readCounters_issuer hs) rfl hl (readCounters_badField hc)
    (by simp only [readCountersRequest, lane, hr, if_true]), State.answered, hubTake_updLane _ _ _ fun _ => rfl, ← counters]
  simp only [readCountersRequest, lane]
  rfl

/-- READ COUNTERS of a lane beyond the requester's reach (R102). -/
theorem serve_readCounters_beyond (ht : HubTakes s m) (hp : m.payload = 0x0E#8 :: rest) (hl : 3 ≤ m.payload.length)
    (hs : m.sender ∈ domainLanes) (hc : Lane.ofCode (byteAt m.payload 2) = some l) (hr : reaches m.sender l = false) :
    readCountersRequest.serve s = ((s.hubTake m).violate m.sender).complete m.tag [2#8, 0x0E#8, 0#8, 0#8] := by
  rw [serve_refused ht _ (readCounters_takes hp) (readCounters_issuer hs) rfl hl (readCounters_badField hc)
    (r := .authority) (d := 0) (by simp [readCountersRequest, laneAtByte_of_code hc, hr])]
  rfl

/-- READ COUNTERS of no lane (R33, R102). -/
theorem serve_readCounters_unlisted (ht : HubTakes s m) (hp : m.payload = 0x0E#8 :: rest) (hl : 3 ≤ m.payload.length)
    (hs : m.sender ∈ domainLanes) (hc : 9 < byteAt m.payload 2) :
    readCountersRequest.serve s = s.answered m [4#8, 0x0E#8, 0#8, 0#8] := by
  rw [serve_badField ht _ (readCounters_takes hp) (readCounters_issuer hs) rfl hl (d := 0)
    (by simp [readCountersRequest, badItem, Nat.not_le.2 hc])]
  rfl

end

/-! ## STATUS -/

/-- The sum of the picked lanes' bits, over lanes in ascending order of code, has those bits set. -/
theorem testBit_foldl_codes (p : Lane → Bool) (ls : List Lane) (n b : Nat) (hn : ∀ l ∈ ls, n < 2 ^ l.code.val)
    (hs : ls.Pairwise fun k l => k.code < l.code) :
    (ls.foldl (fun n l => if p l then n + 2 ^ l.code.val else n) n).testBit b
      = (n.testBit b || ls.any fun l => p l && decide (l.code.val = b)) := by
  induction ls generalizing n with
  | nil => simp
  | cons l ls ih =>
    obtain ⟨hl, hs⟩ := List.pairwise_cons.1 hs
    have low : n < 2 ^ l.code.val := hn l (List.mem_cons_self ..)
    rw [List.foldl_cons, List.any_cons]
    cases hp : p l with
    | false => simpa using ih n (fun k hk => hn k (List.mem_cons_of_mem _ hk)) hs
    | true =>
      have next : ∀ k ∈ ls, n + 2 ^ l.code.val < 2 ^ k.code.val := fun k hk =>
        calc n + 2 ^ l.code.val < 2 ^ (l.code.val + 1) := by rw [Nat.pow_succ]; omega
          _ ≤ 2 ^ k.code.val := Nat.pow_le_pow_right (by omega) (hl k hk)
      have bits : (n + 2 ^ l.code.val).testBit b = (n.testBit b || decide (l.code.val = b)) := by
        have := Nat.two_pow_add_eq_or_of_lt low 1
        rw [mul_one] at this
        rw [Nat.add_comm, this, Nat.testBit_or, Nat.testBit_two_pow, Bool.or_comm]
      rw [if_pos rfl, ih _ next hs, bits, Bool.true_and, Bool.or_assoc]

/-- The bits of the set of fenced lanes (TABLE O). -/
theorem fencedSet_testBit (s : State) (b : Nat) :
    s.fencedSet.testBit b = allLanes.any fun l => (s.lane l).fenced && decide (l.code.val = b) := by
  rw [State.fencedSet, testBit_foldl_codes _ _ _ _ (fun l _ => Nat.two_pow_pos _) (by decide), Nat.zero_testBit, Bool.false_or]

theorem fencedSet_code (s : State) (l : Lane) : s.fencedSet.testBit l.code.val = (s.lane l).fenced := by
  rw [fencedSet_testBit, Bool.eq_iff_iff, List.any_eq_true]
  constructor
  · rintro ⟨k, -, hk⟩
    obtain ⟨fenced, code⟩ := Bool.and_eq_true_iff.1 hk
    rwa [← lane_code_inj (Fin.ext (of_decide_eq_true code))]
  · exact fun h => ⟨l, mem_allLanes l, by simp [h]⟩

theorem fencedSet_beyond (s : State) {b : Nat} (h : 10 ≤ b) : s.fencedSet.testBit b = false := by
  rw [fencedSet_testBit, List.any_eq_false]
  intro l _
  have := l.code.isLt
  simp [show l.code.val ≠ b by omega]

theorem bytesOf_two_eq_extract (n : Nat) :
    bytesOf 2 n = [(BitVec.ofNat 16 n).extractLsb' 0 8, (BitVec.ofNat 16 n).extractLsb' 8 8] := by
  rw [← bytesOf_half]
  simp only [bytesOf, List.cons.injEq, and_true]
  constructor <;> apply BitVec.eq_of_toNat_eq <;> simp only [BitVec.toNat_ofNat] <;> omega

/-- The returned data of STATUS at its take, which releases the request's buffer and leaves the rest (TABLE O). -/
theorem hubTake_statusData (s : State) (m : Message) : (s.hubTake m).statusData =
    [BitVec.ofNat 8 s.hub.mode.code, BitVec.ofNat 8 s.app.status.code, BitVec.ofNat 8 s.pay.status.code,
      BitVec.ofNat 8 s.rad.status.code, (BitVec.ofNat 16 s.fencedSet).extractLsb' 0 8,
      (BitVec.ofNat 16 s.fencedSet).extractLsb' 8 8, BitVec.ofNat 8 (bit s.combiner.output), BitVec.ofNat 8 s.panel.mode.code,
      BitVec.ofNat 8 (bit s.capture), BitVec.ofNat 8 (s.hubTake m).freeBuffers, BitVec.ofNat 8 s.freeEntries] := by
  have dom : ∀ d, (s.hubTake m).dom d = s.dom d := by simp
  have app : (s.hubTake m).app = s.app := dom .app
  have pay : (s.hubTake m).pay = s.pay := dom .pay
  have rad : (s.hubTake m).rad = s.rad := dom .rad
  have fenced : (s.hubTake m).fencedSet = s.fencedSet := by simp [State.fencedSet]
  have capture : (s.hubTake m).capture = s.capture := by simp [State.capture]
  have combiner : (s.hubTake m).combiner = s.combiner := by simp
  have panel : (s.hubTake m).panel = s.panel := by simp
  rw [State.statusData, bytesOf_two_eq_extract, hubTake_mode, app, pay, rad, fenced, capture, combiner, panel,
    hubTake_freeEntries]
  rfl

/-- STATUS (R103). -/
theorem serve_status {s : State} {m : Message} {rest : List Byte} (ht : HubTakes s m) (hp : m.payload = 0x0F#8 :: rest)
    (hl : 2 ≤ m.payload.length) :
    statusRequest.serve s = s.answered m ([1#8, 0x0F#8, 0#8, 0#8] ++ (s.hubTake m).statusData) := by
  rw [serve_run ht _ (hp ▸ hasCode_of_head (code := 0x0F) (by omega) rest) rfl rfl hl rfl rfl]
  rfl

/-- Settles O34: READ COUNTERS within and beyond the reach, and the bytes of STATUS with the fenced lanes bit by bit
(`fencedSet_code`). -/
theorem countersAndStatus : Obligations.CountersAndStatus := by
  unfold Obligations.CountersAndStatus
  rintro s _ m rest _ ht rfl rfl
  refine ⟨fun l r hp hl hs hc hr => ⟨fun h => ?_, fun h hd => ?_⟩, fun hp hl hs hc => ?_, fun hp hl =>
    ⟨BitVec.ofNat 16 s.fencedSet, fun l => ?_, fun b hb => ?_, ?_⟩⟩
  · refine congrArg Host.Outcome.next ((serve_readCounters ht hp hl hs hc ((reaches_iff hs).2 h)).trans ?_)
    rw [countersOf_eq, hr]
    rfl
  · exact congrArg Host.Outcome.next (serve_readCounters_beyond ht hp hl hs hc
      (Bool.eq_false_iff.2 fun e => ((reaches_iff hs).1 e).elim h hd))
  · exact congrArg Host.Outcome.next (serve_readCounters_unlisted ht hp hl hs hc)
  · have := l.code.isLt
    rw [BitVec.getLsbD_ofNat, fencedSet_code, decide_eq_true (by omega), Bool.true_and]
  · rw [BitVec.getLsbD_ofNat, fencedSet_beyond s hb, Bool.and_false]
  · refine congrArg Host.Outcome.next ((serve_status ht hp hl).trans ?_)
    rw [hubTake_statusData]
    refine congrArg (s.answered m) ?_
    simp only [List.cons_append, List.nil_append, List.cons.injEq, true_and, and_true]
    refine ⟨?_, ?_, ?_, ?_, ?_, ?_, ?_, rfl⟩
    · cases s.hub.mode <;> rfl
    · cases s.app.status <;> rfl
    · cases s.pay.status <;> rfl
    · cases s.rad.status <;> rfl
    · cases s.combiner.output <;> rfl
    · cases s.panel.mode <;> rfl
    · show BitVec.ofNat 8 (bit (s.panel.active.panes.any Pane.capture)) = _
      cases s.panel.active.panes.any Pane.capture <;> rfl

end Sys2Proof.Machine

/-! PROOFS. Pane records, pane lists, SET PANES and SCROLL PANE (O28). -/

namespace Sys2Proof.Machine

/-! ## Pane records -/

theorem paneSource_ofCode_eq_some (c : Nat) (source : PaneSource) : PaneSource.ofCode c = some source ↔
    (c = 1 ∧ source = .appVideo) ∨ (c = 2 ∧ source = .secure) ∨ (c = 3 ∧ source = .fill) := by
  unfold PaneSource.ofCode
  split_ifs <;> simp_all [eq_comm]

/-- The pane that a record of TABLE J makes, field by field (R122). -/
theorem paneOf_eq_some (r : List Byte) (p : Pane) : paneOf r = some p ↔
    (p.height = halfAt r 0 ∧ 1 ≤ p.height ∧ p.height ≤ 320)
      ∧ ((byteAt r 2 = 1 ∧ p.ownerPay = false) ∨ (byteAt r 2 = 2 ∧ p.ownerPay = true))
      ∧ PaneSource.ofCode (byteAt r 3) = some p.source
      ∧ (p.capture = bitAt r 4 0 ∧ p.shade = bitAt r 4 1)
      ∧ (p.source = .secure → p.base = byteAt r 5 ∧ p.offset = halfAt r 6 ∧ p.offset ≤ 319)
      ∧ (p.source ≠ .secure → p.base = 0 ∧ p.offset = 0) := by
  obtain ⟨height, ownerPay, source, capture, shade, base, offset⟩ := p
  unfold paneOf
  cases hs : PaneSource.ofCode (byteAt r 3) with
  | none => simp
  | some source' =>
    dsimp only
    constructor
    · intro h
      by_cases hf : 1 ≤ halfAt r 0 ∧ halfAt r 0 ≤ Config.rows ∧ (byteAt r 2 = 1 ∨ byteAt r 2 = 2)
          ∧ (source' = .secure → halfAt r 6 ≤ 319)
      · obtain ⟨low, high, owner, secure⟩ := hf
        rw [if_pos ⟨low, high, owner, secure⟩] at h
        cases h
        refine ⟨⟨rfl, low, high⟩, ?_, rfl, ⟨rfl, rfl⟩, fun e => ⟨if_pos e, if_pos e, ?_⟩, fun e => ⟨if_neg e, if_neg e⟩⟩
        · rcases owner with e | e <;> simp [e]
        · exact (if_pos e).trans_le (secure e)
      · rw [if_neg hf] at h; cases h
    · rintro ⟨⟨rfl, low, high⟩, owner, e, ⟨rfl, rfl⟩, secure, other⟩
      cases e
      have marked : ownerPay = decide (byteAt r 2 = 2) := by rcases owner with ⟨e, rfl⟩ | ⟨e, rfl⟩ <;> simp [e]
      have owner : byteAt r 2 = 1 ∨ byteAt r 2 = 2 := owner.imp And.left And.left
      by_cases hsec : source = .secure
      · obtain ⟨rfl, rfl, le⟩ := secure hsec
        rw [if_pos ⟨low, high, owner, fun _ => le⟩, if_pos hsec, if_pos hsec, marked]
      · obtain ⟨rfl, rfl⟩ := other hsec
        rw [if_pos ⟨low, high, owner, fun e => absurd e hsec⟩, if_neg hsec, if_neg hsec, marked]

/-! ## The records of a payload -/

theorem panesFrom_succ_of_none {p : List Byte} {k : Nat} (n : Nat) (h : paneOf (paneBytes p k) = none) :
    panesFrom p k (n + 1) = .error k := by
  rw [panesFrom, h]

theorem panesFrom_succ_of_some {p : List Byte} {k : Nat} {pane : Pane} (n : Nat) (h : paneOf (paneBytes p k) = some pane) :
    panesFrom p k (n + 1) = (panesFrom p (k + 1) n).map (pane :: ·) := by
  rw [panesFrom, h]
  cases panesFrom p (k + 1) n <;> rfl

theorem except_map_eq_ok {ε α β : Type} (f : α → β) (e : Except ε α) (b : β) :
    e.map f = .ok b ↔ ∃ a, e = .ok a ∧ f a = b := by
  cases e <;> simp [Except.map]

theorem except_map_eq_error {ε α β : Type} (f : α → β) (e : Except ε α) (x : ε) : e.map f = .error x ↔ e = .error x := by
  cases e <;> simp [Except.map]

/-- A payload whose records all make panes (R122). -/
theorem panesFrom_eq_ok (p : List Byte) (k n : Nat) (panes : List Pane) : panesFrom p k n = .ok panes ↔
    (List.range' k n).map (fun j => paneOf (paneBytes p j)) = panes.map some := by
  induction n generalizing k panes with
  | zero => cases panes <;> simp [panesFrom]
  | succ n ih =>
    rw [List.range'_succ, List.map_cons]
    cases hk : paneOf (paneBytes p k) with
    | none => rw [panesFrom_succ_of_none n hk]; cases panes <;> simp
    | some pane =>
      rw [panesFrom_succ_of_some n hk, except_map_eq_ok]
      cases panes with
      | nil => simp
      | cons q rest => simp [ih, and_comm]

/-- The first record of a payload that makes no pane (R33, R122). -/
theorem panesFrom_eq_error (p : List Byte) (k n j : Nat) : panesFrom p k n = .error j ↔
    (k ≤ j ∧ j < k + n) ∧ paneOf (paneBytes p j) = none ∧ ∀ i, k ≤ i → i < j → paneOf (paneBytes p i) ≠ none := by
  induction n generalizing k with
  | zero => exact ⟨fun h => (nomatch h), fun ⟨h, _⟩ => by omega⟩
  | succ n ih =>
    cases hk : paneOf (paneBytes p k) with
    | none =>
      rw [panesFrom_succ_of_none n hk, Except.error.injEq]
      constructor
      · rintro rfl
        exact ⟨by omega, hk, fun i _ _ => by omega⟩
      · rintro ⟨⟨hj, -⟩, -, before⟩
        by_contra hne
        exact before k (Nat.le_refl k) (by omega) hk
    | some pane =>
      rw [panesFrom_succ_of_some n hk, except_map_eq_error, ih]
      have ne : ∀ i, paneOf (paneBytes p i) = none → i ≠ k := by rintro _ h rfl; simp [hk] at h
      constructor
      · rintro ⟨⟨hj, hn⟩, none, before⟩
        refine ⟨by omega, none, fun i hi hij h => ?_⟩
        have := ne i h
        exact before i (by omega) hij h
      · rintro ⟨⟨hj, hn⟩, none, before⟩
        have := ne j none
        exact ⟨by omega, none, fun i hi hij => before i (by omega) hij⟩

/-! ## The tests of a pane list -/

/-- Tests a, b and d of R122, which look at one pane alone. -/
def Pane.passes (p : Pane) : Bool := p.ownerAgrees && p.marksPlaced && p.fitsStore

theorem Pane.valid_eq (captured : Bool) (p : Pane) : p.valid captured = (p.passes && !(captured && p.capture)) := by
  unfold Pane.valid Pane.passes
  cases p.ownerAgrees <;> cases p.marksPlaced <;> cases p.fitsStore <;> simp

theorem Pane.ownerAgrees_iff (p : Pane) : p.ownerAgrees = true ↔ (p.ownerPay = false ↔ p.source = .appVideo) := by
  unfold Pane.ownerAgrees
  cases p.ownerPay <;> simp

theorem Pane.marksPlaced_iff (p : Pane) : p.marksPlaced = true ↔
    (p.capture = true ∨ p.shade = true → p.ownerPay = true) ∧ (p.shade = true → p.capture = true) := by
  unfold Pane.marksPlaced
  cases p.ownerPay <;> cases p.capture <;> cases p.shade <;> decide

theorem Pane.fitsStore_iff (p : Pane) : p.fitsStore = true ↔
    (p.source = .secure → p.height ≤ 256 ∧ p.base + p.height ≤ 256 ∧ p.offset < p.height) := by
  unfold Pane.fitsStore
  by_cases h : p.source = .secure <;> simp [h, and_assoc]

theorem Pane.passes_iff (p : Pane) : p.passes = true ↔ (p.ownerPay = false ↔ p.source = .appVideo)
    ∧ (p.capture = true ∨ p.shade = true → p.ownerPay = true) ∧ (p.shade = true → p.capture = true)
    ∧ (p.source = .secure → p.height ≤ 256 ∧ p.base + p.height ≤ 256 ∧ p.offset < p.height) := by
  rw [Pane.passes, Bool.and_eq_true, Bool.and_eq_true, p.ownerAgrees_iff, p.marksPlaced_iff, p.fitsStore_iff, and_assoc,
    and_assoc]

/-- A list passes where each pane does and at most one of them has capture, none behind an earlier one (R122). -/
theorem firstInvalid_eq_none_iff_passes (captured : Bool) (k : Nat) (panes : List Pane) : firstInvalid captured k panes = none ↔
    (∀ p ∈ panes, p.passes = true) ∧ panes.countP Pane.capture ≤ if captured then 0 else 1 := by
  induction panes generalizing captured k with
  | nil => simp [firstInvalid]
  | cons p rest ih =>
    rw [firstInvalid, Pane.valid_eq, List.forall_mem_cons, List.countP_cons]
    cases hp : p.passes with
    | false => simp
    | true =>
      cases hc : p.capture <;> cases captured <;> simp [ih]

/-- The pane at a place of a list fails a test of its own, a capture in an earlier pane counting against it (R122). -/
def PaneFails (captured : Bool) (panes : List Pane) (j : Nat) (p : Pane) : Prop :=
  p.valid (captured || (panes.take j).any Pane.capture) = false

theorem paneFails_zero (captured : Bool) (p q : Pane) (rest : List Pane) :
    PaneFails captured (p :: rest) 0 q ↔ q.valid captured = false := by
  simp [PaneFails]

theorem paneFails_succ (captured : Bool) (p q : Pane) (rest : List Pane) (j : Nat) :
    PaneFails captured (p :: rest) (j + 1) q ↔ PaneFails (captured || p.capture) rest j q := by
  simp [PaneFails, Bool.or_assoc]

theorem firstInvalid_eq_none (captured : Bool) (k : Nat) (panes : List Pane) : firstInvalid captured k panes = none ↔
    ∀ j p, panes[j]? = some p → ¬PaneFails captured panes j p := by
  induction panes generalizing captured k with
  | nil => simp [firstInvalid]
  | cons p rest ih =>
    rw [firstInvalid]
    cases hp : p.valid captured with
    | false => exact ⟨fun h => (nomatch h), fun h => absurd ((paneFails_zero ..).2 hp) (h 0 p rfl)⟩
    | true =>
      rw [if_pos rfl, ih]
      constructor
      · intro h j q hq
        cases j with
        | zero => cases hq; simp [paneFails_zero, hp]
        | succ j => rw [paneFails_succ]; exact h j q hq
      · exact fun h j q hq => mt (paneFails_succ ..).2 (h (j + 1) q hq)

theorem firstInvalid_eq_some (captured : Bool) (k i : Nat) (panes : List Pane) : firstInvalid captured k panes = some i ↔
    ∃ j p, i = k + j ∧ panes[j]? = some p ∧ PaneFails captured panes j p
      ∧ ∀ j' q, j' < j → panes[j']? = some q → ¬PaneFails captured panes j' q := by
  induction panes generalizing captured k with
  | nil => simp [firstInvalid]
  | cons p rest ih =>
    rw [firstInvalid]
    cases hp : p.valid captured with
    | false =>
      constructor
      · rintro ⟨⟩
        exact ⟨0, p, rfl, rfl, (paneFails_zero ..).2 hp, fun _ _ h => absurd h (Nat.not_lt_zero _)⟩
      · rintro ⟨j, q, rfl, -, -, before⟩
        cases j with
        | zero => rfl
        | succ j => exact absurd ((paneFails_zero ..).2 hp) (before 0 p (Nat.succ_pos j) rfl)
    | true =>
      rw [if_pos rfl, ih]
      constructor
      · rintro ⟨j, q, rfl, hq, hf, before⟩
        refine ⟨j + 1, q, by omega, hq, (paneFails_succ ..).2 hf, fun j' r hj hr => ?_⟩
        cases j' with
        | zero => cases hr; simp [paneFails_zero, hp]
        | succ j' => rw [paneFails_succ]; exact before j' r (by omega) hr
      · rintro ⟨j, q, rfl, hq, hf, before⟩
        cases j with
        | zero => cases hq; simp [paneFails_zero, hp] at hf
        | succ j =>
          exact ⟨j, q, by omega, hq, (paneFails_succ ..).1 hf,
            fun j' r hj hr => mt (paneFails_succ ..).2 (before (j' + 1) r (by omega) hr)⟩

theorem any_take_iff (panes : List Pane) (j : Nat) (f : Pane → Bool) : (panes.take j).any f = true ↔
    ∃ i q, i < j ∧ panes[i]? = some q ∧ f q = true := by
  rw [List.any_eq_true]
  constructor
  · rintro ⟨q, hq, hf⟩
    obtain ⟨i, hi⟩ := List.mem_iff_getElem?.1 hq
    rw [List.getElem?_take] at hi
    split at hi
    · next h => exact ⟨i, q, h, hi, hf⟩
    · cases hi
  · rintro ⟨i, q, hi, hq, hf⟩
    exact ⟨q, List.mem_iff_getElem?.2 ⟨i, by rw [List.getElem?_take, if_pos hi, hq]⟩, hf⟩

/-- The ways in which a pane of a list fails (tests a to d of R122). -/
theorem paneFails_iff (panes : List Pane) (j : Nat) (p : Pane) : PaneFails false panes j p ↔
    ¬(p.ownerPay = false ↔ p.source = .appVideo)
      ∨ (p.ownerPay = false ∧ (p.capture = true ∨ p.shade = true)) ∨ (p.shade = true ∧ p.capture = false)
      ∨ (p.capture = true ∧ ∃ i q, i < j ∧ panes[i]? = some q ∧ q.capture = true)
      ∨ (p.source = .secure ∧ (256 < p.height ∨ 256 < p.base + p.height ∨ p.height ≤ p.offset)) := by
  rw [PaneFails, Bool.false_or, Pane.valid_eq, Bool.and_eq_false_iff, Bool.not_eq_false', Bool.and_eq_true, any_take_iff,
    ← Bool.not_eq_true, Pane.passes_iff]
  simp only [not_and_or, Classical.not_imp, not_le, not_lt, Bool.not_eq_true]
  -- the two sides differ in the order of their alternatives
  grind

theorem panesRefused_eq_none (panes : List Pane) :
    panesRefused panes = none ↔ firstInvalid false 0 panes = none ∧ (panes.map Pane.height).sum = 320 := by
  unfold panesRefused
  cases firstInvalid false 0 panes with
  | some k => simp
  | none => by_cases h : (panes.map Pane.height).sum = 320 <;> simp [heightSum, Config.rows, h]

theorem panesRefused_eq_some (panes : List Pane) (k : Nat) : panesRefused panes = some k ↔ firstInvalid false 0 panes = some k
    ∨ (firstInvalid false 0 panes = none ∧ (panes.map Pane.height).sum ≠ 320 ∧ k = panes.length) := by
  unfold panesRefused
  cases firstInvalid false 0 panes with
  | some k' => simp
  | none => simp [heightSum, eq_comm]

/-! ## SET PANES -/

section
variable {s : State} {m : Message} {rest : List Byte}

theorem setPanes_takes (h : m.payload = 0x02#8 :: rest) : setPanesRequest.takes m.payload = true :=
  h ▸ hasCode_of_head (code := 0x02) (by omega) rest

theorem setPanes_length_le {p : List Byte} (h : 6 + 8 * byteAt p 2 ≤ p.length) : setPanesRequest.length p ≤ p.length :=
  Nat.not_lt.1 (mt (setPanes_short_iff p).1 (Nat.not_lt.2 h))

theorem setPanes_badField_of_ok {p : List Byte} {panes : List Pane} (hc : 1 ≤ byteAt p 2 ∧ byteAt p 2 ≤ 4)
    (h : panesFrom p 0 (byteAt p 2) = .ok panes) : setPanesRequest.badField p = none := by
  simp only [setPanesRequest, paneCount, if_pos hc, h]

theorem setPanes_badField_of_error {p : List Byte} {k : Nat} (hc : 1 ≤ byteAt p 2 ∧ byteAt p 2 ≤ 4)
    (h : panesFrom p 0 (byteAt p 2) = .error k) : setPanesRequest.badField p = some k := by
  simp only [setPanesRequest, paneCount, if_pos hc, h]

theorem setPanes_badField_of_count {p : List Byte} (hc : ¬(1 ≤ byteAt p 2 ∧ byteAt p 2 ≤ 4)) :
    setPanesRequest.badField p = some 0xFFFF := by
  simp only [setPanesRequest, paneCount]
  exact if_neg hc

theorem tableOf_of_ok {p : List Byte} {panes : List Pane} (h : panesFrom p 0 (byteAt p 2) = .ok panes) :
    tableOf p = ⟨BitVec.ofNat 16 (halfAt p 4), panes⟩ := by
  simp only [tableOf, paneCount, h]

/-- A SET PANES whose count or records are at fault (R33, R122). -/
theorem serve_setPanes_badField {k : Nat} (ht : HubTakes s m) (hs : m.sender = .pay) (hm : s.hub.mode ≠ .lockdown)
    (hp : m.payload = 0x02#8 :: rest) (hl : 6 + 8 * byteAt m.payload 2 ≤ m.payload.length)
    (hb : setPanesRequest.badField m.payload = some k) :
    setPanesRequest.serve s = s.answered m (replyBytes .parameter 0x02 k []) :=
  serve_badField ht _ (setPanes_takes hp) (decide_eq_true hs) (decide_eq_true hm)
    (setPanes_length_le hl) hb

/-- A SET PANES whose pane list fails a test (R122). -/
theorem serve_setPanes_refused {k : Nat} {panes : List Pane} (ht : HubTakes s m) (hs : m.sender = .pay)
    (hm : s.hub.mode ≠ .lockdown) (hp : m.payload = 0x02#8 :: rest) (hc : 1 ≤ byteAt m.payload 2 ∧ byteAt m.payload 2 ≤ 4)
    (hl : 6 + 8 * byteAt m.payload 2 ≤ m.payload.length) (hok : panesFrom m.payload 0 (byteAt m.payload 2) = .ok panes)
    (hr : panesRefused panes = some k) : setPanesRequest.serve s = s.answered m (replyBytes .parameter 0x02 k []) :=
  serve_refused (r := .parameter) (d := k) ht _ (setPanes_takes hp) (decide_eq_true hs)
    (decide_eq_true hm) (setPanes_length_le hl) (setPanes_badField_of_ok hc hok)
    (by simp [setPanesRequest, tableOf_of_ok hok, hr])

/-- A SET PANES that passes every check stages its table (R123). -/
theorem serve_setPanes {panes : List Pane} (ht : HubTakes s m) (hs : m.sender = .pay)
    (hm : s.hub.mode ≠ .lockdown) (hp : m.payload = 0x02#8 :: rest) (hc : 1 ≤ byteAt m.payload 2 ∧ byteAt m.payload 2 ≤ 4)
    (hl : 6 + 8 * byteAt m.payload 2 ≤ m.payload.length) (hok : panesFrom m.payload 0 (byteAt m.payload 2) = .ok panes)
    (hr : panesRefused panes = none) : setPanesRequest.serve s = State.addOutstanding (State.completeJobs
      { s.hubTake m with panel := { s.panel with staged := some ⟨BitVec.ofNat 16 (halfAt m.payload 4), panes⟩ } }
      .setPanes .superseded 0) .setPanes m := by
  have panel : (s.hubTake m).panel = s.panel := by simp
  rw [serve_run ht _ (setPanes_takes hp) (decide_eq_true hs) (decide_eq_true hm)
    (setPanes_length_le hl) (setPanes_badField_of_ok hc hok) (by simp [setPanesRequest, tableOf_of_ok hok, hr])]
  simp only [setPanesRequest, tableOf_of_ok hok, panel]

/-! ## SCROLL PANE -/

theorem scrollPane_takes (h : m.payload = 0x03#8 :: rest) : scrollPaneRequest.takes m.payload = true :=
  h ▸ hasCode_of_head (code := 0x03) (by omega) rest

/-- What the field check of SCROLL PANE lets pass (R127). -/
theorem scrollPane_badField (p : List Byte) :
    scrollPaneRequest.badField p = if byteAt p 2 ≤ 3 ∧ halfAt p 4 ≤ 319 then none else some 0 := by
  simp [scrollPaneRequest, badItem]

theorem Scroll.fits_iff (c : Scroll) (t : PaneTable) :
    c.fits t = true ↔ ∃ p, t.panes[c.pane]? = some p ∧ p.source = .secure ∧ c.offset < p.height := by
  unfold Scroll.fits
  cases t.panes[c.pane]? <;> simp

theorem Scroll.fits_eq_false_iff (c : Scroll) (t : PaneTable) : c.fits t = false ↔
    t.panes[c.pane]? = none ∨ ∃ p, t.panes[c.pane]? = some p ∧ (p.source ≠ .secure ∨ p.height ≤ c.offset) := by
  unfold Scroll.fits
  cases t.panes[c.pane]? <;> simp [imp_iff_not_or]

/-- SCROLL PANE of a SECURE pane (R127). -/
theorem serve_scrollPane (ht : HubTakes s m) (hs : m.sender = .pay) (hm : s.hub.mode ≠ .lockdown)
    (hp : m.payload = 0x03#8 :: rest) (hl : 6 ≤ m.payload.length) (hb : byteAt m.payload 2 ≤ 3 ∧ halfAt m.payload 4 ≤ 319)
    (hf : (scrollOf m.payload).fits s.panel.active = true) : scrollPaneRequest.serve s =
      { s.awaits m .scrollPane with panel := { s.panel with scrolls := s.panel.scrolls ++ [scrollOf m.payload] } } := by
  have panel : (s.hubTake m).panel = s.panel := by simp
  rw [serve_run ht _ (scrollPane_takes hp) (decide_eq_true hs) (decide_eq_true hm) hl
    (by rw [scrollPane_badField, if_pos hb]) (by simp only [scrollPaneRequest, panel, hf, if_true])]
  simp only [scrollPaneRequest, panel]
  rfl

/-- SCROLL PANE with a field at fault, or of a pane that it does not fit (R33, R127). -/
theorem serve_scrollPane_refused (ht : HubTakes s m) (hs : m.sender = .pay) (hm : s.hub.mode ≠ .lockdown)
    (hp : m.payload = 0x03#8 :: rest) (hl : 6 ≤ m.payload.length)
    (hf : ¬(byteAt m.payload 2 ≤ 3 ∧ halfAt m.payload 4 ≤ 319) ∨ (scrollOf m.payload).fits s.panel.active = false) :
    scrollPaneRequest.serve s = s.answered m [4#8, 3#8, 0#8, 0#8] := by
  have panel : (s.hubTake m).panel = s.panel := by simp
  by_cases hb : byteAt m.payload 2 ≤ 3 ∧ halfAt m.payload 4 ≤ 319
  · rw [serve_refused (r := .parameter) (d := 0) ht _ (scrollPane_takes hp) (decide_eq_true hs) (decide_eq_true hm) hl
      (by rw [scrollPane_badField, if_pos hb])
      (by simp only [scrollPaneRequest, panel, hf.resolve_left (not_not.2 hb)]; rfl)]
    rfl
  · rw [serve_badField ht _ (scrollPane_takes hp) (decide_eq_true hs) (decide_eq_true hm) hl (by rw [scrollPane_badField, if_neg hb])]
    rfl

end

/-- Settles O28: the two requests by the check that fails or their execution, and the pane lists and records by what the model's
searches find (`firstInvalid_eq_some`, `panesFrom_eq_error`, `paneOf_eq_some`). -/
theorem paneRequests : Obligations.PaneRequests := by
  unfold Obligations.PaneRequests
  refine ⟨fun s m rest ht hs hm => ⟨fun panes hp hlow hhigh hl hok => ⟨_, rfl, fun hr => ?_, fun k hr => ?_⟩,
      fun k hp hlow hhigh hl he => ?_, fun hp hc hl => ?_, ?_⟩,
    fun panes => ?_, fun panes k fails hf => ?_, fun p n record hrec => ⟨fun panes => ?_, fun k => ?_⟩, fun r p => ?_⟩
  · exact congrArg Host.Outcome.next (serve_setPanes ht hs hm hp ⟨hlow, hhigh⟩ hl hok hr)
  · exact congrArg Host.Outcome.next (serve_setPanes_refused ht hs hm hp ⟨hlow, hhigh⟩ hl hok hr)
  · exact congrArg Host.Outcome.next (serve_setPanes_badField ht hs hm hp hl (setPanes_badField_of_error ⟨hlow, hhigh⟩ he))
  · exact congrArg Host.Outcome.next (serve_setPanes_badField ht hs hm hp hl (setPanes_badField_of_count (by omega)))
  · rintro hp hl _ rfl
    refine ⟨fun p hpane hb ho hsec hoff => ?_, fun h => ?_⟩
    · exact congrArg Host.Outcome.next (serve_scrollPane ht hs hm hp hl ⟨hb, ho⟩
        ((Scroll.fits_iff ..).2 ⟨p, hpane, hsec, hoff⟩))
    · refine congrArg Host.Outcome.next (serve_scrollPane_refused ht hs hm hp hl ?_)
      rcases h with h | h | h
      · exact .inl fun hb => absurd hb.1 (Nat.not_le.2 h)
      · exact .inl fun hb => absurd hb.2 (Nat.not_le.2 h)
      · exact .inr ((Scroll.fits_eq_false_iff ..).2 h)
  · rw [panesRefused_eq_none, firstInvalid_eq_none_iff_passes, and_comm]
    simp only [Pane.passes_iff, Bool.false_eq_true, if_false]
    exact and_congr_right' and_comm
  · have agree : ∀ j p, fails j p ↔ PaneFails false panes j p := fun j p => (hf j p).trans (paneFails_iff panes j p).symm
    simp only [panesRefused_eq_some, firstInvalid_eq_some, firstInvalid_eq_none, agree, Nat.zero_add]
    refine or_congr ⟨?_, ?_⟩ ⟨fun ⟨h, sum, e⟩ => ⟨e, sum, h⟩, fun ⟨e, sum, h⟩ => ⟨h, sum, e⟩⟩
    · rintro ⟨_, p, rfl, h⟩
      exact ⟨p, h⟩
    · rintro ⟨p, h⟩
      exact ⟨k, p, rfl, h⟩
  · obtain rfl : record = fun k => paneOf (paneBytes p k) := funext hrec
    rw [panesFrom_eq_ok, List.range_eq_range']
  · obtain rfl : record = fun k => paneOf (paneBytes p k) := funext hrec
    simp only [panesFrom_eq_error, Nat.zero_le, true_and, Nat.zero_add, forall_const]
  · rw [paneOf_eq_some, paneSource_ofCode_eq_some]
    rfl

end Sys2Proof.Machine

/-! PROOFS. Changes that open no request and let the application domain in LOCKDOWN hold nothing new: the operations on the
FIFOs and on the exchange table (O53, O58). -/

namespace Sys2Proof.Machine

/-! ## What LOCKDOWN and a request limit look at -/

/-- An entry that a lane's FIFO may hold in LOCKDOWN: for an application lane hub replies alone, for another nothing that an
application lane sent (R74). -/
def Entry.Allowed (l : Lane) (e : Entry) : Prop := if l.isApp then e.isReply = true else e.fromApp = false

/-- A state of an exchange entry that LOCKDOWN leaves: an application lane's exchange is AWAITED with HUB (R92). -/
def ExchangeState.Allowed (st : ExchangeState) : Prop :=
  ∀ x, st.exchange? = some x → x.requester.isApp = true → st.awaitsHub = true

/-- The entry counts against a lane's open-request limit (R42). -/
def ExchangeState.opensFor (st : ExchangeState) (l : Lane) : Bool := st.open?.any fun x => decide (x.requester = l)

/-- What `AppShutOut` says of LOCKDOWN, by record. -/
structure ShutOut (s : State) : Prop where
  fifo : ∀ l, ∀ e ∈ (s.lane l).fifo, e.Allowed l
  hub : ∀ h ∈ s.hub.fifo, h.message.sender.isApp = false
  entry : ∀ i, (s.entry i).state.Allowed

section
variable {x : Exchange} {c : Conclusion} {late : Bool} {l : Lane}

@[simp] theorem allowed_free : ExchangeState.free.Allowed := nofun

@[simp] theorem allowed_posted : (ExchangeState.posted x).Allowed ↔ x.requester.isApp = false := by
  simp [ExchangeState.Allowed, ExchangeState.exchange?, ExchangeState.awaitsHub]

@[simp] theorem allowed_awaited : (ExchangeState.awaited x).Allowed ↔ (x.requester.isApp = true → x.responder = .hub) := by
  simp [ExchangeState.Allowed, ExchangeState.exchange?, ExchangeState.awaitsHub]

@[simp] theorem allowed_closing : (ExchangeState.closing x c late).Allowed ↔ x.requester.isApp = false := by
  simp [ExchangeState.Allowed, ExchangeState.exchange?, ExchangeState.awaitsHub]

@[simp] theorem allowed_lapsed : (ExchangeState.lapsed x).Allowed ↔ x.requester.isApp = false := by
  simp [ExchangeState.Allowed, ExchangeState.exchange?, ExchangeState.awaitsHub]

@[simp] theorem opensFor_free : ExchangeState.free.opensFor l = false := rfl

@[simp] theorem opensFor_posted : (ExchangeState.posted x).opensFor l = decide (x.requester = l) := rfl

@[simp] theorem opensFor_awaited : (ExchangeState.awaited x).opensFor l = decide (x.requester = l) := rfl

@[simp] theorem opensFor_closing : (ExchangeState.closing x c late).opensFor l = decide (x.requester = l) := rfl

@[simp] theorem opensFor_lapsed : (ExchangeState.lapsed x).opensFor l = false := rfl

@[simp] theorem reply_allowed (r : Reply) (l : Lane) : (Entry.reply r).Allowed l := by
  unfold Entry.Allowed; split <;> rfl

end

theorem mem_heldMessages {s : State} {h : Held} :
    h ∈ s.heldMessages ↔ (∃ l, .message h ∈ (s.lane l).fifo) ∨ h ∈ s.hub.fifo := by
  rw [State.heldMessages, List.mem_append, List.mem_filterMap, ← mem_boardEntries]
  refine or_congr_left ⟨fun ⟨e, he, hh⟩ => ?_, fun he => ⟨_, he, rfl⟩⟩
  cases e <;> cases hh
  exact he

theorem appShutOut_iff (s : State) : AppShutOut s ↔ (s.hub.mode = .lockdown → ShutOut s) := by
  refine forall_congr' fun _ => ⟨fun ⟨hf, hm, he⟩ => ⟨fun l e hl => ?_, fun h hh => hm h (mem_heldMessages.2 (.inr hh)), he⟩,
    fun hs => ⟨fun x e he => ?_, fun h hh => ?_, hs.entry⟩⟩
  · unfold Entry.Allowed
    split
    · next ha =>
      cases l with
      | app x => exact hf x e hl
      | pay | rad => cases ha
    · cases e with
      | message h => exact hm h (mem_heldMessages.2 (.inl ⟨l, hl⟩))
      | reply | cell | conclusion => rfl
  · exact (if_pos (c := (Lane.app x).isApp = true) rfl).mp (hs.fifo _ e he)
  · rcases mem_heldMessages.1 hh with ⟨l, hl⟩ | hh
    · have := hs.fifo l _ hl
      unfold Entry.Allowed at this
      split at this
      · cases this
      · exact this
    · exact hs.hub h hh

theorem openRequests_eq (s : State) (l : Lane) :
    s.openRequests l = (List.finRange 48).countP fun i => (s.entry i).state.opensFor l := rfl

/-- The order of the references brings no entry into a FIFO (R86). -/
theorem mem_orderReferences {p : Fin 48 → Bool} {fifo : List Entry} {e : Entry} (he : e ∈ orderReferences p fifo) :
    e ∈ fifo := by
  simp only [orderReferences, List.mem_append, List.mem_map, List.mem_filter] at he
  rcases he with (he | ⟨i, hi, rfl⟩) | ⟨he, _⟩
  · exact (List.takeWhile_prefix _).subset he
  · obtain ⟨-, hi⟩ := List.mem_filter.1 hi
    exact of_decide_eq_true (Bool.and_eq_true_iff.1 hi).2
  · exact (List.dropWhile_suffix _).subset he

/-! ## Confined changes -/

/-- A change after which no entry counts against a lane's limit that did not before, and which in LOCKDOWN brings the application
domain nothing. -/
structure Confined (s t : State) : Prop where
  opens : ∀ i l, (t.entry i).state.opensFor l = true → (s.entry i).state.opensFor l = true
  shut : AppShutOut s → AppShutOut t

@[refl] theorem Confined.refl (s : State) : Confined s s := ⟨fun _ _ => id, id⟩

@[trans] theorem Confined.trans {s t u : State} (h : Confined s t) (h' : Confined t u) : Confined s u :=
  ⟨fun i l => h.opens i l ∘ h'.opens i l, h'.shut ∘ h.shut⟩

theorem openRequests_le {s t : State} (h : Confined s t) (l : Lane) : t.openRequests l ≤ s.openRequests l :=
  List.countP_mono_left fun i _ => h.opens i l

/-- Of two confined changes, the one that a condition chooses is confined. -/
theorem Confined.ite {p : Prop} [Decidable p] {s t u : State} (h : p → Confined s t) (h' : ¬p → Confined s u) :
    Confined s (if p then t else u) := by
  split
  · exact h ‹_›
  · exact h' ‹_›

/-- Entries may leave the FIFOs and the hub may leave LOCKDOWN; the exchange table stands. -/
def Lessens (t u : State) : Prop :=
  (∀ l, (u.lane l).fifo ⊆ (t.lane l).fifo) ∧ u.hub.fifo ⊆ t.hub.fifo ∧ (u.hub.mode = .lockdown → t.hub.mode = .lockdown)
    ∧ ∀ i, u.entry i = t.entry i

section
variable {s t u : State} (h : Confined s t)
include h

theorem Confined.lessens (hu : Lessens t u) : Confined s u := by
  obtain ⟨hf, hh, hm, he⟩ := hu
  refine h.trans ⟨fun i l => by rw [he]; exact id, fun ht => (appShutOut_iff u).2 fun hl => ?_⟩
  have := (appShutOut_iff t).1 ht (hm hl)
  exact ⟨fun l e hu => this.fifo l e (hf l hu), fun x hx => this.hub x (hh hx), fun i => he i ▸ this.entry i⟩

/-- An entry joins a FIFO that may hold it. -/
theorem Confined.join {l : Lane} {e : Entry} (he : t.hub.mode = .lockdown → e.Allowed l) : Confined s (t.join l e) := by
  refine h.trans ⟨fun i l => by simp, fun ht => (appShutOut_iff _).2 fun hl => ?_⟩
  have ht := (appShutOut_iff t).1 ht (by simpa using hl)
  refine ⟨fun k x hx => ?_, by simpa using ht.hub, by simpa using ht.entry⟩
  rw [State.join, State.lane_updLane] at hx
  split at hx
  · next hk =>
    subst hk
    rcases List.mem_append.1 hx with hx | hx
    · exact ht.fifo k x hx
    · rw [List.mem_singleton.1 hx]; exact he (by simpa using hl)
  · exact ht.fifo k x hx

omit h in
/-- An exchange entry takes a state that LOCKDOWN leaves. -/
theorem AppShutOut.setEntry (ht : AppShutOut t) {i : Fin 48} {e : ExchangeEntry}
    (ha : t.hub.mode = .lockdown → (t.entry i).state.Allowed → e.state.Allowed) : AppShutOut (t.setEntry i e) := by
  refine (appShutOut_iff _).2 fun hl => ?_
  have ht := (appShutOut_iff t).1 ht (by simpa using hl)
  refine ⟨by simpa using ht.fifo, by simpa using ht.hub, fun j => ?_⟩
  by_cases hj : j = i
  · subst hj; simpa using ha (by simpa using hl) (ht.entry j)
  · simpa [hj] using ht.entry j

/-- An exchange entry takes a state that counts against no lane's limit anew, and that LOCKDOWN leaves. -/
theorem Confined.setEntry {i : Fin 48} {e : ExchangeEntry}
    (ho : ∀ l, e.state.opensFor l = true → (t.entry i).state.opensFor l = true)
    (ha : t.hub.mode = .lockdown → (t.entry i).state.Allowed → e.state.Allowed) : Confined s (t.setEntry i e) := by
  refine h.trans ⟨fun j l => ?_, fun ht => ht.setEntry ha⟩
  by_cases hj : j = i
  · subst hj; simpa using ho l
  · simp [hj]

theorem Confined.freeEntry (i : Fin 48) : Confined s (t.freeEntry i) :=
  h.setEntry (by simp) (by simp)

theorem Confined.setExchange {i : Fin 48} {x : ExchangeState} (ho : ∀ l, x.opensFor l = true → (t.entry i).state.opensFor l = true)
    (ha : t.hub.mode = .lockdown → (t.entry i).state.Allowed → x.Allowed) : Confined s (t.setExchange i x) :=
  h.setEntry ho ha

theorem Confined.foldl {α : Type} {f : State → α → State} (hf : ∀ t a, Confined t (f t a)) (xs : List α) :
    Confined s (xs.foldl f t) := by
  induction xs generalizing t with
  | nil => exact h
  | cons x xs ih => exact ih (h.trans (hf t x))

end

section
variable {s t : State} (h : Confined s t)
include h

/-! ### FIFOs -/

theorem Confined.filterFifos (keep : Lane → Entry → Bool) (keepHub : Held → Bool) : Confined s (t.filterFifos keep keepHub) := by
  refine h.lessens ⟨fun l => ?_, ?_, by simp, by simp⟩
  · rw [filterFifos_lane]; exact fun e => List.mem_of_mem_filter
  · rw [filterFifos_hub]; exact fun e => List.mem_of_mem_filter

theorem Confined.removeAt (l : Lane) (place : Nat) : Confined s (t.removeAt l place) := by
  have hf : Confined s (t.updLane l fun r => { r with fifo := r.fifo.eraseIdx place }) := by
    refine h.lessens ⟨fun k => ?_, by simp, by simp, by simp⟩
    rw [State.lane_updLane]
    split
    · next hk => subst hk; exact List.eraseIdx_subset
    · exact List.Subset.refl _
  unfold State.removeAt
  dsimp only
  split
  · exact hf.lessens (by simp [Lessens, State.clearBufferWait])
  · exact hf

/-- No application lane is given an event in LOCKDOWN (R74). -/
theorem Confined.placeEvent (l : Lane) (e : InputEvent) : Confined s (t.placeEvent l e) := by
  unfold State.placeEvent
  split
  · exact h.lessens (by simp [Lessens])
  split
  · exact h
  next hs =>
  have cell : ∀ event joined, t.hub.mode = .lockdown → (Entry.cell event joined).Allowed l := fun event joined hm => by
    have : l.isApp = false := by simpa [State.shutOut, hm] using hs
    simp [Entry.Allowed, this, Entry.fromApp]
  split
  · next fifo hc =>
    refine h.trans ⟨fun i k => by simp, fun ht => (appShutOut_iff _).2 fun hl => ?_⟩
    have hl : t.hub.mode = .lockdown := by simpa using hl
    have ht := (appShutOut_iff t).1 ht hl
    refine ⟨fun k x hx => ?_, by simpa using ht.hub, by simpa using ht.entry⟩
    rw [State.lane_updLane] at hx
    split at hx
    · next hk =>
      subst hk
      rcases mem_coalesced hc x hx with hx | ⟨event, joined, rfl⟩
      · exact ht.fifo k x hx
      · exact cell event joined hl
    · exact ht.fifo k x hx
  split
  · exact h.join (cell e t.now)
  · exact h.lessens (by simp [Lessens])

/-! ### The exchange table -/

theorem Confined.conclude {i : Fin 48} {x : Exchange} (hx : (t.entry i).state.waits? = some x) (c : Conclusion) :
    Confined s (t.conclude i x c) := by
  unfold State.conclude
  split
  · exact (h.freeEntry i).lessens (by simp [Lessens])
  split
  · exact h.freeEntry i
  next hs =>
  have staying : t.hub.mode = .lockdown → x.requester.isApp = false := fun hm => by simpa [State.shutOut, hm] using hs
  refine Confined.join (h.setExchange (fun l hl => ?_) fun hm _ => by simpa using staying hm) fun hm => ?_
  · rcases waits_eq_some.1 hx with hx | hx <;> simpa [hx] using hl
  · simp [Entry.Allowed, staying (by simpa using hm), Entry.fromApp]

theorem Confined.orderConclusions (was : State) : Confined s (State.orderConclusions was t) :=
  h.lessens ⟨fun l => by rw [orderConclusions_lane]; exact fun e => mem_orderReferences, by simp, by simp, by simp⟩

theorem Confined.expire (i : Fin 48) : Confined s (t.expire i) := by
  unfold State.expire
  split
  · next x hx =>
    split
    · exact (h.filterFifos _ _).conclude (x := x) (by simp [hx]) _
    · exact h.conclude (by simp [hx]) _
  · next hx => exact h.conclude (by simp [hx]) _
  all_goals exact h

theorem Confined.concluded (i : Fin 48) : Confined s (t.concluded i) := by
  unfold State.concluded
  split
  · next hx => exact h.setExchange (by simp) (by simp [hx])
  · exact h.freeEntry i
  all_goals exact h

theorem Confined.removeFrom (gone : Lane → Bool) (keepHub : Bool) (i : Fin 48) :
    Confined s (State.removeFrom gone keepHub t i) := by
  cases he : (t.entry i).state with
  | free => rwa [removeFrom_free gone keepHub he]
  | posted x =>
    rw [removeFrom_posted gone keepHub he]
    exact Confined.ite (fun _ => h.freeEntry i) fun _ => Confined.ite (fun _ => h.conclude (by simp [he]) _) fun _ => h
  | awaited x =>
    rw [removeFrom_awaited gone keepHub he]
    exact Confined.ite (fun _ => Confined.ite (fun _ => h) fun _ => h.freeEntry i)
      fun _ => Confined.ite (fun _ => h.conclude (by simp [he]) _) fun _ => h
  | closing x c late =>
    rw [removeFrom_closing gone keepHub he]
    exact Confined.ite (fun _ => h.freeEntry i)
      fun _ => Confined.ite (fun _ => h.setExchange (by simp [he]) (by simp [he])) fun _ => h
  | lapsed x =>
    rw [removeFrom_lapsed gone keepHub he]
    exact Confined.ite (fun _ => h.freeEntry i) fun _ => h

theorem Confined.removeExchanges (gone : Lane → Bool) (keepHub : Bool) : Confined s (t.removeExchanges gone keepHub) :=
  h.foldl (fun u i => (Confined.refl u).removeFrom gone keepHub i) _

theorem Confined.lateSeen (tag : Nat) : Confined s (t.lateSeen tag) := by
  unfold State.lateSeen
  split
  · exact h
  split
  · next hx => exact h.setExchange (by simp [hx]) (by simp [hx])
  · exact h.freeEntry _
  all_goals exact h

/-- An exchange that was POSTED is AWAITED. -/
theorem Confined.await {i : Fin 48} {x : Exchange} (hx : (t.entry i).state = .posted x) : Confined s (t.setExchange i (.awaited x)) :=
  h.setExchange (by simp [hx]) (by simp +contextual [hx])

theorem Confined.hubAwaits (tag : Nat) : Confined s (t.hubAwaits tag) := by
  unfold State.hubAwaits
  split
  · exact h
  split
  · next hx => exact Confined.ite (fun _ => h.await hx) fun _ => h
  all_goals exact h

theorem Confined.requestDelivered (tag : Nat) : Confined s (t.requestDelivered tag) := by
  unfold State.requestDelivered
  split
  · exact h
  split
  · next hx => exact h.await hx
  all_goals exact h

theorem Confined.placeReply (l : Lane) (tag : Nat) (reference : Word) (payload : List Byte) :
    Confined s (t.placeReply l tag reference payload) := h.join fun _ => reply_allowed _ _

theorem Confined.complete (tag : Nat) (payload : List Byte) : Confined s (t.complete tag payload) := by
  unfold State.complete
  split
  · exact h
  split
  · exact (h.freeEntry _).placeReply _ _ _ _
  · next hx => exact h.setExchange (by simp [hx]) (by simp [hx])
  · exact h.freeEntry _
  all_goals exact h

theorem Confined.completeJobs (job : Job) (r : HubResult) (detail : Nat) : Confined s (t.completeJobs job r detail) :=
  have hl : Confined s { t with hub := { t.hub with outstanding := t.hub.outstanding.filter fun o => decide (o.job ≠ job) } } :=
    h.lessens (by simp [Lessens])
  hl.foldl (fun u o => (Confined.refl u).complete _ _) _

end

end Sys2Proof.Machine

/-! PROOFS. The shared operations of domain control, the hub service, the panel path and the input units are confined (O53, O58). -/

namespace Sys2Proof.Machine

section
variable {s t : State} (h : Confined s t)
include h

/-! ### Inputs and the panel path -/

theorem Confined.raise (d : Domain) (f : Flag) : Confined s (t.raise d f) := h.lessens (by simp [Lessens])

theorem Confined.setContact (i : Fin 2) (c : Option Contact) : Confined s (t.setContact i c) := h.lessens (by simp [Lessens])

theorem Confined.setKey (k : Fin 16) (r : Key) : Confined s (t.setKey k r) := h.lessens (by simp [Lessens])

theorem Confined.cancelInputs (p : Lane → Bool) : Confined s (t.cancelInputs p) := by
  refine Confined.foldl (Confined.foldl h (fun u i => ?_) _) (fun u k => ?_) _
  · have hu := Confined.refl u
    unfold State.cancelContact
    split
    · exact Confined.ite (fun _ => (hu.placeEvent _ _).setContact _ _) fun _ => hu
    all_goals exact hu
  · have hu := Confined.refl u
    unfold State.cancelKey
    split
    · exact Confined.ite (fun _ => (hu.placeEvent _ _).setKey _ _) fun _ => hu
    · exact hu

theorem Confined.captureChange (had : Bool) : Confined s (State.captureChange had t) := by
  have hr : Confined s (t.raiseAll .capture) := h.lessens (by simp [Lessens])
  exact Confined.ite (fun _ => h) fun _ => Confined.ite (fun _ => hr.cancelInputs _) fun _ => hr

/-- The panel path's own records. -/
theorem Confined.panel (p : Panel) : Confined s { t with panel := p } := h.lessens (by simp [Lessens])

/-- The touch router's own records. -/
theorem Confined.touch (x : Touch) : Confined s { t with touch := x } := h.lessens (by simp [Lessens])

theorem Confined.setActive (table : PaneTable) : Confined s (t.setActive table) := (h.panel _).captureChange _

theorem Confined.frameStart : Confined s t.frameStart := by
  have hs : Confined s t.applyScrolls := (h.panel _).completeJobs _ _ _
  have ht : Confined s t.applyScrolls.applyStaged := by
    unfold State.applyStaged
    split
    · exact hs
    · exact ((hs.panel _).completeJobs _ _ _).raise _ _
  exact ((ht.captureChange _).panel _).panel _

/-! ### LOCKDOWN and the combiner -/

omit h in
/-- What the entry into LOCKDOWN makes of an exchange entry is what LOCKDOWN leaves, and counts against no limit anew (R92). -/
theorem entryLocked_confined (s : State) (e : ExchangeEntry) : (s.entryLocked e).state.Allowed
    ∧ ∀ l, (s.entryLocked e).state.opensFor l = true → e.state.opensFor l = true := by
  obtain ⟨generation, st⟩ := e
  unfold State.entryLocked State.entryConcluded ExchangeEntry.freed
  cases st with
  | free => simp
  | posted x | awaited x => dsimp only; split_ifs <;> simp_all
  | closing x c late => dsimp only; split_ifs <;> simp_all
  | lapsed x => dsimp only; split_ifs <;> simp_all

omit h in
/-- What the first stages of the entry into LOCKDOWN leave: the FIFOs sorted out and the exchanges closed (R74, R92). -/
theorem unstaged_shutOut (t : State) : ShutOut t.unstaged where
  fifo l e he := by
    rw [unstaged_lane] at he
    cases hl : l.isApp with
    | true =>
      rw [told_of_gone hl, State.locking, State.lockFifos, filterFifos_lane] at he
      simpa [hl, Entry.Allowed] using (List.mem_filter.1 he).2
    | false =>
      rw [told_of_staying hl, State.locking, State.lockFifos, filterFifos_lane] at he
      rcases List.mem_append.1 he with he | he
      · simpa [hl, Entry.Allowed] using (List.mem_filter.1 he).2
      · obtain ⟨i, -, rfl⟩ := List.mem_map.1 he
        simp [Entry.Allowed, hl, Entry.fromApp]
  hub h hh := by
    have hh : h ∈ t.hub.fifo.filter fun h => !h.message.sender.isApp := by
      simpa [State.unstaged, State.locking, State.lockFifos, filterFifos_hub] using hh
    simpa using (List.mem_filter.1 hh).2
  entry i := by rw [unstaged_entry]; exact (entryLocked_confined t _).1

theorem Confined.enterLockdown : Confined s t.enterLockdown := by
  have hu : Confined s t.unstaged := h.trans
    ⟨fun i l ho => (entryLocked_confined t _).2 l (unstaged_entry t i ▸ ho),
      fun _ => (appShutOut_iff _).2 fun _ => unstaged_shutOut t⟩
  rw [enterLockdown_eq]
  have hc := ((hu.completeJobs .setPanes .cancelled 0).setActive lockdownTable).cancelInputs Lane.isApp
  exact hc.lessens (by simp [Lessens, State.cancelled])

theorem Confined.evaluate : Confined s t.evaluate := by
  have hf : Confined s t.formOutput := h.lessens (by simp [Lessens])
  exact Confined.ite (fun _ => hf.enterLockdown) fun _ => hf

theorem Confined.evaluateViol (was : State) : Confined s (State.evaluateViol was t) :=
  Confined.ite (fun _ => h) fun _ => h.evaluate.orderConclusions was

theorem Confined.evaluateMismatch (was : Bool) (n : Fin 12) : Confined s (State.evaluateMismatch was n t) :=
  Confined.ite (fun _ => h) fun _ => h.evaluate

/-! ### Domain control -/

/-- A change of a lane's record that leaves its FIFO. -/
theorem Confined.updLane {l : Lane} {f : LaneState → LaneState} (hf : ∀ r, (f r).fifo = r.fifo) : Confined s (t.updLane l f) :=
  h.lessens (by simp [Lessens, hf])

theorem Confined.fenceLane (l : Lane) : Confined s (t.fenceLane l) := by
  have hf : Confined s (t.fencing l) :=
    Confined.filterFifos (h.lessens (by simp [Lessens])) _ _
  exact (((hf.removeExchanges _ _).cancelInputs _).raise _ _).raise _ _

theorem Confined.autoFence (l : Lane) : Confined s (t.autoFence l) := by
  have hf : Confined s (if (t.lane l).fenced then t else t.fenceLane l) := Confined.ite (fun _ => h) fun _ => h.fenceLane l
  exact (hf.updLane (f := fun r => { r with autoFenced := true }) fun _ => rfl).evaluateViol t

theorem Confined.violate (l : Lane) : Confined s (t.violate l) := by
  have hv : Confined s (t.updLane l fun r => { r with violations := bump r.violations, tally := bumpByte r.tally }) :=
    h.updLane fun _ => rfl
  exact Confined.ite (fun _ => hv.autoFence l) fun _ => hv

theorem Confined.removeDomain (d : Domain) : Confined s (t.removeDomain d) := by
  have hr : Confined s (t.removing d) := Confined.filterFifos (h.lessens (by simp [Lessens])) _ _
  rw [removeDomain_eq]
  refine Confined.evaluateViol ((hr.removeExchanges (fun l => decide (l.domain = d)) false).lessens (u := t.removal d)
    ⟨fun l => ?_, ?_, ?_, fun i => ?_⟩) t
  · rw [removal_lane, removeExchanges_lane]
    split_ifs with hl
    · rw [told_of_gone (decide_eq_true hl)]; exact List.Subset.refl _
    · exact List.Subset.refl _
  · simp [removal_hub, State.removing, filterFifos_hub]
  · simp [removal_hub, State.removing]
  · rw [removal_entry, removeExchanges_entry, entryRemoved_congr fun l _ => removing_concludes t d l, removing_entry]

theorem Confined.holdDomain (d : Domain) : Confined s (t.holdDomain d) := Confined.removeDomain (h.lessens (by simp [Lessens])) d

theorem Confined.releaseDomain (d : Domain) : Confined s (t.releaseDomain d) := h.lessens (by simp [Lessens])

theorem Confined.selfRestart (d : Domain) : Confined s (t.selfRestart d) := by
  have hr : Confined s ((t.removeDomain d).startInit d) := (h.removeDomain d).lessens (by simp [Lessens])
  unfold State.selfRestart
  split
  · exact hr
  · exact hr
  all_goals exact h

theorem Confined.hold (d : Domain) : Confined s (t.hold d) := by
  have hc : Confined s (t.cancelRelease d) := h.lessens (by simp [Lessens, State.cancelRelease])
  exact Confined.ite (fun _ => hc.completeJobs _ _ _) fun _ => h.holdDomain d

theorem Confined.restore (l : Lane) : Confined s (t.restore l) := by
  have hc : Confined s (t.updLane l fun r => { r with fenced := false, autoFenced := false, tally := 0 }) := h.updLane fun _ => rfl
  have ht : Confined s (t.updLane l fun r => { r with tally := 0 }) := h.updLane fun _ => rfl
  exact Confined.ite (fun _ => ((hc.raise _ _).raise _ _).evaluateViol t) fun _ => ht

/-! ### Ports -/

theorem Confined.writeAttention (d : Domain) (value : Word) : Confined s (t.writeAttention d value) := by
  refine Confined.ite (fun _ => h.selfRestart d) fun _ => ?_
  unfold State.nameLanes
  split
  · exact h
  split
  · exact h.lessens (by simp [Lessens])
  · exact h.lessens (by simp [Lessens])
  · exact h.lessens (by simp [Lessens])
  · exact h

theorem Confined.returnData (d : Domain) (w : Word) : Confined s (t.returnData d w) := h.lessens (by simp [Lessens, State.returnData])

theorem Confined.clearStray (d : Domain) : Confined s (t.clearStray d) := h.lessens (by simp [Lessens, State.clearStray])

theorem Confined.clearFlags (d : Domain) (value : Word) : Confined s (t.clearFlags d value) := h.lessens (by simp [Lessens])

theorem Confined.strayAccess (d : Domain) (op : PortOp) : Confined s (t.strayAccess d op) := by
  have hd : Confined s (t.updDom d fun r => { r with stray := bumpByte r.stray }) := h.lessens (by simp [Lessens])
  cases op with
  | read => exact hd.returnData d _
  | write => exact hd

theorem Confined.access (d : Domain) (offset size : Nat) (op : PortOp) : Confined s (t.access d offset size op) := by
  unfold State.access
  split
  · cases op with
    | read => exact h.returnData d _
    | write =>
      have hw : ∀ a bs, Confined s (t.writeWindow d a bs) := fun a bs => h.lessens (by simp [Lessens])
      exact Confined.ite (fun _ => hw _ _) fun _ => hw _ _
  split
  · next r _ =>
    cases op with
    | read => exact h.returnData d _
    | write value =>
      cases r with
      | attention => exact h.writeAttention d value
      | acknowledge => exact h.clearFlags d value
      | status => exact h
      | identity => exact h.clearStray d
  · exact h.strayAccess d op

/-! ### The hub service -/

theorem Confined.hubTake (m : Message) : Confined s (t.hubTake m) :=
  Confined.hubAwaits (h.lessens ⟨by simp [State.clearBufferWait], fun _ => List.mem_of_mem_tail, by simp, by simp⟩) m.tag

theorem Confined.addOutstanding (job : Job) (m : Message) : Confined s (t.addOutstanding job m) :=
  h.lessens (by simp [Lessens])

omit h in
/-- A request whose execution is confined is served so. -/
theorem Confined.serve {q : HubRequest} (run : ∀ u m, Confined s u → Confined s (q.run u m)) : Confined s (q.serve s) :=
  serve_induction (Confined.refl s)
    (fun m _ _ _ => (Confined.ite (fun _ => ((Confined.refl s).hubTake m).violate _) fun _ => (Confined.refl s).hubTake m).complete _ _)
    fun m _ _ => run _ m ((Confined.refl s).hubTake m)

/-- A mode other than LOCKDOWN shuts nothing out. -/
theorem Confined.setMode {m : HubMode} (hm : m ≠ .lockdown) : Confined s (t.setMode m) :=
  h.lessens ⟨by simp [State.setMode], by simp [State.setMode], by simp [State.setMode, hm], by simp [State.setMode]⟩

theorem Confined.installRoutes (table : List Route) : Confined s (t.installRoutes table) := by
  have hr : Confined s { t with routes := table, hub := { t.hub with routesLoaded := true } } := h.lessens (by simp [Lessens])
  exact Confined.ite (fun _ => hr.setMode (m := .openMode) nofun) fun _ => hr

omit h in
theorem Confined.loadRoutesCompletion (he : exec .loadRoutesCompletion s = .next t) : Confined s t := by
  have hl : Confined s { s with hub := { s.hub with loading := none } } := (Confined.refl s).lessens (by simp [Lessens])
  simp only [exec, execLoadRoutesCompletion] at he
  split at he
  · cases he; exact Confined.refl s
  · split at he <;> cases he
    · exact (hl.installRoutes _).completeJobs _ _ _
    · exact hl.completeJobs _ _ _

/-- RESTART HUB frees every exchange and leaves LOCKDOWN (R104). -/
theorem Confined.clearHub : Confined s t.clearHub := by
  have entry : ∀ i, (t.clearHub.entry i).state = .free := fun i => by
    simp [State.clearHub, State.dropExchanges, State.entry]
  have mode : t.clearHub.hub.mode = .boot := by simp [State.clearHub, State.dropExchanges, Hub.reset]
  exact h.trans ⟨fun i l ho => by simp [entry] at ho, fun _ => (appShutOut_iff _).2 fun hl => by simp [mode] at hl⟩

/-! ### Lines, frames and inputs -/

theorem Confined.setLine (n : Fin 12) (r : Line) : Confined s (t.setLine n r) := h.lessens (by simp [Lessens])

theorem Confined.filteredChange (n : Fin 12) (level : Bool) : Confined s (t.filteredChange n level) := by
  refine Confined.evaluateMismatch ?_ _ _
  have hl := h.setLine n ((t.line n).take level)
  unfold State.tellOwner
  dsimp only
  split
  · exact hl
  · exact Confined.ite (fun _ => Confined.ite (fun _ => (hl.raise _ _).placeEvent _ _) fun _ => hl.raise _ _) fun _ => hl

theorem Confined.settle (n : Fin 12) (level : Bool) : Confined s (t.settle n level) := (h.setLine _ _).evaluateMismatch _ _

theorem Confined.sampleLine (levels : BitVec 12) (n : Fin 12) : Confined s (State.sampleLine levels t n) := by
  unfold State.sampleLine
  dsimp only
  split
  · exact h
  · exact h.setLine _ _
  · exact Confined.ite (fun _ => h.setLine _ _) fun _ => Confined.ite (fun _ => h.setLine _ _) fun _ => h.settle _ _
  · exact Confined.ite (fun _ => h.setLine _ _) fun _ => Confined.ite (fun _ => h.setLine _ _) fun _ => h.filteredChange _ _

theorem Confined.outputRest : Confined s t.beginPanelEvent.outputRest := h.lessens (by simp [Lessens])

theorem Confined.setFrameMode (m : FrameMode) : Confined s (t.setFrameMode m) :=
  Confined.evaluate (h.lessens (by simp [Lessens]))

theorem Confined.produce (owner : Option Lane) (e : InputEvent) : Confined s (t.produce owner e) := by
  cases owner with
  | none => exact h
  | some l => exact h.placeEvent l e

theorem Confined.takeContact (c : RawContact) : Confined s (t.takeContact c) := by
  unfold State.takeContact
  split
  · unfold State.touchContact
    split
    · exact (h.produce _ _).setContact _ _
    · exact h
    · exact h
    · exact h
    · exact (((h.produce _ _).setContact _ _).produce _ _).setContact _ _
    · exact (h.produce _ _).setContact _ _
    · exact (h.produce _ _).setContact _ _
    · exact h
  · exact h

theorem Confined.takeReport (report : List RawContact) : Confined s (t.takeReport report) :=
  h.foldl (fun u c => (Confined.refl u).takeContact c) _

theorem Confined.acceptKey (k : Fin 16) : Confined s (t.acceptKey k) :=
  Confined.ite (fun _ => (h.produce _ _).setKey _ _) fun _ => (h.produce _ _).setKey _ _

theorem Confined.senseKey (down : BitVec 16) (k : Fin 16) : Confined s (State.senseKey down t k) :=
  Confined.ite (fun _ => h.setKey _ _) fun _ => Confined.ite (fun _ => h.setKey _ _) fun _ => h.acceptKey k

end

end Sys2Proof.Machine

/-! PROOFS. What admission lets a take accept, and the two invariants: the open-request limits and LOCKDOWN (O53, O58). -/

namespace Sys2Proof.Machine

/-! ## What admission accepts -/

/-- The steps of admission of a message of a kind that has passed the first three (R37). -/
def State.judgeKind (s : State) (l : Lane) (m : Slot) (k : Kind) (a : Address) : Verdict :=
  match k with
  | .request => s.judgeRequest l a m.length
  | .notice => s.judgeNotice l a m.length
  | .answer => s.judgeAnswer l m

section
variable {s t : State} {l : Lane} {m : Slot} {k : Kind} {a a' : Address}

theorem judge_of_passes (hk : Kind.ofCode m.kind = some k) (hl : m.length ≤ 496)
    (ha : Address.decode m.domain m.service = some a) (hf : (s.lane l).fenced = false) (hm : s.modeRefusal l k a = none) :
    s.judge l m = s.judgeKind l m k a := by
  simp only [State.judge, hk, if_neg (Nat.not_lt.2 hl), ha, hf, hm]
  rfl

/-- The kind of message that a verdict accepts. -/
def Verdict.kind? : Verdict → Option Kind
  | .refuse _ => none
  | .request _ _ => some .request
  | .notice _ _ => some .notice
  | .answer _ _ => some .answer

theorem kind_of_judgeKind {k' : Kind} (h : (s.judgeKind l m k a).kind? = some k') : k = k' := by
  cases k with
  | request =>
    simp only [State.judgeKind, State.judgeRequest] at h
    (repeat' split at h) <;> cases h <;> rfl
  | notice =>
    simp only [State.judgeKind, State.judgeNotice] at h
    (repeat' split at h) <;> cases h <;> rfl
  | answer =>
    simp only [State.judgeKind, State.judgeAnswer] at h
    (repeat' split at h) <;> cases h <;> rfl

/-- What is accepted has passed the hub mode, and the steps of its kind decide (R37). -/
theorem passes_of_judge {v : Verdict} (h : s.judge l m = v) (hv : v.kind? = some k) :
    ∃ a, s.modeRefusal l k a = none ∧ s.judgeKind l m k a = v := by
  have refused : ∀ o, s.judge l m ≠ .refuse o := by rintro o ho; rw [← h, ho] at hv; cases hv
  cases hk : Kind.ofCode m.kind with
  | none => exact absurd (judge_of_badKind hk) (refused _)
  | some k' =>
    by_cases hl : 496 < m.length
    · exact absurd (judge_of_malformed hk (.inl hl)) (refused _)
    have hl : m.length ≤ 496 := Nat.not_lt.1 hl
    cases ha : Address.decode m.domain m.service with
    | none => exact absurd (judge_of_malformed hk (.inr ha)) (refused _)
    | some a =>
      cases hf : (s.lane l).fenced with
      | true => exact absurd (judge_of_fenced hk hl ha hf) (refused _)
      | false =>
        cases hm : s.modeRefusal l k' a with
        | some o => exact absurd (judge_of_modeRefusal hk hl ha hf hm) (refused _)
        | none =>
          have hj : s.judgeKind l m k' a = v := (judge_of_passes hk hl ha hf hm).symm.trans h
          obtain rfl : k' = k := kind_of_judgeKind (hj ▸ hv)
          exact ⟨a, hm, hj⟩

/-- What passes in LOCKDOWN is of no application lane, and a REQUEST or NOTICE for none (R39). -/
theorem isApp_of_passes (h : s.modeRefusal l k a = none) (hm : s.hub.mode = .lockdown) :
    l.isApp = false ∧ (k ≠ .answer → a.isApp = false) := by
  constructor
  · by_contra hl
    rw [modeRefusal_of_lockdown hm (.inl (by simpa using hl))] at h
    cases h
  · intro hk
    by_contra ha
    rw [modeRefusal_of_lockdown hm (.inr ⟨hk, by simpa using ha⟩)] at h
    cases h

theorem isApp_of_recipient {r : Lane} (ha : a.isApp = false) (hr : a.recipient = .board r) : r.isApp = false := by
  cases a <;> simp_all [Address.isApp, Address.recipient] <;> subst hr <;> rfl

/-- A REQUEST that is accepted has found room (R42). -/
theorem judge_eq_request {route : Option Nat} (h : s.judge l m = .request a route) :
    s.modeRefusal l .request a = none ∧ s.roomRefusal l = none := by
  obtain ⟨b, hm, hj⟩ := passes_of_judge h rfl
  simp only [State.judgeKind, State.judgeRequest] at hj
  (repeat' split at hj) <;> cases hj <;> exact ⟨by assumption, by assumption⟩

theorem judge_eq_notice {route : Nat} (h : s.judge l m = .notice a route) : s.modeRefusal l .notice a = none := by
  obtain ⟨b, hm, hj⟩ := passes_of_judge h rfl
  simp only [State.judgeKind, State.judgeNotice] at hj
  (repeat' split at hj) <;> cases hj
  exact hm

theorem matchAnswer_eq_match {tag : Nat} {i : Fin 48} {x : Exchange} (h : s.matchAnswer l tag = .match_ i x) :
    (s.entry i).state = .awaited x ∧ x.responder.recipient = .board l := by
  unfold State.matchAnswer at h
  (repeat' split at h) <;> cases h
  exact ⟨‹_›, ‹_›⟩

/-- An ANSWER that is accepted is for an exchange AWAITED with the lane that sends it (R40). -/
theorem judge_eq_answer {i : Fin 48} {x : Exchange} (h : s.judge l m = .answer i x) :
    (∃ a, s.modeRefusal l .answer a = none) ∧ (s.entry i).state = .awaited x ∧ x.responder.recipient = .board l := by
  obtain ⟨a, hm, hj⟩ := passes_of_judge h rfl
  simp only [State.judgeKind, State.judgeAnswer] at hj
  (repeat' split at hj) <;> cases hj
  exact ⟨⟨a, hm⟩, matchAnswer_eq_match ‹_›⟩

theorem openRequests_lt_of_room (h : s.roomRefusal l = none) : s.openRequests l < l.requestLimit := by
  unfold State.roomRefusal at h
  split at h
  · cases h
  · omega

end

/-! ## Takes -/

section
variable {s t : State} {l : Lane}

theorem Confined.refuseTake (h : Confined s t) (l : Lane) (slot : Nat) (m : Slot) (o : TakeOutcome) :
    Confined s (t.refuseTake l slot m o) := by
  have hr : Confined s (((t.writeOutcome l slot o m.refusedTag).updLane l fun r =>
      { r with refused := bump r.refused }).raise l.domain (.outcome l)) := h.lessens (by simp [Lessens, State.writeOutcome])
  have hl := Confined.ite (p := o = .late) (fun _ => hr.lateSeen m.tag) fun _ => hr
  exact Confined.ite (fun _ => hl.violate l) fun _ => hl

theorem Confined.afterTake (h : Confined s t) (l : Lane) (slot : Nat) (first : Bool) : Confined s (t.afterTake l slot first) :=
  h.lessens (by simp [Lessens, State.afterTake])

theorem Confined.admitted (h : Confined s t) (l : Lane) (slot tag : Nat) : Confined s (t.admitted l slot tag) :=
  h.lessens (by simp [Lessens, State.admitted, State.writeOutcome])

/-- A message that LOCKDOWN lets pass joins the FIFO of its recipient. -/
theorem Confined.joinMessage (h : Confined s t) {r : Recipient} {x : Held} (hx : t.hub.mode = .lockdown →
    x.message.sender.isApp = false ∧ ∀ k, r = .board k → k.isApp = false) : Confined s (t.joinMessage r x) := by
  cases r with
  | hub =>
    refine h.trans ⟨fun i l => id, fun ht => (appShutOut_iff _).2 fun hl => ?_⟩
    have ht := (appShutOut_iff t).1 ht hl
    refine ⟨ht.fifo, fun y hy => ?_, ht.entry⟩
    rcases List.mem_append.1 hy with hy | hy
    · exact ht.hub y hy
    · rw [List.mem_singleton.1 hy]; exact (hx hl).1
  | board k =>
    refine Confined.ite (fun _ => h.lessens (by simp [Lessens])) fun _ => h.join fun hl => ?_
    obtain ⟨hs, hk⟩ := hx hl
    simp [Entry.Allowed, hk k rfl, Entry.fromApp, hs]

theorem joinMessage_entry (s : State) (r : Recipient) (x : Held) (i : Fin 48) : (s.joinMessage r x).entry i = s.entry i := by
  cases r with
  | hub => rfl
  | board k => simp only [State.joinMessage]; split <;> simp

/-- The way of a REQUEST whose entry has been claimed. -/
theorem Confined.placeRequest (h : Confined s t) {i : Fin 48} {x : Exchange} {y : Held} (hi : (t.entry i).state = .posted x)
    (hy : t.hub.mode = .lockdown → y.message.sender.isApp = false ∧ x.responder.isApp = false) :
    Confined s (t.placeRequest i x y) := by
  have hj : Confined s (t.joinMessage x.responder.recipient y) :=
    h.joinMessage fun hl => ⟨(hy hl).1, fun k => isApp_of_recipient (hy hl).2⟩
  exact Confined.ite (fun _ => hj.conclude (by simp [joinMessage_entry, hi]) _) fun _ => hj

theorem Confined.acceptNotice {m : Slot} {a : Address} {route : Nat} (hj : s.judge l m = .notice a route) (slot : Nat) (b : Fin 30) :
    Confined s (s.acceptNotice l slot m a route b) := by
  have hs : Confined s (s.spend (some route)) := (Confined.refl s).lessens (by simp [Lessens])
  refine (hs.joinMessage fun hl => ?_).admitted _ _ _
  obtain ⟨ha, hr⟩ := isApp_of_passes (judge_eq_notice hj) (by simpa using hl)
  exact ⟨ha, fun k => isApp_of_recipient (hr nofun)⟩

/-- In LOCKDOWN no exchange of an application lane awaits an ANSWER (R92), so that none joins its FIFO. -/
theorem Confined.acceptAnswer {m : Slot} {i : Fin 48} {x : Exchange} (hj : s.judge l m = .answer i x) (slot : Nat) (b : Fin 30) :
    Confined s (s.acceptAnswer l slot m i x b) := by
  have hf : Confined s (s.freeEntry i) := (Confined.refl s).freeEntry i
  refine ⟨fun j k => ?_, fun hs => ((hf.joinMessage fun hl => ?_).admitted _ _ _).shut hs⟩
  · have entry : (s.acceptAnswer l slot m i x b).entry j = (s.freeEntry i).entry j := by
      simp [State.acceptAnswer, State.admitted, State.writeOutcome, joinMessage_entry]
    rw [entry]; exact hf.opens j k
  · have hl : s.hub.mode = .lockdown := by simpa using hl
    obtain ⟨⟨a, hm⟩, hx, hr⟩ := judge_eq_answer hj
    refine ⟨(isApp_of_passes hm hl).1, fun k hk => ?_⟩
    cases hk
    by_contra ha
    have awaits := ((appShutOut_iff s).1 hs hl).entry i
    rw [hx, allowed_awaited] at awaits
    rw [awaits (by simpa using ha)] at hr
    cases hr

/-- The open-request limits and the shutting out of LOCKDOWN both stand where they stood. -/
structure KeepsBounds (s t : State) : Prop where
  requests : RequestsBounded s → RequestsBounded t
  shut : AppShutOut s → AppShutOut t

theorem Confined.bounds (h : Confined s t) : KeepsBounds s t :=
  ⟨fun hs l => (openRequests_le h l).trans (hs l), h.shut⟩

/-- Of a list without repetition, one element alone is counted anew. -/
theorem countP_le_succ {α : Type} {p q : α → Bool} {xs : List α} (hx : xs.Nodup) (i : α)
    (h : ∀ j ∈ xs, j ≠ i → p j = true → q j = true) : xs.countP p ≤ xs.countP q + 1 := by
  induction xs with
  | nil => simp
  | cons y xs ih =>
    obtain ⟨hy, hx⟩ := List.nodup_cons.1 hx
    rw [List.countP_cons, List.countP_cons]
    by_cases e : y = i
    · have rest : xs.countP p ≤ xs.countP q :=
        List.countP_mono_left fun j hj => h j (List.mem_cons_of_mem _ hj) fun e' => hy (e ▸ e' ▸ hj)
      split_ifs <;> omega
    · have rest := ih hx fun j hj => h j (List.mem_cons_of_mem _ hj)
      have head : (if p y = true then 1 else 0) ≤ if q y = true then 1 else 0 := by
        have := h y (List.mem_cons_self ..) e
        split_ifs <;> simp_all
      omega

/-- A claim opens one request, of the lane that makes it (R78). -/
theorem claim_bounds {i : Fin 48} {x : Exchange} (hl : s.openRequests x.requester < x.requester.requestLimit)
    (ha : s.hub.mode = .lockdown → x.requester.isApp = false) : KeepsBounds s (s.claim i x) := by
  rw [claim_eq]
  refine ⟨fun hs k => ?_, fun hs => hs.setEntry fun hm _ => by simpa using ha hm⟩
  by_cases e : k = x.requester
  · subst e
    refine le_trans (countP_le_succ (List.nodup_finRange 48) i fun j _ hj => ?_) hl
    simp [hj]
  · refine le_trans (List.countP_mono_left fun j _ => ?_) (hs k)
    by_cases hj : j = i
    · simp [hj, ExchangeState.open?, Ne.symm e]
    · simp [hj]

/-- A REQUEST that is accepted claims an entry and goes its way. -/
theorem acceptRequest_bounds {m : Slot} {a : Address} {route : Option Nat} (hj : s.judge l m = .request a route) (slot : Nat)
    (b : Fin 30) : KeepsBounds s (s.acceptRequest l slot m a route b) := by
  obtain ⟨hm, hr⟩ := judge_eq_request hj
  cases hi : s.claimable with
  | none => simp only [State.acceptRequest, hi]; exact (Confined.refl s).bounds
  | some i =>
    rw [acceptRequest_eq hi rfl rfl]
    generalize hx : s.requestExchange l m.reference a route = x
    have requester : x.requester = l := by rw [← hx]; rfl
    have responder : x.responder = a := by rw [← hx]; rfl
    have spend : Confined s (s.spend route) := (Confined.refl s).lessens (by simp [Lessens])
    have claim : KeepsBounds (s.spend route) ((s.spend route).claim i x) := by
      refine claim_bounds ?_ fun hl => ?_ <;> rw [requester]
      · exact (openRequests_le spend l).trans_lt (openRequests_lt_of_room hr)
      · exact (isApp_of_passes hm (by simpa using hl)).1
    have posted : (((s.spend route).claim i x).entry i).state = .posted x := by rw [claim_eq]; simp
    have place (t) (ht : t = (s.spend route).claim i x) :
        Confined t ((t.placeRequest i x ⟨b, ⟨.request, l, a, t.tagOf i, m.reference, m.payload⟩, s.now⟩).admitted l slot
          (t.tagOf i)) := by
      refine ((Confined.refl t).placeRequest (ht ▸ posted) fun hl => ?_).admitted _ _ _
      obtain ⟨hl, ha⟩ := isApp_of_passes hm (by simpa [ht] using hl)
      exact ⟨hl, responder ▸ ha nofun⟩
    have place := place _ rfl
    exact ⟨place.bounds.requests ∘ claim.requests ∘ spend.bounds.requests, place.shut ∘ claim.shut ∘ spend.shut⟩

theorem takeFor_bounds (s : State) (l : Lane) (first : Bool) : KeepsBounds s (s.takeFor l first) := by
  have h0 := Confined.refl s
  refine takeFor_induction ?_ (fun slot m o _ _ => ?_) (fun slot _ => ?_) (fun slot m a route b _ _ hj => ?_)
    (fun slot m a route b _ _ hj => ?_) fun slot m i x b _ _ hj => ?_
  · exact (h0.lessens (by simp [Lessens, State.noVisit])).bounds
  · exact ((h0.refuseTake l slot m o).afterTake l slot first).bounds
  · exact (h0.lessens (by simp [Lessens, State.heldBack, State.noVisit])).bounds
  · have accept := acceptRequest_bounds hj slot b
    have after := (Confined.refl (s.acceptRequest l slot m a route b)).afterTake l slot first
    exact ⟨after.bounds.requests ∘ accept.requests, after.shut ∘ accept.shut⟩
  · exact ((Confined.acceptNotice hj slot b).afterTake l slot first).bounds
  · exact ((Confined.acceptAnswer hj slot b).afterTake l slot first).bounds

theorem take_bounds (h : exec .take s = .next t) : KeepsBounds s t := by
  refine take_induction h (Confined.refl s).bounds fun l first _ => ?_
  have visit : Confined s (s.visiting l first) := (Confined.refl s).lessens (by cases first <;> simp [Lessens, State.visiting])
  have take := takeFor_bounds (s.visiting l first) l first
  exact ⟨take.requests ∘ visit.bounds.requests, take.shut ∘ visit.shut⟩

end
end Sys2Proof.Machine

/-! PROOFS. Every command keeps the open-request limits and the shutting out of LOCKDOWN (O53, O58). -/

namespace Sys2Proof.Machine

/-! ## Commands -/

section
variable {s t : State}

theorem Confined.updLanes (h : Confined s t) {f : Lane → LaneState → LaneState} (hf : ∀ l r, (f l r).fifo = r.fifo) :
    Confined s (t.updLanes f) := h.lessens (by simp [Lessens, hf])

theorem Confined.updDom (h : Confined s t) (d : Domain) (f : DomainRecord → DomainRecord) : Confined s (t.updDom d f) :=
  h.lessens (by simp [Lessens])

theorem Confined.portAccess {d : Domain} {offset size : Nat} {op : PortOp} (h : exec (.portAccess d offset size op) s = .next t) :
    Confined s t := by
  have h0 := Confined.refl s
  simp only [exec, execPortAccess] at h
  (repeat' split at h) <;> cases h
  · exact h0.returnData d _
  · exact h0
  · exact h0.access d offset size op
  · exact h0

theorem Confined.goUp (h : Confined s t) (d : Domain) : Confined s (t.goUp d) := h.lessens (by simp [Lessens])

theorem Confined.attend (h : Confined s t) (d : Domain) (set : Byte) : Confined s (t.attend d set) :=
  h.updLanes fun _ r => by split <;> rfl

theorem Confined.finishInit (h : Confined s t) (d : Domain) : Confined s (t.finishInit d) := by
  have cleared : Confined s ((t.updDom d fun r =>
      { r with window := Memory.clear r.window d.isStateByte, initialising := none, remembered := 0#8 }).updLanes fun l r =>
        if l.domain = d then { r with takeCursor := 0, putCursor := 0, deliveryNumber := 0#16 } else r) :=
    Confined.updLanes (h.lessens (by simp [Lessens])) fun l r => by split <;> rfl
  exact Confined.ite (fun _ => cleared) fun _ => (cleared.goUp d).attend d _

theorem Confined.boardInitialisationComplete {d : Domain} (h : exec (.boardInitialisationComplete d) s = .next t) :
    Confined s t := by
  simp only [exec, execBoardInitialisationComplete] at h
  split at h <;> cases h
  · exact Confined.refl s
  · exact (Confined.refl s).finishInit d

theorem Confined.tellDelivered (h : Confined s t) (e : Entry) : Confined s (t.tellDelivered e) := by
  cases e with
  | message m => exact Confined.ite (fun _ => h.requestDelivered _) fun _ => h
  | reply | cell => exact h
  | conclusion i => exact h.concluded i

theorem Confined.deliver (h : Confined s t) (l : Lane) (e : Entry) (slot : Nat) : Confined s (t.deliver l e slot) := by
  have written (bytes : List Byte) : Confined s (t.writeWindow l.domain (l.inSlot slot) bytes) := h.lessens (by simp [Lessens])
  refine Confined.tellDelivered (Confined.raise (Confined.removeAt (Confined.updLane (written _) fun _ => ?_) l 0) _ _) e
  rfl

theorem Confined.delivery {l : Lane} (h : exec (.delivery l) s = .next t) : Confined s t := by
  have h0 := Confined.refl s
  simp only [exec, execDelivery] at h
  (repeat' split at h) <;> cases h
  · exact h0
  · exact h0
  · exact h0.updLane fun _ => by rfl
  · exact h0.deliver l _ _

/-- What stands past its hold limit, or is the oldest of too many events, leaves its FIFO and is counted. -/
theorem Confined.drop {l : Lane} {place : Nat}
    (h : exec (.holdLimitDrop l place) s = .next t ∨ exec (.eventCellDrop l place) s = .next t) : Confined s t := by
  have removed := (Confined.refl s).removeAt l place
  simp only [exec, execHoldLimitDrop, execEventCellDrop] at h
  rcases h with h | h <;> split at h <;> cases h
  · exact removed.lessens (by simp [Lessens])
  · exact Confined.refl s
  · exact removed.lessens (by simp [Lessens])
  · exact Confined.refl s

theorem Confined.unknownRequestCode (h : exec .unknownRequestCode s = .next t) : Confined s t := by
  simp only [exec, execUnknownRequestCode] at h
  (repeat' split at h) <;> cases h
  · exact Confined.refl s
  · exact ((Confined.refl s).hubTake _).complete _ _
  · exact Confined.refl s

theorem Confined.panelCommand {c : Instr} (hc : c ∈ [.appFrameStart, .videoLoss, .freeRunRowSlot, .freeRunFrameEnd])
    (h : exec c s = .next t) : Confined s t := by
  have h0 := Confined.refl s
  have hb : Confined s s.beginPanelEvent := h0.panel _
  fin_cases hc <;> dsimp only [exec] at h
  · simp only [execAppFrameStart] at h
    (repeat' split at h) <;> cases h
    · exact h0
    · exact (h0.outputRest.panel _).frameStart
    · exact ((hb.setFrameMode _).panel _).frameStart
  · cases h
    exact Confined.ite (fun _ => (h0.outputRest.setFrameMode _).frameStart.panel _) fun _ => h0
  · cases h
    exact Confined.ite (fun _ => h0.lessens (by simp [Lessens])) fun _ => h0
  · cases h
    exact Confined.ite (fun _ => hb.frameStart.panel _) fun _ => h0

theorem Confined.appInputRow {px : List Pixel} (h : exec (.appInputRow px) s = .next t) : Confined s t := by
  simp only [exec, execAppInputRow] at h
  (repeat' split at h) <;> cases h
  · exact Confined.refl s
  · exact Confined.refl s
  · exact (Confined.refl s).lessens (by simp [Lessens])
  · exact Confined.refl s

theorem Confined.touchCommand
    (h : exec .reportReadyFall s = .next t ∨ ∃ report low, exec (.touchReadCompletion report low) s = .next t) : Confined s t := by
  have h0 := Confined.refl s
  rcases h with h | ⟨report, low, h⟩
  · simp only [exec, execReportReadyFall] at h
    (repeat' split at h) <;> cases h
    · exact h0
    all_goals exact h0.touch _
  · simp only [exec, execTouchReadCompletion] at h
    split at h <;> cases h
    · exact h0
    · exact h0.touch _
    · exact Confined.touch (h0.lessens (by simp [Lessens, State.dropReport])) _
    all_goals exact (h0.takeReport _).touch _

theorem Confined.keyCommand (h : (∃ down, exec (.keySense down) s = .next t) ∨ ∃ k, exec (.keyChangeAccepted k) s = .next t) :
    Confined s t := by
  have h0 := Confined.refl s
  rcases h with ⟨down, h⟩ | ⟨k, h⟩
  · simp only [exec, execKeySense] at h
    split at h <;> cases h
    · exact h0
    · exact h0.foldl (fun u k => (Confined.refl u).senseKey down k) _
  · simp only [exec, execKeyChangeAccepted] at h
    split at h <;> cases h
    · exact h0.acceptKey k
    · exact h0

theorem Confined.lineCommand (h : (∃ levels, exec (.lineSample levels) s = .next t)
    ∨ ∃ n, exec (.filteredChange n) s = .next t ∨ exec (.settlingEnd n) s = .next t) : Confined s t := by
  have h0 := Confined.refl s
  rcases h with ⟨levels, h⟩ | ⟨n, h | h⟩
  · simp only [exec, execLineSample] at h
    split at h
    · cases h; exact h0
    · rw [← Host.Outcome.next.inj h]; exact h0.foldl (fun u n => (Confined.refl u).sampleLine levels n) _
  · simp only [exec, execFilteredChange] at h
    split at h <;> cases h
    · exact h0.filteredChange n _
    all_goals exact h0
  · simp only [exec, execSettlingEnd] at h
    split at h <;> cases h
    · exact h0.settle n _
    all_goals exact h0

/-- A reset frees every exchange and leaves the hub in BOOT (R3). -/
theorem Confined.inResetWith (s : State) (a p r : Memory) (now : Nat) : Confined s (s.inResetWith a p r now) where
  opens i l := by simp [State.inResetWith, State.entry]
  shut _ := fun hm => absurd hm (by simp [State.inResetWith, Hub.reset])

theorem Confined.resetEnd {low : Bool} (h : exec (.resetEnd low) s = .next t) : Confined s t := by
  dsimp only [exec] at h
  unfold execResetEnd at h
  split at h
  · have running : Confined s { s with inReset := false } := (Confined.refl s).lessens (by simp [Lessens])
    have start {u : State} (hu : Confined s u) (d : Domain) : Confined s (u.startInit d) :=
      Confined.updLanes (hu.lessens (by simp [Lessens])) fun l r => by split <;> rfl
    rw [← Host.Outcome.next.inj h]
    exact (start (start (start running .app) .pay) .rad).lessens (by simp [Lessens])
  · cases h; exact Confined.refl s

/-- Every command but the take is confined. -/
theorem exec_confined {c : Instr} (hc : c ≠ .take) (h : exec c s = .next t) : Confined s t := by
  have h0 := Confined.refl s
  cases c
  case take => exact absurd rfl hc
  case powerOnReset => cases h; exact Confined.inResetWith ..
  case pinReset => cases h; exact Confined.inResetWith ..
  case resetEnd => exact Confined.resetEnd h
  case portAccess => exact Confined.portAccess h
  case attentionLanes d v => cases h; exact Confined.ite (fun _ => h0.writeAttention d v) fun _ => h0
  case selfAnnouncedRestart d => cases h; exact Confined.ite (fun _ => h0.selfRestart d) fun _ => h0
  case boardInitialisationComplete => exact Confined.boardInitialisationComplete h
  case acknowledge d v => cases h; exact Confined.ite (fun _ => h0.clearFlags d v) fun _ => h0
  case identityWrite d _ => cases h; exact Confined.ite (fun _ => h0.clearStray d) fun _ => h0
  case statusWrite => cases h; exact h0
  case refill => cases h; exact h0.lessens (by simp [Lessens])
  case delivery => exact Confined.delivery h
  case holdLimitDrop => exact Confined.drop (.inl h)
  case eventCellDrop => exact Confined.drop (.inr h)
  case expiry i => cases h; exact Confined.ite (fun _ => h0.expire i) fun _ => h0
  case unknownRequestCode => exact Confined.unknownRequestCode h
  case loadRoutes => cases h; exact Confined.serve fun _ m hu => Confined.addOutstanding (hu.lessens (by simp [Lessens])) _ m
  case loadRoutesCompletion => exact Confined.loadRoutesCompletion h
  case setPanes => cases h; exact Confined.serve fun _ m hu => ((hu.panel _).completeJobs _ _ _).addOutstanding _ m
  case scrollPane => cases h; exact Confined.serve fun _ m hu => (hu.panel _).addOutstanding _ m
  case setCalibration => cases h; exact Confined.serve fun _ m hu => (hu.touch _).complete _ _
  case setFocus => cases h; exact Confined.serve fun _ m hu => (hu.touch _).complete _ _
  case setLineMap => cases h; exact Confined.serve fun _ m hu => ((hu.setLine _ _).evaluateMismatch _ _).complete _ _
  case setCombiner =>
    cases h; exact Confined.serve fun _ m hu => Confined.complete (Confined.evaluate (hu.lessens (by simp [Lessens]))) _ _
  case driveLine => cases h; exact Confined.serve fun _ m hu => (hu.setLine _ _).complete _ _
  case driveLinePulse => cases h; exact Confined.serve fun _ m hu => (hu.setLine _ _).complete _ _
  case pulseEnd n => cases h; exact Confined.ite (fun _ => h0.setLine _ _) fun _ => h0
  case setNotices => cases h; exact Confined.serve fun _ m hu => Confined.complete (hu.lessens (by simp [Lessens])) _ _
  case domainResetHold => cases h; exact Confined.serve fun _ m hu => (hu.hold _).complete _ _
  case domainResetRelease =>
    cases h; exact Confined.serve fun _ m hu => ((hu.releaseDomain _).completeJobs _ _ _).complete _ _
  case domainResetPulse =>
    cases h; exact Confined.serve fun _ m hu => (Confined.updDom (hu.holdDomain _) _ _).addOutstanding _ m
  case pulseRelease d => cases h; exact Confined.ite (fun _ => (h0.releaseDomain d).completeJobs _ _ _) fun _ => h0
  case fenceLane =>
    cases h
    exact Confined.serve fun _ m hu => (Confined.ite (fun _ => hu) fun _ => hu.fenceLane _).complete _ _
  case restoreLane => cases h; exact Confined.serve fun _ m hu => (hu.restore _).complete _ _
  case setViolationLimit => cases h; exact Confined.serve fun _ m hu => (hu.updLane fun _ => by rfl).complete _ _
  case readCounters => cases h; exact Confined.serve fun _ m hu => (hu.updLane fun _ => by rfl).complete _ _
  case status => cases h; exact Confined.serve fun _ m hu => hu.complete _ _
  case resume =>
    cases h
    exact Confined.serve fun _ m hu => Confined.complete (hu.setMode (by split <;> simp)) _ _
  case restartHub =>
    cases h
    exact Confined.serve fun _ m hu => Confined.placeReply (hu.clearHub.evaluate.lessens (by simp [Lessens])) _ _ _ _
  case appFrameStart => exact Confined.panelCommand (by decide) h
  case appInputRow => exact Confined.appInputRow h
  case videoLoss => exact Confined.panelCommand (by decide) h
  case freeRunRowSlot => exact Confined.panelCommand (by decide) h
  case freeRunFrameEnd => exact Confined.panelCommand (by decide) h
  case reportReadyFall => exact Confined.touchCommand (.inl h)
  case touchReadCompletion => exact Confined.touchCommand (.inr ⟨_, _, h⟩)
  case keySense => exact Confined.keyCommand (.inl ⟨_, h⟩)
  case keyChangeAccepted => exact Confined.keyCommand (.inr ⟨_, h⟩)
  case lineSample => exact Confined.lineCommand (.inl ⟨_, h⟩)
  case filteredChange => exact Confined.lineCommand (.inr ⟨_, .inl h⟩)
  case settlingEnd => exact Confined.lineCommand (.inr ⟨_, .inr h⟩)

/-- Only a take opens a request, and admission holds it to the limit of its lane (R42). -/
theorem exec_bounds {c : Instr} (h : exec c s = .next t) : KeepsBounds s t := by
  by_cases hc : c = .take
  · subst hc; exact take_bounds h
  · exact (exec_confined hc h).bounds

end

/-- Settles O53: in LOCKDOWN admission takes nothing of an application lane and nothing for one (`take_bounds`), and every other
command is confined (`exec_confined`). -/
theorem appShutOutKept : Obligations.AppShutOutKept := by
  unfold Obligations.AppShutOutKept
  exact kept_of_exec (fun s rest => ((Confined.refl s).lessens (by simp [Lessens])).shut)
    (fun s => ((Confined.refl s).lessens (by simp [Lessens, State.tick])).shut) fun _ _ _ hs h => (exec_bounds h).shut hs

/-- Settles O58: a REQUEST is accepted with its lane below its limit (`take_bounds`), and every other command is confined
(`exec_confined`). -/
theorem requestsBoundedKept : Obligations.RequestsBoundedKept := by
  unfold Obligations.RequestsBoundedKept
  exact kept_of_exec (fun s rest => ((Confined.refl s).lessens (by simp [Lessens])).bounds.requests)
    (fun s => ((Confined.refl s).lessens (by simp [Lessens, State.tick])).bounds.requests)
    fun _ _ _ hs h => (exec_bounds h).requests hs

end Sys2Proof.Machine

/-! PROOFS. Steps 5 to 7 of admission (O18). -/

namespace Sys2Proof.Machine

section
variable {s : State} {l : Lane} {k : Kind} {a : Address} {m : Slot}

theorem isApp_of_domainCode_ne (h : a.domainCode ≠ 1) : a.isApp = false := by
  cases a <;> simp_all [Address.domainCode, Address.isApp]

/-- What the hub mode lets pass of REQUESTs and NOTICEs (R39). -/
theorem modeRefusal_eq_none (hb : s.hub.mode = .boot → k = .request ∧ a = .hub)
    (hl : s.hub.mode = .lockdown → l.isApp = false ∧ a.isApp = false) : s.modeRefusal l k a = none := by
  unfold State.modeRefusal
  split
  · next hm => exact if_pos (hb hm)
  · rfl
  · next hm => obtain ⟨h1, h2⟩ := hl hm; simp [h1, h2]

/-! ## The route -/

theorem routeWith_eq_none {src : RouteSource} (h : ∀ e ∈ s.routes, ¬(e.source = src ∧ e.target = a)) :
    s.routeWith src a = none :=
  List.findIdx?_eq_none_iff.2 fun e he => by simpa using h e he

theorem lookup_eq_none (h : ∀ e ∈ s.routes, e.target = a → e.source ≠ .lane l ∧ ¬(l.isApp = true ∧ e.source = .anyApp)) :
    s.lookup l a = none := by
  have own : s.routeWith (.lane l) a = none := routeWith_eq_none fun e he hk => (h e he hk.2).1 hk.1
  have any (hl : l.isApp = true) : s.routeWith .anyApp a = none :=
    routeWith_eq_none fun e he hk => (h e he hk.2).2 ⟨hl, hk.1⟩
  simp only [State.lookup, own]
  split
  · exact any ‹_›
  · rfl

/-- The lookup finds the first exact entry, or else, for an application lane, the first A* entry (R35). -/
theorem lookup_eq_some {i : Nat} {e : Route} (he : s.routes[i]? = some e) (ht : e.target = a)
    (hfirst : ∀ j f, j < i → s.routes[j]? = some f → ¬(f.source = e.source ∧ f.target = a))
    (hs : e.source = .lane l ∨ (e.source = .anyApp ∧ l.isApp = true ∧ ∀ f ∈ s.routes, ¬(f.source = .lane l ∧ f.target = a))) :
    s.lookup l a = some i := by
  have found : s.routeWith e.source a = some i := findIdx_route _ _ _ _ _ he rfl ht hfirst
  rcases hs with hs | ⟨hs, hl, hn⟩ <;> rw [hs] at found
  · simp only [State.lookup, found]
  · simp only [State.lookup, routeWith_eq_none hn, hl, if_true, found]

theorem targetDown_iff : s.targetDown a = true ↔
    (∃ x, a = .app x ∧ ((s.dom .app).status ≠ .up ∨ (s.lane (.app x)).fenced = true))
    ∨ (∃ v, a = .pay v ∧ (s.dom .pay).status ≠ .up) ∨ ∃ v, a = .rad v ∧ (s.dom .rad).status ≠ .up := by
  cases a <;> simp [State.targetDown, State.isUp]

theorem judgeRoute_of_lookup_none {n : Nat} (hl : s.lookup l a = none) : s.judgeRoute l k a n = .error .noRoute := by
  simp only [State.judgeRoute, hl]

/-- The tests of an entry that the lookup has found, in order (R41). -/
theorem judgeRoute_of_lookup {n i : Nat} {e : Route} (hl : s.lookup l a = some i) (he : s.routes[i]? = some e) :
    s.judgeRoute l k a n = if e.allows k = false then .error .badKind else if e.requestLimit < n then .error .tooLong
      else if s.targetDown a = true then .error .targetDown else .ok i := by
  simp only [State.judgeRoute, hl, he, Bool.not_eq_true']

/-! ## Room and budget -/

theorem roomRefusal_of_limit (h : l.requestLimit ≤ s.openRequests l) : s.roomRefusal l = some .limit := if_pos h

theorem roomRefusal_of_full (h : s.openRequests l < l.requestLimit)
    (hf : ∀ n, (s.entry n).state ≠ .free ∧ ∀ x, (s.entry n).state ≠ .lapsed x) : s.roomRefusal l = some .noExchange := by
  rw [State.roomRefusal, if_neg (Nat.not_le.2 h), (claimable_eq_none s).2 hf]; rfl

theorem budgetRefusal_of_route {i : Nat} {e : Route} (he : s.routes[i]? = some e) :
    s.budgetRefusal i = e.budget.bind fun g => if g.level = 0 then some .budget else none := by
  simp only [State.budgetRefusal, he, Option.bind_some]
  cases e.budget <;> rfl

/-! ## The steps of a REQUEST and of a NOTICE -/

theorem judgeKind_of_routeError {o : TakeOutcome} (hk : k ≠ .answer) (ha : a ≠ .hub)
    (h : s.judgeRoute l k a m.length = .error o) : s.judgeKind l m k a = .refuse o := by
  cases k with
  | request => simp only [State.judgeKind, State.judgeRequest, if_neg ha, h]
  | notice => simp only [State.judgeKind, State.judgeNotice, if_neg ha, h]
  | answer => exact absurd rfl hk

theorem judgeKind_of_room {o : TakeOutcome} (ho : s.roomRefusal l = some o)
    (h : a = .hub ∨ ∃ i, s.judgeRoute l .request a m.length = .ok i) : s.judgeKind l m .request a = .refuse o := by
  by_cases ha : a = .hub
  · simp only [State.judgeKind, State.judgeRequest, if_pos ha, ho]
  · obtain ⟨i, hi⟩ := h.resolve_left ha
    simp only [State.judgeKind, State.judgeRequest, if_neg ha, hi, ho]

theorem judgeKind_of_budget {i : Nat} (hk : k ≠ .answer) (ha : a ≠ .hub) (hi : s.judgeRoute l k a m.length = .ok i)
    (hr : k = .request → s.roomRefusal l = none) (ho : s.budgetRefusal i = some .budget) :
    s.judgeKind l m k a = .refuse .budget := by
  cases k with
  | request => simp only [State.judgeKind, State.judgeRequest, if_neg ha, hi, hr rfl, ho]
  | notice => simp only [State.judgeKind, State.judgeNotice, if_neg ha, hi, ho]
  | answer => exact absurd rfl hk

/-- What finds its route, room and budget is accepted. -/
theorem judgeKind_of_accepted {i : Nat} (hk : k ≠ .answer) (ha : a ≠ .hub) (hi : s.judgeRoute l k a m.length = .ok i)
    (hr : k = .request → s.roomRefusal l = none) (ho : s.budgetRefusal i = none) :
    s.judgeKind l m k a = if k = .request then .request a (some i) else .notice a i := by
  cases k with
  | request => simp only [State.judgeKind, State.judgeRequest, if_neg ha, hi, hr rfl, ho, if_true]
  | notice => simp only [State.judgeKind, State.judgeNotice, if_neg ha, hi, ho, reduceCtorEq, if_false]
  | answer => exact absurd rfl hk

end

theorem openRequests_eq_match (s : State) (l : Lane) :
    s.openRequests l = (List.finRange 48).countP fun i => match (s.entry i).state with
      | .posted x | .awaited x | .closing x _ _ => decide (x.requester = l)
      | .free | .lapsed _ => false := by
  refine List.countP_congr fun i _ => ?_
  cases (s.entry i).state <;> rfl

/-- Settles O18: what step 3 lets pass is judged by the steps of its kind (`judge_of_passes`), each of which is read off. -/
theorem routeSteps : Obligations.RouteSteps := by
  unfold Obligations.RouteSteps
  refine ⟨⟨fun _ => rfl, rfl, rfl⟩, fun _ => ⟨rfl, rfl⟩, openRequests_eq_match, ?_⟩
  intro s l m k a down hdown hkind hk hlen ha hfence hboot hlock
  obtain ⟨hdomain, -⟩ := (address_decode_eq_some _ _ _).1 ha
  have passes : s.modeRefusal l k a = none :=
    modeRefusal_eq_none hboot fun h => (hlock h).imp_right fun hd => isApp_of_domainCode_ne (hdomain ▸ hd)
  rw [judge_of_passes hkind hlen ha hfence passes]
  have down_iff : s.targetDown a = true ↔ down := targetDown_iff.trans hdown.symm
  refine ⟨?_, ?_, ?_, ?_, ?_⟩
  · rintro rfl rfl; rfl
  · rintro rfl rfl hr
    exact judgeKind_of_room (roomRefusal_of_limit hr) (.inl rfl)
  · rintro rfl rfl hr
    refine ⟨fun hf => ?_, fun hf => judgeKind_of_room (roomRefusal_of_full hr hf) (.inl rfl)⟩
    simp only [State.judgeKind, State.judgeRequest, if_true, roomRefusal_eq_none hr hf]
  · intro hub hn
    exact judgeKind_of_routeError hk hub (judgeRoute_of_lookup_none (lookup_eq_none hn))
  · intro i e hub he ht hfirst hs
    have tests := judgeRoute_of_lookup (k := k) (n := m.length) (lookup_eq_some he ht hfirst hs) he
    refine ⟨fun hn => ?_, fun hy hlong => ?_, fun hy hfit hd => ?_, fun hy hfit hd => ?_⟩
    · exact judgeKind_of_routeError hk hub (by rw [tests, if_pos hn])
    · exact judgeKind_of_routeError hk hub (by simp [tests, hy, hlong])
    · exact judgeKind_of_routeError hk hub (by simp [tests, hy, Nat.not_lt.2 hfit, down_iff.2 hd])
    · have ok : s.judgeRoute l k a m.length = .ok i := by simp [tests, hy, Nat.not_lt.2 hfit, mt down_iff.1 hd]
      refine ⟨?_, ?_, fun hroom => ?_⟩
      · rintro rfl hr
        exact judgeKind_of_room (roomRefusal_of_limit hr) (.inr ⟨i, ok⟩)
      · rintro rfl hr hf
        exact judgeKind_of_room (roomRefusal_of_full hr hf) (.inr ⟨i, ok⟩)
      · have room : k = .request → s.roomRefusal l = none := fun h => roomRefusal_eq_none (hroom h).1 (hroom h).2
        refine ⟨fun g hg h0 => judgeKind_of_budget hk hub ok room ?_, fun h1 => judgeKind_of_accepted hk hub ok room ?_⟩
        · simp [budgetRefusal_of_route he, hg, h0]
        · rw [budgetRefusal_of_route he, Option.bind_eq_none_iff]
          exact fun g hg => if_neg (Nat.pos_iff_ne_zero.1 (h1 g hg))

end Sys2Proof.Machine

/-! PROOFS. LOAD ROUTES (O27). -/

namespace Sys2Proof.Machine

/-! ## The judgement of an image -/

/-- Two entries of a table have different keys (R35). -/
def Route.OtherKey (r r' : Route) : Prop := ¬(r.source = r'.source ∧ r.target = r'.target)

section
variable {now : Nat} {r : Route} {done table : List Route} {es before behind : List (List Byte)} {e : List Byte}

theorem any_sameKey : done.any r.sameKey = true ↔ ∃ r' ∈ done, r'.source = r.source ∧ r'.target = r.target := by
  simp only [List.any_eq_true, Route.sameKey, Bool.and_eq_true, decide_eq_true_eq]
  exact exists_congr fun _ => and_congr_right fun _ => and_congr eq_comm eq_comm

theorem pairwise_snoc : (done ++ [r]).Pairwise Route.OtherKey ↔ done.Pairwise Route.OtherKey ∧ done.any r.sameKey = false := by
  rw [Bool.eq_false_iff, Ne, any_sameKey]
  simp [List.pairwise_append, Route.OtherKey]

theorem judgeEntries_of_fault (h : imageRoute e now = none ∨ ∃ r, imageRoute e now = some r ∧ done.any r.sameKey = true) :
    judgeEntries now done (e :: behind) = .error done.length := by
  rcases h with h | ⟨r, h, hd⟩
  · simp only [judgeEntries, h]
  · simp only [judgeEntries, h, hd, if_true]

theorem judgeEntries_of_sound (h : imageRoute e now = some r) (hd : done.any r.sameKey = false) :
    judgeEntries now done (e :: behind) = judgeEntries now (done ++ [r]) behind := by
  simp only [judgeEntries, h, hd, Bool.false_eq_true, if_false]

/-- Entries that make routes of new keys are judged into the table. -/
theorem judgeEntries_append (hb : before.map (fun e => imageRoute e now) = table.map some)
    (ht : (done ++ table).Pairwise Route.OtherKey) :
    judgeEntries now done (before ++ behind) = judgeEntries now (done ++ table) behind := by
  induction before generalizing done table with
  | nil =>
    obtain rfl : table = [] := by simpa using hb.symm
    simp
  | cons e before ih =>
    obtain ⟨r, table, rfl⟩ : ∃ r t, table = r :: t := by cases table <;> simp_all
    obtain ⟨hr, hb⟩ := List.cons.inj hb
    have ht : ((done ++ [r]) ++ table).Pairwise Route.OtherKey := by simpa using ht
    have key := (pairwise_snoc.1 (List.pairwise_append.1 ht).1).2
    rw [List.cons_append, judgeEntries_of_sound hr key, ih hb ht, List.append_assoc, List.singleton_append]

/-- A table is judged where every entry makes a route, of a key of its own (R53). -/
theorem routes_of_judgeEntries (hd : done.Pairwise Route.OtherKey) (h : judgeEntries now done es = .ok table) :
    ∃ new, table = done ++ new ∧ es.map (fun e => imageRoute e now) = new.map some ∧ table.Pairwise Route.OtherKey := by
  induction es generalizing done with
  | nil => cases h; exact ⟨[], by simp, rfl, hd⟩
  | cons e es ih =>
    cases hr : imageRoute e now with
    | none => rw [judgeEntries_of_fault (.inl hr)] at h; cases h
    | some r =>
      cases key : done.any r.sameKey with
      | true => rw [judgeEntries_of_fault (.inr ⟨r, hr, key⟩)] at h; cases h
      | false =>
        rw [judgeEntries_of_sound hr key] at h
        obtain ⟨new, rfl, hn, ht⟩ := ih (pairwise_snoc.2 ⟨hd, key⟩) h
        exact ⟨r :: new, by simp, by simp [hr, hn], ht⟩

theorem judgeEntries_eq_ok : judgeEntries now [] es = .ok table ↔
    es.map (fun e => imageRoute e now) = table.map some ∧ table.Pairwise Route.OtherKey := by
  refine ⟨fun h => ?_, fun ⟨hm, ht⟩ => ?_⟩
  · obtain ⟨new, rfl, hm, ht⟩ := routes_of_judgeEntries .nil h
    exact ⟨hm, ht⟩
  · simpa [judgeEntries] using judgeEntries_append (done := []) (behind := []) hm ht

/-- The index of the first entry that fails by a field or by its key (R53). -/
theorem judgeEntries_eq_error (hb : before.map (fun e => imageRoute e now) = table.map some) (ht : table.Pairwise Route.OtherKey)
    (he : imageRoute e now = none ∨ ∃ r, imageRoute e now = some r ∧ ∃ r' ∈ table, r'.source = r.source ∧ r'.target = r.target) :
    judgeEntries now [] (before ++ e :: behind) = .error before.length := by
  have same : table.length = before.length := by simpa using (congrArg List.length hb).symm
  rw [judgeEntries_append (done := []) hb ht, List.nil_append,
    judgeEntries_of_fault (he.imp_right fun ⟨r, h, hk⟩ => ⟨r, h, any_sameKey.2 hk⟩), same]

end

/-! ## The fields of a record -/

section
variable {e : List Byte} {now : Nat} {r : Route}

theorem routeSource_ofCode (c : Nat) (x : RouteSource) : RouteSource.ofCode c = some x ↔
    (c = 15 ∧ x = .anyApp) ∨ ∃ l, Lane.ofCode c = some l ∧ x = .lane l := by
  unfold RouteSource.ofCode
  split
  · next h => subst h; simp [Lane.ofCode, eq_comm]
  · next h => simp [h, eq_comm]

theorem imageBudget_eq_some (b : Option Budget) : imageBudget e now = some b ↔
    (byteAt e 10 = 0 ∧ b = none) ∨ (byteAt e 10 = 1 ∧ 1 ≤ byteAt e 11 ∧ 1 ≤ halfAt e 12
      ∧ b = some ⟨byteAt e 11, halfAt e 12, byteAt e 11, now⟩) := by
  unfold imageBudget
  split
  · next h => simp [h, eq_comm]
  · next h =>
    split
    · next hs => simp [hs, eq_comm]
    · next hs => simp only [h, reduceCtorEq, false_and, false_or, false_iff]; tauto

/-- The route of a record, field by field (R53). -/
theorem imageRoute_eq_some : imageRoute e now = some r ↔
    RouteSource.ofCode (byteAt e 0) = some r.source ∧ Address.decode (byteAt e 1) (byteAt e 2) = some r.target
      ∧ imageBudget e now = some r.budget ∧ r.target ≠ .hub ∧ (bitAt e 3 0 || bitAt e 3 1) = true
      ∧ (halfAt e 4 ≤ Config.maxPayload ∧ halfAt e 6 ≤ Config.maxPayload)
      ∧ r.requestAllowed = bitAt e 3 0 ∧ r.noticeAllowed = bitAt e 3 1 ∧ r.requestLimit = halfAt e 4
      ∧ r.answerLimit = halfAt e 6 ∧ r.deadline = clampDeadline (halfAt e 8) := by
  obtain ⟨source, target, requests, notices, requestLimit, answerLimit, deadline, budget⟩ := r
  unfold imageRoute
  constructor
  · intro h
    split at h
    · split at h
      · next hs => cases h; simp_all
      · cases h
    · cases h
  · rintro ⟨hs, ht, hb, hub, hk, ⟨h4, h6⟩, rfl, rfl, rfl, rfl, rfl⟩
    simp only [hs, ht, hb]
    exact if_pos ⟨hub, hk, h4, h6⟩

end

/-! ## The request -/

section
variable {s : State} {m : Message}

theorem hubTake_pay : (s.hubTake m).pay = s.pay := show (s.hubTake m).dom .pay = s.dom .pay by simp

/-- The image is read in the event of the take (R52). -/
theorem exec_loadRoutes {rest : List Byte} (h : HubTakes s m) (hp : m.payload = 0x01#8 :: rest) (hl : 2 ≤ m.payload.length)
    (hs : m.sender = .pay) : exec .loadRoutes s = .next { s.awaits m .loadRoutes with
      hub := { (s.awaits m .loadRoutes).hub with loading := some ⟨readImage s.pay.window, s.now⟩ } } := by
  have code : hasCode 0x01 m.payload = true := by rw [hp]; exact hasCode_of_head (code := 0x01) (by decide) rest
  have run := serve_run h loadRoutesRequest code (by rw [hs]; rfl) rfl hl rfl rfl
  refine congrArg Host.Outcome.next (run.trans ?_)
  have now : (s.hubTake m).now = s.now := (s.hubTake_frame m).1
  rw [← hubTake_pay (m := m), ← now]
  rfl

theorem exec_loadRoutesCompletion_ok {job : Loading} {table : List Route} (hj : s.hub.loading = some job)
    (ht : job.image.judge s.now = .ok table) : exec .loadRoutesCompletion s =
      .next ((State.installRoutes { s with hub := { s.hub with loading := none } } table).completeJobs .loadRoutes .done 0) := by
  simp only [exec, execLoadRoutesCompletion, hj, ht]

theorem exec_loadRoutesCompletion_error {job : Loading} {detail : Nat} (hj : s.hub.loading = some job)
    (ht : job.image.judge s.now = .error detail) : exec .loadRoutesCompletion s =
      .next (State.completeJobs { s with hub := { s.hub with loading := none } } .loadRoutes .parameter detail) := by
  simp only [exec, execLoadRoutesCompletion, hj, ht]

end

/-- Settles O27: the take (`exec_loadRoutes`), the completion by the judgement of the image, the judgement by induction over its
entries (`judgeEntries_eq_ok`, `judgeEntries_eq_error`), and a record's fields (`imageRoute_eq_some`). -/
theorem loadRoutes : Obligations.LoadRoutes := by
  unfold Obligations.LoadRoutes
  refine ⟨⟨?_, ?_⟩, ?_, ?_⟩
  · rintro s m rest count t h hp hl hs rfl rfl
    exact exec_loadRoutes h hp hl hs
  · intro s job hj
    refine ⟨fun table ht => ⟨_, rfl, ?_⟩, fun detail ht => exec_loadRoutesCompletion_error hj ht⟩
    rw [exec_loadRoutesCompletion_ok hj ht]
    by_cases hb : s.hub.mode = .boot <;> simp [State.installRoutes, State.setMode, hb]
  · intro image now
    have judge (hc : image.count ≤ 64) : image.judge now = judgeEntries now [] image.entries := if_neg (Nat.not_lt.2 hc)
    refine ⟨fun hc => if_pos hc, fun hc table => ?_, fun hc before behind e table hi hb ht he => ?_⟩
    · rw [judge hc]; exact judgeEntries_eq_ok
    · rw [judge hc, hi]; exact judgeEntries_eq_error hb ht he
  · intro e now r
    rw [imageRoute_eq_some, routeSource_ofCode, imageBudget_eq_some]
    simp only [bitAt, halfAt, Config.maxPayload, clampDeadline, Bool.or_eq_true]
    constructor
    · rintro ⟨source, target, budget, hub, kinds, ⟨h4, h6⟩, requests, notices, requestLimit, answerLimit, deadline⟩
      rw [requests, notices, requestLimit, answerLimit]
      exact ⟨source, ⟨target, hub⟩, ⟨rfl, rfl⟩, kinds, ⟨rfl, h4⟩, ⟨rfl, h6⟩, deadline, budget⟩
    · rintro ⟨source, ⟨target, hub⟩, ⟨requests, notices⟩, kinds, ⟨requestLimit, h4⟩, ⟨answerLimit, h6⟩, deadline, budget⟩
      rw [requests, notices] at kinds
      rw [requestLimit] at h4
      rw [answerLimit] at h6
      exact ⟨source, target, budget, hub, kinds, ⟨h4, h6⟩, requests, notices, requestLimit, answerLimit, deadline⟩

end Sys2Proof.Machine

/-! PROOFS. DRIVE LINE, the end of a pulse and the driven level (O31). -/

namespace Sys2Proof.Machine

/-! ## The take of a hub request and the line unit -/

theorem hubAwaits_setLine (s : State) (n : Fin 12) (r : Line) (tag : Nat) :
    (s.setLine n r).hubAwaits tag = (s.hubAwaits tag).setLine n r := by
  have find : (s.setLine n r).findTag tag = s.findTag tag := rfl
  have entry : ∀ i, (s.setLine n r).entry i = s.entry i := fun _ => rfl
  unfold State.hubAwaits
  rw [find]
  cases s.findTag tag with
  | none => rfl
  | some i =>
    dsimp only
    rw [entry]
    cases (s.entry i).state with
    | posted x => dsimp only; split <;> rfl
    | free | awaited | closing | lapsed => rfl

/-- A change of a line is the same before and after the take. -/
theorem hubTake_setLine (s : State) (m : Message) (n : Fin 12) (r : Line) :
    (s.setLine n r).hubTake m = (s.hubTake m).setLine n r := by
  rw [State.hubTake, State.hubTake, ← hubAwaits_setLine]
  rfl

theorem hubTake_setOutput (s : State) (m : Message) (n : Fin 12) (o : OutputState) :
    (s.hubTake m).setOutput n o = (s.setLine n { s.line n with output := o }).hubTake m := by
  rw [hubTake_setLine, State.setOutput]; simp

/-! ## The two rows of DRIVE LINE -/

/-- What the two rows of DRIVE LINE have in common. -/
def IsDriveLine (q : HubRequest) : Prop :=
  q.code = 0x08 ∧ q.issuer = firstLanes ∧ q.available = anyMode ∧ (q.length = fun _ => 6) ∧ q.refused = driveRefused

theorem isDriveLine_level : IsDriveLine driveLineRequest := ⟨rfl, rfl, rfl, rfl, rfl⟩
theorem isDriveLine_pulse : IsDriveLine driveLinePulseRequest := ⟨rfl, rfl, rfl, rfl, rfl⟩

section
variable {s : State} {m : Message} {n : Fin 12} {q : HubRequest}

theorem lineOf_eq {p : List Byte} (h : byteAt p 2 = n.val) : lineOf p = n := by
  simp [lineOf, h]

theorem driveRefused_eq (h : byteAt m.payload 2 = n.val) : driveRefused (s.hubTake m) m =
    if (s.line n).entry.owner ≠ some m.sender.domain then some (.authority, 0)
    else if (s.line n).entry.out = false then some (.parameter, 0) else none := by
  simp [driveRefused, lineOf_eq h]

section
variable (hq : IsDriveLine q) (ht : HubTakes s m) (hk : q.takes m.payload = true) (hs : m.sender ∈ [.app 0, .pay, .rad])
  (hl : 6 ≤ m.payload.length)
include hq ht hk hs hl

/-- A field at fault is answered PARAMETER (R33). -/
theorem serve_driveLine_badField (hb : q.badField m.payload = some 0) : q.serve s = s.answered m [4#8, 8#8, 0#8, 0#8] := by
  obtain ⟨code, issuer, available, length, -⟩ := hq
  rw [serve_badField ht q hk (by rw [issuer, firstLanes_eq]; exact decide_eq_true hs) (by rw [available]; rfl)
    (by rw [length]; exact hl) hb, code]
  rfl

/-- The line decides what becomes of a request whose fields are listed (R155). -/
theorem serve_driveLine (hb : q.badField m.payload = none) (hn : byteAt m.payload 2 = n.val) : q.serve s =
    if (s.line n).entry.owner ≠ some m.sender.domain then ((s.hubTake m).violate m.sender).complete m.tag [2#8, 8#8, 0#8, 0#8]
    else if (s.line n).entry.out = false then s.answered m [4#8, 8#8, 0#8, 0#8]
    else q.run (s.hubTake m) m := by
  obtain ⟨code, issuer, available, length, refused⟩ := hq
  have hi : q.issuer m.sender = true := by rw [issuer, firstLanes_eq]; exact decide_eq_true hs
  have ha : q.available s.hub.mode = true := by rw [available]; rfl
  have hl : q.length m.payload ≤ m.payload.length := by rw [length]; exact hl
  have refused : q.refused (s.hubTake m) m = _ := (congrFun (congrFun refused _) _).trans (driveRefused_eq hn)
  by_cases ho : (s.line n).entry.owner = some m.sender.domain
  · rw [if_neg (not_not.2 ho)] at refused ⊢
    by_cases hd : (s.line n).entry.out = false
    · rw [serve_refused ht q hk hi ha hl hb (refused.trans (if_pos hd)), code, if_pos hd]
      rfl
    · rw [serve_run ht q hk hi ha hl hb (refused.trans (if_neg hd)), if_neg hd]
  · rw [serve_refused ht q hk hi ha hl hb (refused.trans (if_pos ho)), code, if_pos ho]
    rfl

end
end

section
variable {s : State} {m : Message} {n : Fin 12} {rest : List Byte}

theorem takes_driveLine (hp : m.payload = 0x08#8 :: rest) : driveLineRequest.takes m.payload = decide (byteAt m.payload 3 ≠ 3) := by
  have code : hasCode 0x08 m.payload = true := by rw [hp]; exact hasCode_of_head (code := 0x08) (by decide) rest
  simp [driveLineRequest, code, isPulse]

theorem takes_driveLinePulse (hp : m.payload = 0x08#8 :: rest) :
    driveLinePulseRequest.takes m.payload = decide (byteAt m.payload 3 = 3) := by
  have code : hasCode 0x08 m.payload = true := by rw [hp]; exact hasCode_of_head (code := 0x08) (by decide) rest
  simp [driveLinePulseRequest, code, isPulse]

theorem run_driveLine (hn : byteAt m.payload 2 = n.val) : driveLineRequest.run (s.hubTake m) m =
    State.answered (s.setLine n { s.line n with output := .driven (decide (byteAt m.payload 3 = 1)) }) m [1#8, 8#8, 0#8, 0#8] := by
  simp only [driveLineRequest, lineOf_eq hn, hubTake_setOutput]
  rfl

theorem run_driveLinePulse (hn : byteAt m.payload 2 = n.val) : driveLinePulseRequest.run (s.hubTake m) m =
    State.answered (s.setLine n { s.line n with output := .pulsing (s.now + halfAt m.payload 4 * 1000) }) m
      [1#8, 8#8, 0#8, 0#8] := by
  have now : (s.hubTake m).now = s.now := (s.hubTake_frame m).1
  simp only [driveLinePulseRequest, lineOf_eq hn, hubTake_setOutput, now]
  rfl

end

/-- Settles O31: the two rows of DRIVE LINE by the line that the request names (`serve_driveLine`), a change of a line being the
same before and after the take (`hubTake_setLine`). -/
theorem linesDriven : Obligations.LinesDriven := by
  unfold Obligations.LinesDriven
  refine ⟨?_, ?_, ?_, ?_⟩
  · rintro s m rest _ n ht rfl hs hp hl hn
    have level (ha : byteAt m.payload 3 = 1 ∨ byteAt m.payload 3 = 2) := by
      refine serve_driveLine isDriveLine_level ht ?_ hs hl ?_ hn
      · rw [takes_driveLine hp]; exact decide_eq_true (by omega)
      · simp [driveLineRequest, badItem, hn, ha, Nat.le_of_lt_succ n.isLt]
    have pulse (ha : byteAt m.payload 3 = 3) (h1 : 1 ≤ pulseLengthOf m.payload) (h2 : pulseLengthOf m.payload ≤ 1000) := by
      refine serve_driveLine isDriveLine_pulse ht ?_ hs hl ?_ hn
      · rw [takes_driveLinePulse hp]; exact decide_eq_true ha
      · simp [driveLinePulseRequest, badItem, hn, h1, h2, Nat.le_of_lt_succ n.isLt]
    refine ⟨fun ho hd => ?_, ?_⟩
    · have driven (ha : byteAt m.payload 3 = 1 ∨ byteAt m.payload 3 = 2) := (level ha).trans
        ((if_neg (not_not.2 ho)).trans ((if_neg (by simp [hd])).trans (run_driveLine hn)))
      refine ⟨fun ha => ?_, fun ha => ?_, ?_⟩
      · exact congrArg Host.Outcome.next ((driven (.inl ha)).trans (by simp [ha]))
      · exact congrArg Host.Outcome.next ((driven (.inr ha)).trans (by simp [ha]))
      · rintro _ ha rfl h1 h2
        exact congrArg Host.Outcome.next ((pulse ha h1 h2).trans
          ((if_neg (not_not.2 ho)).trans ((if_neg (by simp [hd])).trans (run_driveLinePulse hn))))
    · rintro c (⟨rfl, ha⟩ | ⟨rfl, ha, h1, h2⟩)
      · exact ⟨fun ho => congrArg Host.Outcome.next ((level ha).trans (if_pos ho)),
          fun ho hd => congrArg Host.Outcome.next ((level ha).trans ((if_neg (not_not.2 ho)).trans (if_pos hd)))⟩
      · exact ⟨fun ho => congrArg Host.Outcome.next ((pulse ha h1 h2).trans (if_pos ho)),
          fun ho hd => congrArg Host.Outcome.next ((pulse ha h1 h2).trans ((if_neg (not_not.2 ho)).trans (if_pos hd)))⟩
  · rintro s m rest _ ht rfl hs hp hl
    refine ⟨fun ha hb => congrArg Host.Outcome.next ?_, fun ha hb => congrArg Host.Outcome.next ?_⟩
    · refine serve_driveLine_badField isDriveLine_level ht ?_ hs hl ?_
      · rw [takes_driveLine hp]; exact decide_eq_true ha
      · refine if_neg ?_
        simp only [Bool.and_eq_true, Bool.or_eq_true, decide_eq_true_eq]
        omega
    · refine serve_driveLine_badField isDriveLine_pulse ht ?_ hs hl ?_
      · rw [takes_driveLinePulse hp]; exact decide_eq_true ha
      · have length : pulseLengthOf m.payload = byteAt m.payload 4 + 256 * byteAt m.payload 5 := rfl
        refine if_neg ?_
        simp only [Bool.and_eq_true, decide_eq_true_eq]
        omega
  · intro s n ends ho he
    exact congrArg Host.Outcome.next (if_pos (by simp [OutputState.ended, ho, he]))
  · intro n
    refine ⟨fun h => by simp [Line.driven, h], fun h => ?_⟩
    simp only [Line.driven, h, if_true]
    cases n.output <;> rfl

end Sys2Proof.Machine

/-! PROOFS. Violations, and the fence and the entry into LOCKDOWN that one violation brings (O12). -/

namespace Sys2Proof.Machine

/-! ## The charge and the fence by the tally -/

/-- The counter and the tally of a violation (R48). -/
def State.chargeViolation (s : State) (l : Lane) : State :=
  s.updLane l fun r => { r with violations := bump r.violations, tally := bumpByte r.tally }

/-- The fence of a lane by its tally, before VIOL is looked at; a lane that is fenced already is marked alone (R49, R117). -/
def State.autoFencing (s : State) (l : Lane) : State :=
  (if (s.lane l).fenced then s else s.fenceLane l).updLane l fun r => { r with autoFenced := true }

section
variable {s : State} {l : Lane}

/-- The tally reaches a limit of 1 to 255 in this violation (R49). -/
def LimitReached (r : LaneState) : Prop := r.tally + 1 = r.limit ∧ r.limit ≤ 255

theorem limitReached_iff {r : LaneState} :
    (r.limit ≠ 0 ∧ r.tally < r.limit ∧ bumpByte r.tally = r.limit) ↔ LimitReached r := by
  unfold LimitReached bumpByte
  omega

theorem violate_of_limit (hl : l ≠ .pay) (h : LimitReached (s.lane l)) :
    s.violate l = State.evaluateViol (s.chargeViolation l) ((s.chargeViolation l).autoFencing l) :=
  if_pos ⟨hl, limitReached_iff.2 h⟩

theorem violate_of_no_limit (h : ¬(l ≠ .pay ∧ LimitReached (s.lane l))) : s.violate l = s.chargeViolation l :=
  if_neg (mt (And.imp_right limitReached_iff.1) h)

@[simp] theorem chargeViolation_fenced (s : State) (l k : Lane) : ((s.chargeViolation l).lane k).fenced = (s.lane k).fenced := by
  by_cases h : k = l
  · subst h; simp [State.chargeViolation]
  · simp [State.chargeViolation, h]

@[simp] theorem chargeViolation_fifo (s : State) (l k : Lane) : ((s.chargeViolation l).lane k).fifo = (s.lane k).fifo := by
  by_cases h : k = l
  · subst h; simp [State.chargeViolation]
  · simp [State.chargeViolation, h]

@[simp] theorem chargeViolation_entry (s : State) (l : Lane) (i : Fin 48) : (s.chargeViolation l).entry i = s.entry i := by
  simp [State.chargeViolation]

@[simp] theorem chargeViolation_hub (s : State) (l : Lane) : (s.chargeViolation l).hub = s.hub := by
  simp [State.chargeViolation]

end

/-! ## A loss of lanes and the entry into LOCKDOWN in one event -/

/-- What a loss of the lanes that `gone` picks leaves of the exchanges of a lane that stays: those that wait for them have gone to
CLOSING where the lane can be told, and the others wait as they did (R90). -/
structure Bereaves (gone : Lane → Bool) (k : Lane) (was v : State) : Prop where
  outstanding : v.hub.outstanding = was.hub.outstanding
  concludes : v.concludes k = was.concludes k
  closes : ∀ i x, (was.entry i).state.waits? = some x → x.requester = k → x.answeredBy gone = true → was.concludes k = true →
    ∃ c late, (v.entry i).state = .closing x c late
  waits : ∀ i x, x.requester = k →
    ((v.entry i).state.waits? = some x ↔ (was.entry i).state.waits? = some x ∧ x.answeredBy gone = false)

section
variable {gone : Lane → Bool} {k : Lane} {was v : State}

/-- A loss of lanes makes no exchange wait anew. -/
theorem waits_of_entryRemoved {s : State} {fence : Bool} {e : ExchangeEntry} {x : Exchange}
    (h : (s.entryRemoved gone fence e).state.waits? = some x) : e.state.waits? = some x := by
  unfold State.entryRemoved at h
  cases he : e.state with
  | free => rw [he] at h; simp [he] at h
  | posted y | awaited y | closing y c late | lapsed y =>
    rw [he] at h
    dsimp only at h
    split_ifs at h <;> simp_all

/-- An exchange of a requester that stays waits on where its responder stays, at a fence too (R89, R90). -/
theorem waits_entryRemoved_of_staying {s : State} (fence : Bool) (e : ExchangeEntry) {x : Exchange} (hg : gone x.requester = false) :
    (s.entryRemoved gone fence e).state.waits? = some x ↔ e.state.waits? = some x ∧ x.answeredBy gone = false := by
  refine ⟨fun h => ⟨waits_of_entryRemoved h, ?_⟩, fun ⟨hw, ha⟩ => ?_⟩
  · by_contra ha
    rw [Bool.not_eq_false] at ha
    rcases waits_eq_some.1 (waits_of_entryRemoved h) with he | he <;> simp [State.entryRemoved, he, hg, ha] at h
  · rcases waits_eq_some.1 hw with he | he <;> simp [State.entryRemoved, he, hg, ha]

theorem Bereaves.formOutput (h : Bereaves gone k was v) : Bereaves gone k was v.formOutput where
  outstanding := by simpa using h.outstanding
  concludes := by rw [← h.concludes]; exact concludes_congr (by simp) (by simp)
  closes := by simpa using h.closes
  waits := by simpa using h.waits

theorem evaluateViol_of_lockdown (hv : v.hub.mode ≠ .lockdown) (hu : (State.evaluateViol was v).hub.mode = .lockdown) :
    State.evaluateViol was v = State.orderConclusions was v.formOutput.enterLockdown := by
  unfold State.evaluateViol State.evaluate State.lockdownIfDue at hu ⊢
  split at hu
  · exact absurd hu hv
  · next hne =>
    split at hu
    · next hd => rw [if_neg hne, if_pos hd]
    · exact absurd (by simpa using hu) hv

section
variable (h : Bereaves gone k was v)
include h

/-- The references of the loss and of the entry are those of the two losses together. -/
theorem Bereaves.mem_either {i : Fin 48} : (i ∈ was.concludedFor gone k ∨ i ∈ v.concludedFor Lane.isApp k) ↔
    i ∈ was.concludedFor (fun j => gone j || j.isApp) k := by
  simp only [mem_concludedFor, h.concludes, answeredBy_or, Bool.or_eq_true]
  constructor
  · rintro (⟨hc, x, hw, hx, ha⟩ | ⟨hc, x, hw, hx, ha⟩)
    · exact ⟨hc, x, hw, hx, .inl ha⟩
    · exact ⟨hc, x, ((h.waits i x hx).1 hw).1, hx, .inr ha⟩
  · rintro ⟨hc, x, hw, hx, ha⟩
    by_cases hg : x.answeredBy gone = true
    · exact .inl ⟨hc, x, hw, hx, hg⟩
    · exact .inr ⟨hc, x, (h.waits i x hx).2 ⟨hw, by simpa using hg⟩, hx, ha.resolve_left hg⟩

variable (hk : k.isApp = false) (hn : ∀ o ∈ was.hub.outstanding, o.job ≠ .setPanes)
include hk hn

/-- An entry whose reference joins in the event goes to CLOSING in it. -/
theorem Bereaves.closes_of_told {i : Fin 48} (hi : i ∈ was.concludedFor gone k ∨ i ∈ v.concludedFor Lane.isApp k) :
    (v.enterLockdown.entry i).state.isClosing = true ∧ (was.entry i).state.isClosing = false := by
  rw [enterLockdown_entry, (cancelled_of_none (by rw [h.outstanding]; exact hn)).2]
  rcases hi with hi | hi
  · obtain ⟨hc, x, hw, hx, ha⟩ := mem_concludedFor.1 hi
    obtain ⟨c, late, hv⟩ := h.closes i x hw hx ha hc
    rw [entryLocked_of_closing hv (hx ▸ hk), hv]
    exact ⟨rfl, isClosing_eq_false_of_waits hw⟩
  · obtain ⟨hc, x, hw, hx, ha⟩ := mem_concludedFor.1 hi
    rw [entryLocked_of_answeredBy hw (hx ▸ hk) ha (hx ▸ hc)]
    exact ⟨rfl, isClosing_eq_false_of_waits ((h.waits i x hx).1 hw).1⟩

/-- The FIFO of a lane that stays, where the loss brings the entry: the references of both, in ascending order (R86). -/
theorem Bereaves.fifo {keep : Entry → Bool} (hs : ConclusionsSound was)
    (hf : (v.lane k).fifo = (was.lane k).fifo.filter keep ++ (was.concludedFor gone k).map .conclusion) :
    ((State.orderConclusions was v.enterLockdown).lane k).fifo = ((was.lane k).fifo.filter fun e => !e.fromApp && keep e)
      ++ (was.concludedFor (fun j => gone j || j.isApp) k).map .conclusion := by
  have joined : (v.enterLockdown.lane k).fifo = ((was.lane k).fifo.filter fun e => !e.fromApp && keep e)
      ++ (was.concludedFor gone k ++ v.concludedFor Lane.isApp k).map .conclusion := by
    have staying : ∀ refs : List (Fin 48), (refs.map Entry.conclusion).filter (fun e => !e.fromApp) = refs.map .conclusion :=
      fun refs => List.filter_eq_self.2 fun e he => by obtain ⟨i, -, rfl⟩ := List.mem_map.1 he; rfl
    rw [enterLockdown_fifo (by rw [h.outstanding]; exact hn) hk, hf, List.filter_append, List.filter_filter, staying, List.map_append,
      List.append_assoc]
  have either : ((List.finRange 48).filter fun i => decide (i ∈ was.concludedFor gone k ++ v.concludedFor Lane.isApp k)) =
      was.concludedFor (fun j => gone j || j.isApp) k := by
    simp only [List.mem_append, h.mem_either]
    exact List.filter_congr fun i _ => by simp [State.concludedFor]
  rw [orderConclusions_lane, joined, orderReferences_append, either]
  · rintro e he
    cases e with
    | message | reply | cell => rfl
    | conclusion i =>
      obtain ⟨x, c, late, hc, -⟩ := (hs k i).2 (List.mem_of_mem_filter he)
      simp [Entry.refersTo, hc, ExchangeState.isClosing]
  · intro i hi
    obtain ⟨after, before⟩ := h.closes_of_told hk hn (List.mem_append.1 hi)
    rw [after, before]; rfl

end
end

/-! ## The fence by the tally -/

section
variable {t : State} {l k : Lane}

theorem autoFencing_of_unfenced (hf : (t.lane l).fenced = false) :
    t.autoFencing l = (t.fenceLane l).updLane l fun r => { r with autoFenced := true } := by
  simp [State.autoFencing, hf]

theorem autoFencing_fifo (hf : (t.lane l).fenced = false) (hk : k ≠ l) : ((t.autoFencing l).lane k).fifo =
    ((t.lane k).fifo.filter fun e => !e.isRequest fun m => decide (m.sender = l))
      ++ (t.concludedFor (fun j => decide (j = l)) k).map .conclusion := by
  rw [autoFencing_of_unfenced hf, State.lane_updLane, if_neg hk, fenceLane_lane, if_neg hk, told_of_staying (by simpa using hk),
    concludedFor_congr (fencing_concludes hk) (fencing_entry t l), State.fencing, filterFifos_lane]
  simp [hk, State.countDropped]

theorem autoFencing_bereaves (hf : (t.lane l).fenced = false) (hk : k ≠ l) :
    Bereaves (fun j => decide (j = l)) k t (t.autoFencing l) where
  outstanding := by simp [autoFencing_of_unfenced hf]
  concludes := by
    rw [autoFencing_of_unfenced hf]
    exact concludes_congr (by simp [fenceLane_lane, hk, State.told, fencing_fenced]) (by simp)
  closes i x hw hx ha hc := by
    rw [autoFencing_of_unfenced hf, State.updLane_entry, fenceLane_entry,
      entryRemoved_of_answeredBy true hw (by simpa [hx] using hk) ha (hx ▸ hc)]
    exact ⟨_, _, rfl⟩
  waits i x hx := by
    rw [autoFencing_of_unfenced hf, State.updLane_entry, fenceLane_entry]
    exact waits_entryRemoved_of_staying true _ (by simpa [hx] using hk)

end

/-- Settles O12: the charge by the tally (`violate_of_limit`), and the FIFOs where the fence brings the entry into LOCKDOWN
(`Bereaves.fifo`). -/
theorem violationsCharged : Obligations.ViolationsCharged := by
  unfold Obligations.ViolationsCharged
  refine ⟨fun s l => ⟨s.chargeViolation l, rfl, fun h => ?_, fun hl he hle => ?_⟩, ?_⟩
  · refine violate_of_no_limit fun ⟨hl, he, hle⟩ => ?_
    rcases h with h | h | h
    · exact hl h
    · omega
    · exact h he
  · rw [violate_of_limit hl ⟨he, hle⟩, State.autoFencing, chargeViolation_fenced]
  · rintro s u l k rfl hf hs hm hu hn hk hkl
    have sound : ConclusionsSound (s.chargeViolation l) := fun j i => by simpa using hs j i
    have told : ∀ gone, (s.chargeViolation l).concludedFor gone k = s.concludedFor gone k := fun gone =>
      concludedFor_congr (concludes_congr (by simp) (by simp)) (by simp)
    have unfenced : ((s.chargeViolation l).lane l).fenced = false := by simpa using hf
    have mode : ((s.chargeViolation l).autoFencing l).hub.mode ≠ .lockdown := by simpa [autoFencing_of_unfenced unfenced] using hm
    by_cases hc : l ≠ .pay ∧ LimitReached (s.lane l)
    · rw [violate_of_limit hc.1 hc.2] at hu ⊢
      rw [evaluateViol_of_lockdown mode hu]
      have joined := (autoFencing_bereaves unfenced hkl).formOutput.fifo hk (by simpa using hn) sound
        (by simpa using autoFencing_fifo unfenced hkl)
      simpa [told] using joined
    · rw [violate_of_no_limit hc] at hu
      exact absurd (by simpa using hu) hm

end Sys2Proof.Machine
/-! PROOFS. What the references into the exchange table and the storage in use look at, and the changes that leave both in order
(O57, O59). -/

namespace Sys2Proof.Machine

open scoped List

/-! ## Lists that lose elements and are put in another order -/

section
variable {α β : Type} {xs ys : List α}

/-- What stands in two states is compared by `simp`. -/
@[simp] theorem subperm_self (xs : List α) : xs <+~ xs := .refl _

theorem subperm_map (f : α → β) (h : xs <+~ ys) : xs.map f <+~ ys.map f := by
  obtain ⟨zs, hp, hs⟩ := h
  exact ⟨zs.map f, hp.map f, hs.map f⟩

theorem subperm_filterMap (f : α → Option β) (h : xs <+~ ys) : xs.filterMap f <+~ ys.filterMap f := by
  obtain ⟨zs, hp, hs⟩ := h
  exact ⟨zs.filterMap f, hp.filterMap f, hs.filterMap f⟩

theorem nodup_of_subperm (h : xs <+~ ys) (hy : ys.Nodup) : xs.Nodup := by
  obtain ⟨zs, hp, hs⟩ := h
  exact hp.nodup_iff.1 (hy.sublist hs)

theorem subperm_flatMap {f g : α → List β} (h : ∀ a, f a <+~ g a) (xs : List α) : xs.flatMap f <+~ xs.flatMap g := by
  induction xs with
  | nil => exact .refl _
  | cons x xs ih => simpa using (h x).append ih

/-- One list of those that are joined has one element more. -/
theorem perm_flatMap_cons {f g : α → List β} {a : α} {b : β} (hx : xs.Nodup) (ha : a ∈ xs) (h : f a ~ b :: g a)
    (ho : ∀ c ∈ xs, c ≠ a → f c = g c) : xs.flatMap f ~ b :: xs.flatMap g := by
  induction xs with
  | nil => cases ha
  | cons c xs ih =>
    obtain ⟨hc, hx⟩ := List.nodup_cons.1 hx
    rw [List.flatMap_cons, List.flatMap_cons]
    by_cases e : c = a
    · subst e
      have rest : xs.flatMap f = xs.flatMap g := List.flatMap_congr fun d hd =>
        ho d (List.mem_cons_of_mem _ hd) fun e => hc (e ▸ hd)
      rw [rest]
      exact h.append_right _
    · rw [ho c (List.mem_cons_self ..) e]
      exact ((ih hx (List.mem_of_ne_of_mem (Ne.symm e) ha) fun d hd => ho d (List.mem_cons_of_mem _ hd)).append_left _).trans
        List.perm_middle

end

/-! ## Entries without the content of an event cell -/

/-- An entry with the content of an event cell left out: what a reference and the storage in use depend on. -/
def Entry.form : Entry → Entry
  | .cell _ _ => .cell (.key 0 .down) 0
  | .message h => .message h
  | .reply r => .reply r
  | .conclusion i => .conclusion i

section
variable (e : Entry)

@[simp] theorem Entry.held?_form : e.form.held? = e.held? := by cases e <;> rfl

@[simp] theorem Entry.reply?_form : e.form.reply? = e.reply? := by cases e <;> rfl

@[simp] theorem Entry.isCell_form : e.form.isCell = e.isCell := by cases e <;> rfl

@[simp] theorem Entry.isRequest_form (p : Message → Bool) : e.form.isRequest p = e.isRequest p := by cases e <;> rfl

@[simp] theorem Entry.form_eq_message (h : Held) : e.form = .message h ↔ e = .message h := by cases e <;> simp [Entry.form]

@[simp] theorem Entry.form_eq_reply (r : Reply) : e.form = .reply r ↔ e = .reply r := by cases e <;> simp [Entry.form]

@[simp] theorem Entry.form_eq_conclusion (i : Fin 48) : e.form = .conclusion i ↔ e = .conclusion i := by
  cases e <;> simp [Entry.form]

end

/-- A coalescing changes the content of a cell alone (R65). -/
theorem coalesce_form {id : Fin 2} {place : Placement} {fifo fifo' : List Entry} (h : coalesce id place fifo = some fifo') :
    fifo'.map Entry.form = fifo.map Entry.form := by
  induction fifo generalizing fifo' with
  | nil => cases h
  | cons e rest ih =>
    have later : (coalesce id place rest).map (e :: ·) = some fifo' → fifo'.map Entry.form = (e :: rest).map Entry.form := by
      intro h
      obtain ⟨rest', hr, rfl⟩ := Option.map_eq_some_iff.1 h
      rw [List.map_cons, List.map_cons, ih hr]
    cases e with
    | cell event joined =>
      cases event with
      | touch id' phase old =>
        simp only [coalesce] at h
        split_ifs at h
        · exact later h
        · cases h; rfl
      | key | line => exact later h
    | message | reply | conclusion => exact later h

theorem coalesced_form {event : InputEvent} {fifo fifo' : List Entry} (h : event.coalesced fifo = some fifo') :
    fifo'.map Entry.form = fifo.map Entry.form := by
  unfold InputEvent.coalesced at h
  split at h
  · exact coalesce_form h
  all_goals cases h

/-- The order of the references repeats no entry (R86). -/
theorem orderReferences_subperm (p : Fin 48 → Bool) (fifo : List Entry) : orderReferences p fifo <+~ fifo := by
  have references : (pickedReferences p fifo).map Entry.conclusion <+~
      (fifo.dropWhile fun e => !e.refersTo p).filter fun e => e.refersTo p := by
    refine List.subperm_of_subset (((List.nodup_finRange 48).filter _).map fun i j h => Entry.conclusion.inj h) fun e he => ?_
    refine List.mem_filter.2 ⟨?_, refersTo_of_picked e he⟩
    obtain ⟨i, hi, rfl⟩ := List.mem_map.1 he
    obtain ⟨hp, hm⟩ := Bool.and_eq_true_iff.1 (List.mem_filter.1 hi).2
    rw [← List.takeWhile_append_dropWhile (p := fun e => !e.refersTo p) (l := fifo)] at hm
    refine (List.mem_append.1 (of_decide_eq_true hm)).resolve_left fun hm => ?_
    simpa [Entry.refersTo, hp] using List.mem_takeWhile_imp hm
  have behind : (pickedReferences p fifo).map Entry.conclusion ++ (fifo.dropWhile fun e => !e.refersTo p).filter (fun e => !e.refersTo p)
      <+~ fifo.dropWhile fun e => !e.refersTo p :=
    (references.append (.refl _)).trans (List.filter_append_perm _ _).subperm
  rw [orderReferences, List.append_assoc]
  conv_rhs => rw [← List.takeWhile_append_dropWhile (p := fun e => !e.refersTo p) (l := fifo)]
  exact (List.Subperm.refl _).append behind

/-! ## The entries of all board lanes -/

section
variable {t u : State}

theorem boardEntries_subperm (h : ∀ l, (u.lane l).fifo.map Entry.form <+~ (t.lane l).fifo.map Entry.form) :
    u.boardEntries.map Entry.form <+~ t.boardEntries.map Entry.form := by
  simp only [State.boardEntries, List.map_flatMap]
  exact subperm_flatMap h _

/-- One FIFO holds one entry more. -/
theorem boardEntries_perm_cons {l : Lane} {e : Entry} (hl : (u.lane l).fifo ~ e :: (t.lane l).fifo)
    (ho : ∀ k, k ≠ l → (u.lane k).fifo = (t.lane k).fifo) : u.boardEntries ~ e :: t.boardEntries :=
  perm_flatMap_cons (by decide) (mem_allLanes l) hl fun k _ hk => ho k hk

theorem join_fifo (l k : Lane) (e : Entry) :
    ((t.join l e).lane k).fifo = if k = l then (t.lane l).fifo ++ [e] else (t.lane k).fifo := by
  rw [State.join, State.lane_updLane]
  split <;> rfl

theorem boardEntries_join (t : State) (l : Lane) (e : Entry) : (t.join l e).boardEntries ~ e :: t.boardEntries :=
  boardEntries_perm_cons (l := l) (by rw [join_fifo, if_pos rfl]; exact List.perm_append_singleton ..)
    fun k hk => by rw [join_fifo, if_neg hk]

/-! ## Entries that leave the FIFOs -/

/-- Entries may leave the FIFOs and requests the list of outstanding ones, and event cells may take other content; the exchange
table stands. -/
def Sheds (t u : State) : Prop :=
  (∀ l, (u.lane l).fifo.map Entry.form <+~ (t.lane l).fifo.map Entry.form) ∧ u.hub.fifo <+~ t.hub.fifo
    ∧ u.hub.outstanding.length ≤ t.hub.outstanding.length ∧ ∀ i, u.entry i = t.entry i

/-- No more storage is in use. -/
structure Frees (t u : State) : Prop where
  messages : u.heldMessages <+~ t.heldMessages
  replies : u.heldReplies <+~ t.heldReplies
  cells : u.cellsUsed ≤ t.cellsUsed
  outstanding : u.hub.outstanding.length ≤ t.hub.outstanding.length

/-- The storage in use is what the entries of the FIFOs hold. -/
theorem Frees.of_fifos (hm : ∀ l, (u.lane l).fifo.filterMap Entry.held? <+~ (t.lane l).fifo.filterMap Entry.held?)
    (hr : ∀ l, (u.lane l).fifo.filterMap Entry.reply? <+~ (t.lane l).fifo.filterMap Entry.reply?)
    (hc : ∀ l, (u.lane l).fifo.countP Entry.isCell ≤ (t.lane l).fifo.countP Entry.isCell)
    (hh : u.hub.fifo <+~ t.hub.fifo) (ho : u.hub.outstanding.length ≤ t.hub.outstanding.length) : Frees t u where
  messages := by
    simp only [State.heldMessages, State.boardEntries, List.filterMap_flatMap]
    exact (subperm_flatMap hm _).append hh
  replies := by
    simp only [State.heldReplies, State.boardEntries, List.filterMap_flatMap]
    exact subperm_flatMap hr _
  cells := by
    simp only [State.cellsUsed, State.boardEntries, List.countP_flatMap]
    exact List.sum_le_sum fun l _ => hc l
  outstanding := ho

theorem Frees.of_sheds (h : Sheds t u) : Frees t u := by
  obtain ⟨hf, hh, ho, -⟩ := h
  have filterMap {β : Type} {f : Entry → Option β} (same : ∀ e, f e.form = f e) (xs : List Entry) :
      xs.filterMap f = (xs.map Entry.form).filterMap f := by
    rw [List.filterMap_map]; exact List.filterMap_congr fun e _ => (same e).symm
  have count (xs : List Entry) : xs.countP Entry.isCell = (xs.map Entry.form).countP Entry.isCell := by
    simp [List.countP_map, Function.comp_def]
  refine Frees.of_fifos (fun l => ?_) (fun l => ?_) (fun l => ?_) hh ho
  · rw [filterMap Entry.held?_form (u.lane l).fifo, filterMap Entry.held?_form (t.lane l).fifo]; exact subperm_filterMap _ (hf l)
  · rw [filterMap Entry.reply?_form (u.lane l).fifo, filterMap Entry.reply?_form (t.lane l).fifo]; exact subperm_filterMap _ (hf l)
  · rw [count (u.lane l).fifo, count (t.lane l).fifo]; exact (hf l).countP_le _

/-- FIFOs that conclusion references join take no storage (R63). -/
theorem Frees.of_references {refs : Lane → List (Fin 48)} (hf : ∀ l, (u.lane l).fifo = (t.lane l).fifo ++ (refs l).map .conclusion)
    (hh : u.hub = t.hub) : Frees t u := by
  have none {β : Type} {f : Entry → Option β} (hn : ∀ i, f (.conclusion i) = none) (xs : List (Fin 48)) :
      (xs.map Entry.conclusion).filterMap f = [] := by simp [hn]
  have count (xs : List (Fin 48)) : (xs.map Entry.conclusion).countP Entry.isCell = 0 := by simp [Entry.isCell]
  refine Frees.of_fifos (fun l => ?_) (fun l => ?_) (fun l => ?_) (by rw [hh]) (by rw [hh])
  · rw [hf, List.filterMap_append, none fun _ => rfl, List.append_nil]
  · rw [hf, List.filterMap_append, none fun _ => rfl, List.append_nil]
  · rw [hf, List.countP_append, count, Nat.add_zero]

end
end Sys2Proof.Machine

/-! PROOFS. The references into the exchange table: where an entry of a FIFO belongs, and the changes of the FIFOs and of the
exchange table that leave every reference sound (O57). -/

namespace Sys2Proof.Machine

open scoped List

/-! ## Where the references of a FIFO lead -/

/-- What an entry of a lane's FIFO refers to is as it says: a REQUEST belongs to a POSTED exchange of its sender with the lane, and
a conclusion reference names an entry in CLOSING of the lane (R77, R80, R86). -/
def State.Belongs (s : State) (l : Lane) : Entry → Prop
  | .message h => h.message.kind = .request → ∃ i x, h.message.tag = s.tagOf i ∧ (s.entry i).state = .posted x
      ∧ x.requester = h.message.sender ∧ x.responder.recipient = .board l
  | .conclusion i => ∃ x c late, (s.entry i).state = .closing x c late ∧ x.requester = l
  | .reply _ | .cell _ _ => True

/-- `RequestsPosted` and `ConclusionsSound`, by entry. -/
structure ReferencesSound (s : State) : Prop where
  belongs : ∀ l, ∀ e ∈ (s.lane l).fifo, s.Belongs l e
  requests : ∀ tag : Nat, s.boardEntries.countP (Entry.isRequest fun m => decide (m.tag = tag)) ≤ 1
  conclusions : ∀ l i, (s.lane l).fifo.count (.conclusion i) ≤ 1

/-- No entry of a FIFO refers to an exchange entry. -/
def State.Unnamed (s : State) (i : Fin 48) : Prop := ∀ l, ∀ e ∈ (s.lane l).fifo,
  e.isRequest (fun m => decide (m.tag = s.tagOf i)) = false ∧ e ≠ .conclusion i

section
variable {s t u : State} {i j : Fin 48} {x : Exchange} {c : Conclusion} {late : Bool} {l : Lane} {e : Entry}

theorem findTag_eq_some (s : State) (tag : Nat) (i : Fin 48) : s.findTag tag = some i ↔ tag = s.tagOf i := by
  refine ⟨fun h => ?_, fun h => findTag_of_generation ?_ ?_⟩
  · unfold State.findTag at h
    split_ifs at h with hi hg
    obtain rfl := Option.some.inj h
    unfold State.tagOf
    rw [hg]
    exact (Nat.div_add_mod' tag 64).symm
  all_goals unfold State.tagOf at h; omega

theorem tagOf_inj (h : s.tagOf i = s.tagOf j) : i = j := by
  unfold State.tagOf at h
  exact Fin.ext (by omega)

theorem isRequest_iff {tag : Nat} : e.isRequest (fun m => decide (m.tag = tag)) = true ↔
    ∃ h : Held, e = .message h ∧ h.message.kind = .request ∧ h.message.tag = tag := by
  cases e <;> simp [Entry.isRequest]

theorem referencesSound_iff (s : State) : ReferencesSound s ↔ RequestsPosted s ∧ ConclusionsSound s := by
  refine ⟨fun hs => ⟨⟨fun l h hm hk => ?_, hs.requests⟩, fun l i => ⟨hs.conclusions l i, hs.belongs l _⟩⟩,
    fun ⟨⟨hp, hr⟩, hc⟩ => ⟨fun l e he => ?_, hr, fun l i => (hc l i).1⟩⟩
  · obtain ⟨i, x, ht, hx⟩ := hs.belongs l _ hm hk
    exact ⟨i, x, (findTag_eq_some ..).2 ht, hx⟩
  · cases e with
    | message h =>
      intro hk
      obtain ⟨i, x, ht, hx⟩ := hp l h he hk
      exact ⟨i, x, (findTag_eq_some ..).1 ht, hx⟩
    | conclusion i => exact (hc l i).2 he
    | reply | cell => trivial

theorem State.Unnamed.of_subset (h : s.Unnamed i) (hf : ∀ l, (t.lane l).fifo ⊆ (s.lane l).fifo)
    (ht : t.tagOf i = s.tagOf i) : t.Unnamed i := fun l e hl => by
  rw [ht]
  exact h l e (hf l hl)

/-! ## Entries that no reference names -/

/-- A REQUEST that names an exchange entry finds it POSTED, and a conclusion reference finds it in CLOSING. -/
theorem ReferencesSound.unnamed (hs : ReferencesSound s)
    (hp : ∀ x, (s.entry i).state = .posted x → ∀ l (h : Held), .message h ∈ (s.lane l).fifo → h.message.kind = .request →
      x.requester = h.message.sender → x.responder.recipient = .board l → False)
    (hc : ∀ x c late, (s.entry i).state = .closing x c late → .conclusion i ∉ (s.lane x.requester).fifo) : s.Unnamed i := by
  refine fun l e he => ⟨Bool.eq_false_iff.2 fun hr => ?_, ?_⟩
  · obtain ⟨h, rfl, hk, ht⟩ := isRequest_iff.1 hr
    obtain ⟨j, x, hj, hx, hq, ha⟩ := hs.belongs l _ he hk
    obtain rfl := tagOf_inj (ht.symm.trans hj)
    exact hp x hx l h he hk hq ha
  · rintro rfl
    obtain ⟨x, c, late, hx, rfl⟩ := hs.belongs l _ he
    exact hc x c late hx he

/-- An entry that is neither POSTED nor in CLOSING is named by none. -/
theorem ReferencesSound.unnamed_of_settled (hs : ReferencesSound s) (hp : ∀ x, (s.entry i).state ≠ .posted x)
    (hc : (s.entry i).state.isClosing = false) : s.Unnamed i :=
  hs.unnamed (fun x hx => absurd hx (hp x)) fun x c late hx => by rw [hx] at hc; cases hc

/-- The REQUEST of an exchange with HUB stands in no board lane's FIFO (R70). -/
theorem ReferencesSound.unnamed_of_hub (hs : ReferencesSound s) (hx : (s.entry i).state.waits? = some x)
    (hr : x.responder.recipient = .hub) : s.Unnamed i := by
  rcases waits_eq_some.1 hx with hx | hx
  · refine hs.unnamed (fun y hy l h _ _ _ ha => ?_) fun y c late hy => by rw [hx] at hy; cases hy
    rw [hx] at hy
    cases hy
    rw [hr] at ha
    cases ha
  · exact hs.unnamed_of_settled (by simp [hx]) (by simp [hx, ExchangeState.isClosing])

/-! ## Changes of the FIFOs -/

theorem State.Belongs.of_entries (he : ∀ i, u.entry i = t.entry i) (h : t.Belongs l e) : u.Belongs l e := by
  cases e with
  | message | conclusion => simpa only [State.Belongs, State.tagOf, he] using h
  | reply | cell => trivial

theorem mem_fifo_of_forms (h : ∀ l, (u.lane l).fifo.map Entry.form <+~ (t.lane l).fifo.map Entry.form) (he : e ∈ (u.lane l).fifo) :
    e ∈ (t.lane l).fifo ∨ ∃ event joined, e = .cell event joined := by
  obtain ⟨e', he', hf⟩ := List.mem_map.1 ((h l).subset (List.mem_map_of_mem he))
  cases e with
  | cell event joined => exact .inr ⟨event, joined, rfl⟩
  | message h => exact .inl ((Entry.form_eq_message e' h).1 hf ▸ he')
  | reply r => exact .inl ((Entry.form_eq_reply e' r).1 hf ▸ he')
  | conclusion i => exact .inl ((Entry.form_eq_conclusion e' i).1 hf ▸ he')

theorem ReferencesSound.sheds (hs : ReferencesSound t) (h : Sheds t u) : ReferencesSound u := by
  obtain ⟨hf, -, -, he⟩ := h
  refine ⟨fun l e hl => ?_, fun tag => ?_, fun l i => ?_⟩
  · rcases mem_fifo_of_forms hf hl with hl | ⟨_, _, rfl⟩
    · exact State.Belongs.of_entries he (hs.belongs l e hl)
    · trivial
  · have count (xs : List Entry) : xs.countP (Entry.isRequest fun m => decide (m.tag = tag)) =
        (xs.map Entry.form).countP (Entry.isRequest fun m => decide (m.tag = tag)) := by simp [List.countP_map, Function.comp_def]
    rw [count]
    exact ((boardEntries_subperm hf).countP_le _).trans (count _ ▸ hs.requests tag)
  · have count (xs : List Entry) : xs.count (.conclusion i) = (xs.map Entry.form).count (.conclusion i) := by
      simp only [List.count, List.countP_map, Function.comp_def]
      exact List.countP_congr fun e _ => by simp
    rw [count]
    exact ((hf l).count_le _).trans (count _ ▸ hs.conclusions l i)

/-- An entry joins the FIFO where it belongs, and nothing else there names what it names. -/
theorem ReferencesSound.join (hs : ReferencesSound t) (hb : t.Belongs l e)
    (hr : ∀ i, e.isRequest (fun m => decide (m.tag = t.tagOf i)) = true → t.Unnamed i)
    (hc : ∀ i, e = .conclusion i → t.Unnamed i) : ReferencesSound (t.join l e) := by
  refine ⟨fun k f hf => ?_, fun tag => ?_, fun k i => ?_⟩
  · refine State.Belongs.of_entries (t := t) (by simp) ?_
    rw [join_fifo] at hf
    split at hf
    · next hk =>
      subst hk
      rcases List.mem_append.1 hf with hf | hf
      · exact hs.belongs k f hf
      · exact List.mem_singleton.1 hf ▸ hb
    · exact hs.belongs k f hf
  · rw [(boardEntries_join t l e).countP_eq, List.countP_cons]
    split
    · next he =>
      obtain ⟨h, rfl, hk, rfl⟩ := isRequest_iff.1 he
      obtain ⟨i, x, ht, -⟩ := hb hk
      rw [ht, List.countP_eq_zero.2 fun f hf => ?_]
      obtain ⟨k, hf⟩ := mem_boardEntries.1 hf
      rw [(hr i (ht ▸ he) k f hf).1]
      exact Bool.false_ne_true
    · exact hs.requests tag
  · rw [join_fifo]
    split
    · rw [List.count_append, List.count_singleton]
      split
      · next he =>
        rw [List.count_eq_zero.2 fun hf => (hc i (by simpa using he) l _ hf).2 rfl]
      · exact hs.conclusions l i
    · exact hs.conclusions k i

/-! ## Changes of the exchange table -/

/-- An entry that nothing names may take any value. -/
theorem ReferencesSound.setEntry (hs : ReferencesSound t) (hi : t.Unnamed i) (new : ExchangeEntry) :
    ReferencesSound (t.setEntry i new) := by
  have fifo : ∀ l, ((t.setEntry i new).lane l).fifo = (t.lane l).fifo := fun l => by simp
  have other {j : Fin 48} (h : j ≠ i) : (t.setEntry i new).entry j = t.entry j := by simp [h]
  refine ⟨fun l e he => ?_, hs.requests, hs.conclusions⟩
  have he : e ∈ (t.lane l).fifo := fifo l ▸ he
  have hb := hs.belongs l e he
  have hn := hi l e he
  cases e with
  | message h =>
    intro hk
    obtain ⟨j, x, ht, hx⟩ := hb hk
    have hj : j ≠ i := fun e => by simp [Entry.isRequest, hk, ht, e] at hn
    exact ⟨j, x, by rw [State.tagOf, other hj]; exact ht, by rw [other hj]; exact hx⟩
  | conclusion j =>
    have hj : j ≠ i := fun e => hn.2 (e ▸ rfl)
    obtain ⟨x, c, late, hx⟩ := hb
    exact ⟨x, c, late, by rw [other hj]; exact hx⟩
  | reply | cell => trivial

/-- An entry in CLOSING is seen late (R76). -/
theorem ReferencesSound.setLate (hs : ReferencesSound t) (hx : (t.entry i).state = .closing x c late) :
    ReferencesSound (t.setExchange i (.closing x c true)) := by
  refine ⟨fun l e he => ?_, hs.requests, hs.conclusions⟩
  have tag : ∀ j, (t.setExchange i (.closing x c true)).tagOf j = t.tagOf j := fun j => by
    rw [State.tagOf, State.tagOf, State.entry_setExchange]
    split_ifs with e
    · rw [e]
    · rfl
  have hb := hs.belongs l e (by simpa using he)
  cases e with
  | message h =>
    intro hk
    obtain ⟨j, y, ht, hy, hq⟩ := hb hk
    have hj : j ≠ i := fun e => by rw [e, hx] at hy; cases hy
    exact ⟨j, y, (tag j).symm ▸ ht, by simp [hj, hy], hq⟩
  | conclusion j =>
    obtain ⟨y, d, b, hy, hq⟩ := hb
    by_cases hj : j = i
    · subst hj
      rw [hx] at hy
      cases hy
      exact ⟨x, c, true, by simp, hq⟩
    · exact ⟨y, d, b, by simp [hj, hy], hq⟩
  | reply | cell => trivial

/-- The conclusion of an exchange that nothing names (R86). -/
theorem ReferencesSound.conclude (hs : ReferencesSound t) (hi : t.Unnamed i) (x : Exchange) (c : Conclusion) :
    ReferencesSound (t.conclude i x c) := by
  have freed : ReferencesSound (t.freeEntry i) := hs.setEntry hi _
  unfold State.conclude
  split_ifs
  · exact freed.sheds (by simp [Sheds])
  · exact freed
  · refine ReferencesSound.join (hs.setEntry hi _) ⟨x, c, false, by simp, rfl⟩ (fun _ h => by cases h) fun j hj => ?_
    cases hj
    exact State.Unnamed.of_subset hi (by simp) (by simp [State.tagOf])

end
end Sys2Proof.Machine

/-! PROOFS. The references that the loss of lanes leaves, and the storage that a buffer, a reserved buffer or an event cell takes
(O57, O59). -/

namespace Sys2Proof.Machine

open scoped List

/-! ## The loss of lanes -/

/-- The FIFOs hold nothing that refers to an exchange of the lanes that `gone` picks: hub replies alone in their own, and none of
their REQUESTs in another (R73, R74, R75). -/
structure Severed (gone : Lane → Bool) (s : State) : Prop where
  own : ∀ l, gone l = true → ∀ e ∈ (s.lane l).fifo, e.isReply = true
  sent : ∀ l (h : Held), .message h ∈ (s.lane l).fifo → h.message.kind = .request → gone h.message.sender = false

/-- What the loss of lanes makes of an entry: an exchange that waits and does not touch them stands, one in CLOSING for a lane that
stays is in CLOSING still, and one that waits for them is concluded (R90, R92). -/
structure Loses (gone : Lane → Bool) (s : State) (new : ExchangeEntry → ExchangeEntry) : Prop where
  posted : ∀ e x, e.state = .posted x → gone x.requester = false → x.answeredBy gone = false → new e = e
  closing : ∀ e x c late, e.state = .closing x c late → gone x.requester = false → ∃ late', (new e).state = .closing x c late'
  told : ∀ e x, e.state.waits? = some x → gone x.requester = false → x.answeredBy gone = true →
    s.concludes x.requester = true → ∃ c late, (new e).state = .closing x c late

section
variable {s t u : State} {gone : Lane → Bool} {new : ExchangeEntry → ExchangeEntry} {i : Fin 48} {x : Exchange} {l : Lane}

theorem answeredBy_of_recipient (h : x.responder.recipient = .board l) : x.answeredBy gone = gone l := by
  cases hr : x.responder <;> rw [hr] at h <;> cases h <;> simp [Exchange.answeredBy, hr]

/-- The references that join the FIFO of a lane where lanes are lost (R86). -/
def State.lossReferences (s : State) (gone : Lane → Bool) (l : Lane) : List (Fin 48) := if gone l then [] else s.concludedFor gone l

theorem told_tellsOf_fifo (s : State) (gone : Lane → Bool) (l : Lane) :
    (s.told l (s.tellsOf gone l)).fifo = (s.lane l).fifo ++ (s.lossReferences gone l).map .conclusion := by
  unfold State.lossReferences
  split
  · next hg => rw [told_of_gone hg, List.map_nil, List.append_nil]
  · next hg => rw [told_of_staying (by simpa using hg)]

theorem mem_lossReferences : i ∈ s.lossReferences gone l ↔ gone l = false ∧ s.concludes l = true
    ∧ ∃ x, (s.entry i).state.waits? = some x ∧ x.requester = l ∧ x.answeredBy gone = true := by
  unfold State.lossReferences
  cases gone l <;> simp [mem_concludedFor]

theorem lossReferences_nodup (s : State) (gone : Lane → Bool) (l : Lane) : (s.lossReferences gone l).Nodup := by
  unfold State.lossReferences
  split
  · exact List.nodup_nil
  · exact (List.nodup_finRange 48).filter _

theorem ReferencesSound.lose (hs : ReferencesSound s) (sv : Severed gone s) (hn : Loses gone s new)
    (entry : ∀ i, u.entry i = new (s.entry i))
    (fifo : ∀ l, (u.lane l).fifo = (s.lane l).fifo ++ (s.lossReferences gone l).map .conclusion) : ReferencesSound u := by
  refine ⟨fun l e he => ?_, fun tag => ?_, fun l i => ?_⟩
  · rw [fifo] at he
    rcases List.mem_append.1 he with he | he
    · have staying : e.isReply = false → gone l = false := fun hr => Bool.eq_false_iff.2 fun hg => by
        rw [sv.own l hg e he] at hr; cases hr
      have hb := hs.belongs l e he
      cases e with
      | message h =>
        intro hk
        obtain ⟨i, x, ht, hx, hq, ha⟩ := hb hk
        have stands : u.entry i = s.entry i := by
          rw [entry]
          exact hn.posted _ x hx (hq ▸ sv.sent l h he hk) (by rw [answeredBy_of_recipient ha, staying rfl])
        exact ⟨i, x, by rw [State.tagOf, stands]; exact ht, stands ▸ hx, hq, ha⟩
      | conclusion i =>
        obtain ⟨x, c, late, hx, hq⟩ := hb
        obtain ⟨late', hx⟩ := hn.closing _ x c late hx (hq ▸ staying rfl)
        exact ⟨x, c, late', by rw [entry]; exact hx, hq⟩
      | reply | cell => trivial
    · obtain ⟨i, hi, rfl⟩ := List.mem_map.1 he
      obtain ⟨hg, hc, x, hw, rfl, ha⟩ := mem_lossReferences.1 hi
      obtain ⟨c, late, hx⟩ := hn.told _ x hw hg ha hc
      exact ⟨x, c, late, by rw [entry]; exact hx, rfl⟩
  · have none (refs : List (Fin 48)) : (refs.map Entry.conclusion).countP (Entry.isRequest fun m => decide (m.tag = tag)) = 0 :=
      List.countP_eq_zero.2 (by simp [Entry.isRequest])
    have count : u.boardEntries.countP (Entry.isRequest fun m => decide (m.tag = tag)) =
        s.boardEntries.countP (Entry.isRequest fun m => decide (m.tag = tag)) := by
      simp only [State.boardEntries, List.countP_flatMap, Function.comp_def, fifo, List.countP_append, none, Nat.add_zero]
    rw [count]
    exact hs.requests tag
  · rw [fifo, List.count_append, List.count_map_of_injective _ _ fun i j h => Entry.conclusion.inj h]
    by_cases hi : i ∈ s.lossReferences gone l
    · obtain ⟨-, -, x, hw, -⟩ := mem_lossReferences.1 hi
      have none : (s.lane l).fifo.count (.conclusion i) = 0 := List.count_eq_zero.2 fun he => by
        obtain ⟨y, c, late, hy, -⟩ := hs.belongs l _ he
        rw [hy] at hw
        cases hw
      rw [none, Nat.zero_add]
      exact List.nodup_iff_count_le_one.1 (lossReferences_nodup s gone l) i
    · rw [List.count_eq_zero.2 hi]
      exact hs.conclusions l i

theorem entryRemoved_loses (s : State) (gone : Lane → Bool) (fence : Bool) : Loses gone s (s.entryRemoved gone fence) where
  posted e x he hg ha := by simp [State.entryRemoved, he, hg, ha]
  closing e x c late he hg := by
    simp only [State.entryRemoved, he, hg, Bool.false_eq_true, if_false]
    split
    · exact ⟨true, rfl⟩
    · exact ⟨late, he⟩
  told e x hw hg ha hc := ⟨_, _, by rw [entryRemoved_of_answeredBy fence hw hg ha hc]⟩

theorem entryLocked_loses (s : State) : Loses Lane.isApp s s.entryLocked where
  posted e x he hg ha := by simp [State.entryLocked, he, hg, ha]
  closing e x c late he hg := ⟨late, by rw [entryLocked_of_closing he hg, he]⟩
  told e x hw hg ha hc := ⟨_, _, by rw [entryLocked_of_answeredBy hw hg ha hc]⟩

theorem ReferencesSound.removeExchanges (hs : ReferencesSound s) (sv : Severed gone s) (keepHub : Bool) :
    ReferencesSound (s.removeExchanges gone keepHub) :=
  hs.lose sv (entryRemoved_loses s gone keepHub) (removeExchanges_entry s gone keepHub)
    fun l => by rw [removeExchanges_lane, told_tellsOf_fifo]

theorem ReferencesSound.lockExchanges (hs : ReferencesSound s) (sv : Severed Lane.isApp s) : ReferencesSound s.lockExchanges :=
  hs.lose sv (entryLocked_loses s) (lockExchanges_entry s) fun l => by rw [lockExchanges_lane, told_tellsOf_fifo]

/-! ## The storage in use -/

/-- `BuffersBounded` and `CellsBounded`, and `RepliesBounded` with `spare` reserved buffers that neither a hub reply nor an
outstanding request has a claim to (R94, R95). -/
structure Stored (spare : Nat) (s : State) : Prop where
  buffers : BuffersBounded s
  replies : (s.heldReplies.map Reply.buffer).Nodup
  spare : s.heldReplies.length + s.hub.outstanding.length + spare ≤ 2
  cells : CellsBounded s

theorem stored_zero_iff (s : State) : Stored 0 s ↔ BuffersBounded s ∧ RepliesBounded s ∧ CellsBounded s :=
  ⟨fun h => ⟨h.buffers, ⟨h.replies, h.spare⟩, h.cells⟩, fun ⟨hb, hr, hc⟩ => ⟨hb, hr.1, hr.2, hc⟩⟩

variable {spare : Nat}

theorem Stored.mono {spare' : Nat} (hs : Stored spare s) (h : spare' ≤ spare) : Stored spare' s :=
  { hs with spare := by have := hs.spare; omega }

theorem Stored.frees (hs : Stored spare t) (h : Frees t u) : Stored spare u where
  buffers := ⟨nodup_of_subperm (subperm_map _ h.messages) hs.buffers.1, fun l => (h.messages.countP_le _).trans (hs.buffers.2 l)⟩
  replies := nodup_of_subperm (subperm_map _ h.replies) hs.replies
  spare := by have := h.replies.length_le; have := h.outstanding; have := hs.spare; omega
  cells := h.cells.trans hs.cells

/-- A message is held in a buffer that the holding queue grants its sender (R57). -/
theorem Stored.message {h : Held} (hs : Stored spare t) (hg : t.grantBuffer h.message.sender = some h.buffer)
    (hm : u.heldMessages ~ h :: t.heldMessages) (hr : u.heldReplies ~ t.heldReplies) (hc : u.cellsUsed = t.cellsUsed)
    (ho : u.hub.outstanding = t.hub.outstanding) : Stored spare u := by
  unfold State.grantBuffer at hg
  split_ifs at hg with hq
  have free : t.bufferFree h.buffer = true := List.find?_some hg
  have fresh : h.buffer ∉ t.heldMessages.map Held.buffer := by simpa [State.bufferFree] using free
  refine ⟨⟨?_, fun l => ?_⟩, ?_, ?_, ?_⟩
  · rw [(hm.map _).nodup_iff, List.map_cons, List.nodup_cons]
    exact ⟨fresh, hs.buffers.1⟩
  · rw [State.charged, hm.countP_eq, List.countP_cons]
    have := hs.buffers.2 l
    unfold State.charged at this hq
    split
    · next e => rw [← of_decide_eq_true e]; omega
    · exact this
  · rw [(hr.map _).nodup_iff]; exact hs.replies
  · rw [hr.length_eq, ho]; exact hs.spare
  · rw [CellsBounded, hc]; exact hs.cells

theorem heldMessages_join (t : State) (l : Lane) (e : Entry) :
    (t.join l e).heldMessages ~ e.held?.toList ++ t.heldMessages := by
  have hub : (t.join l e).hub = t.hub := by simp
  rw [State.heldMessages, State.heldMessages, hub, ← List.append_assoc]
  refine (((boardEntries_join t l e).filterMap _).trans ?_).append_right _
  cases e <;> exact .refl _

theorem heldReplies_join (t : State) (l : Lane) (e : Entry) : (t.join l e).heldReplies ~ e.reply?.toList ++ t.heldReplies := by
  refine ((boardEntries_join t l e).filterMap _).trans ?_
  cases e <;> exact .refl _

theorem cellsUsed_join (t : State) (l : Lane) (e : Entry) : (t.join l e).cellsUsed = t.cellsUsed + if e.isCell then 1 else 0 := by
  rw [State.cellsUsed, (boardEntries_join t l e).countP_eq, List.countP_cons]; rfl

theorem Stored.joinMessage {h : Held} (hs : Stored spare t) (hg : t.grantBuffer h.message.sender = some h.buffer) (l : Lane) :
    Stored spare (t.join l (.message h)) :=
  hs.message hg (heldMessages_join ..) (heldReplies_join ..) (cellsUsed_join ..) (by simp)

/-- An event cell is used while one is free (R60). -/
theorem Stored.joinCell (hs : Stored spare t) (hc : t.cellsUsed < Config.eventCells) (l : Lane) (e : InputEvent) (now : Nat) :
    Stored spare (t.join l (.cell e now)) where
  buffers := ⟨by rw [((heldMessages_join t l (.cell e now)).map _).nodup_iff]; exact hs.buffers.1,
    fun k => by rw [State.charged, (heldMessages_join t l (.cell e now)).countP_eq]; exact hs.buffers.2 k⟩
  replies := by rw [((heldReplies_join t l (.cell e now)).map _).nodup_iff]; exact hs.replies
  spare := by
    have hub : (t.join l (.cell e now)).hub = t.hub := by simp
    rw [(heldReplies_join t l (.cell e now)).length_eq, hub]
    exact hs.spare
  cells := by rw [CellsBounded, cellsUsed_join]; exact hc

/-- A hub reply takes the lower-numbered free reserved buffer, where one is spare (R57, R95). -/
theorem Stored.placeReply (hs : Stored (spare + 1) t) (l : Lane) (tag : Nat) (reference : Word) (payload : List Byte) :
    Stored spare (t.placeReply l tag reference payload) := by
  have hub : (t.placeReply l tag reference payload).hub = t.hub := by simp
  have messages := heldMessages_join t l (.reply ⟨t.grantReply, tag, reference, payload, t.now⟩)
  have replies := heldReplies_join t l (.reply ⟨t.grantReply, tag, reference, payload, t.now⟩)
  have one : t.heldReplies.length ≤ 1 := by have := hs.spare; omega
  have free : t.grantReply ∉ t.heldReplies.map Reply.buffer := by
    unfold State.grantReply State.replyFree
    match t.heldReplies, one with
    | [], _ => simp
    | [r], _ =>
      have : r.buffer = 0 ∨ r.buffer = 1 := by omega
      rcases this with h | h <;> simp [h]
  refine ⟨⟨?_, fun k => ?_⟩, ?_, ?_, ?_⟩
  · rw [State.placeReply, (messages.map _).nodup_iff]; exact hs.buffers.1
  · rw [State.charged, State.placeReply, messages.countP_eq]; exact hs.buffers.2 k
  · rw [State.placeReply, (replies.map _).nodup_iff]
    exact List.nodup_cons.2 ⟨free, hs.replies⟩
  · have := hs.spare
    have length : (t.placeReply l tag reference payload).heldReplies.length = t.heldReplies.length + 1 :=
      replies.length_eq.trans (by simp [Entry.reply?])
    rw [hub]
    omega
  · rw [CellsBounded, State.placeReply, cellsUsed_join]; exact hs.cells

end
end Sys2Proof.Machine

/-! PROOFS. Orderly changes, which leave the references sound and take no storage beyond the spare reserved buffers: the operations
on the FIFOs, on the exchange table and of the loss of lanes (O57, O59). -/

namespace Sys2Proof.Machine

open scoped List

/-! ## Orderly changes -/

/-- A change that leaves the references sound and the storage bounded, and takes at most `uses` of the spare reserved buffers. -/
structure Orderly (uses : Nat) (s t : State) : Prop where
  references : ReferencesSound s → ReferencesSound t
  stored : ∀ spare, Stored (spare + uses) s → Stored spare t

theorem Orderly.refl (s : State) : Orderly 0 s s := ⟨id, fun _ => id⟩

variable {n m : Nat}

theorem Orderly.trans {s t u : State} (h : Orderly n s t) (h' : Orderly m t u) : Orderly (n + m) s u :=
  ⟨h'.references ∘ h.references, fun spare hs => h'.stored spare (h.stored _ (by rwa [Nat.add_assoc, Nat.add_comm m n]))⟩

/-- Of two orderly changes, the one that a condition chooses is orderly. -/
theorem Orderly.ite {p : Prop} [Decidable p] {s t u : State} (h : p → Orderly n s t) (h' : ¬p → Orderly n s u) :
    Orderly n s (if p then t else u) := by
  split
  · exact h ‹_›
  · exact h' ‹_›

section
variable {s t u : State} (h : Orderly n s t)
include h

theorem Orderly.mono (hn : n ≤ m) : Orderly m s t :=
  ⟨h.references, fun spare hs => h.stored spare (hs.mono (by omega))⟩

/-- A further change that takes no storage. -/
theorem Orderly.frees (hr : ReferencesSound t → ReferencesSound u) (hu : Frees t u) : Orderly n s u :=
  h.trans (m := 0) ⟨hr, fun _ hs => hs.frees hu⟩

theorem Orderly.sheds (hu : Sheds t u) : Orderly n s u := h.frees (fun hr => hr.sheds hu) (Frees.of_sheds hu)

theorem Orderly.foldl {α : Type} {f : State → α → State} (hf : ∀ t a, Orderly 0 t (f t a)) (xs : List α) :
    Orderly n s (xs.foldl f t) := by
  induction xs generalizing t with
  | nil => exact h
  | cons x xs ih => exact ih (h.trans (hf t x))

/-! ### FIFOs -/

theorem Orderly.filterFifos (keep : Lane → Entry → Bool) (keepHub : Held → Bool) : Orderly n s (t.filterFifos keep keepHub) := by
  refine h.sheds ⟨fun l => ?_, ?_, by simp, by simp⟩
  · rw [filterFifos_lane]; exact subperm_map _ List.filter_sublist.subperm
  · rw [filterFifos_hub]; exact List.filter_sublist.subperm

omit h in
theorem removeAt_fifo (t : State) (l k : Lane) (place : Nat) : ((t.removeAt l place).lane k).fifo =
    if k = l then (t.lane l).fifo.eraseIdx place else (t.lane k).fifo := by
  unfold State.removeAt
  by_cases e : k = l <;> dsimp only <;> split <;> simp [e]

theorem Orderly.removeAt (l : Lane) (place : Nat) : Orderly n s (t.removeAt l place) := by
  refine h.sheds ⟨fun k => ?_, by simp, by simp, by simp⟩
  rw [removeAt_fifo]
  split
  · next hk => subst hk; exact subperm_map _ (List.eraseIdx_sublist ..).subperm
  · exact .refl _

theorem Orderly.placeEvent (l : Lane) (e : InputEvent) : Orderly n s (t.placeEvent l e) := by
  unfold State.placeEvent
  split
  · exact h.sheds (by simp [Sheds])
  split
  · exact h
  split
  · next fifo hc =>
    refine h.sheds ⟨fun k => ?_, by simp, by simp, by simp⟩
    rw [State.lane_updLane]
    split
    · next hk => subst hk; rw [coalesced_form hc]
    · exact .refl _
  split
  · next hc =>
    have cell : ∀ hr : ReferencesSound t, ReferencesSound (t.join l (.cell e t.now)) := fun hr =>
      hr.join trivial (fun _ h => by cases h) fun _ h => by cases h
    exact h.trans (m := 0) ⟨cell, fun spare hs => hs.joinCell hc l e t.now⟩
  · exact h.sheds (by simp [Sheds])

/-! ### The exchange table -/

omit h in
theorem Frees.setEntry (t : State) (i : Fin 48) (e : ExchangeEntry) : Frees t (t.setEntry i e) :=
  Frees.of_references (refs := fun _ => []) (by simp) rfl

theorem Orderly.setEntry {i : Fin 48} (hi : ReferencesSound s → t.Unnamed i) (e : ExchangeEntry) : Orderly n s (t.setEntry i e) :=
  ⟨fun hs => (h.references hs).setEntry (hi hs) e, fun spare hs => (h.stored spare hs).frees (Frees.setEntry t i e)⟩

theorem Orderly.setExchange {i : Fin 48} (hi : ReferencesSound s → t.Unnamed i) (x : ExchangeState) :
    Orderly n s (t.setExchange i x) :=
  h.setEntry hi _

theorem Orderly.freeEntry {i : Fin 48} (hi : ReferencesSound s → t.Unnamed i) : Orderly n s (t.freeEntry i) :=
  h.setEntry hi _

/-- An entry in CLOSING is seen late. -/
theorem Orderly.setLate {i : Fin 48} {x : Exchange} {c : Conclusion} {late : Bool} (hx : (t.entry i).state = .closing x c late) :
    Orderly n s (t.setExchange i (.closing x c true)) :=
  h.frees (fun hr => hr.setLate hx) (Frees.setEntry t i _)

omit h in
theorem Frees.conclude (t : State) (i : Fin 48) (x : Exchange) (c : Conclusion) : Frees t (t.conclude i x c) := by
  refine Frees.of_references (refs := fun l => if t.concludes l then if x.requester = l then [i] else [] else [])
    (fun l => ?_) (by simp)
  rw [conclude_lane, State.told]
  split <;> simp

theorem Orderly.conclude {i : Fin 48} (hi : ReferencesSound s → t.Unnamed i) (x : Exchange) (c : Conclusion) :
    Orderly n s (t.conclude i x c) :=
  ⟨fun hs => (h.references hs).conclude (hi hs) x c, fun spare hs => (h.stored spare hs).frees (Frees.conclude t i x c)⟩

theorem Orderly.orderConclusions (was : State) : Orderly n s (State.orderConclusions was t) := by
  refine h.sheds ⟨fun l => ?_, by simp, by simp, by simp⟩
  rw [orderConclusions_lane]
  exact subperm_map _ (orderReferences_subperm _ _)

/-- An entry that is neither POSTED nor in CLOSING. -/
theorem Orderly.freeSettled {i : Fin 48} (hp : ∀ x, (t.entry i).state ≠ .posted x) (hc : (t.entry i).state.isClosing = false) :
    Orderly n s (t.freeEntry i) := h.freeEntry fun hs => (h.references hs).unnamed_of_settled hp hc

omit h in
/-- The REQUEST of a POSTED exchange has left its FIFO. -/
theorem unnamed_removeRequest {i : Fin 48} {x : Exchange} (hx : (t.entry i).state = .posted x)
    (hr : ReferencesSound (t.removeRequest (t.tagOf i))) : (t.removeRequest (t.tagOf i)).Unnamed i := by
  refine fun l e he => ⟨?_, ?_⟩
  · have tag : (t.removeRequest (t.tagOf i)).tagOf i = t.tagOf i := by simp [State.tagOf, State.removeRequest]
    rw [State.removeRequest, filterFifos_lane] at he
    rw [tag]
    simpa using (List.mem_filter.1 he).2
  · rintro rfl
    obtain ⟨y, c, late, hy, -⟩ := hr.belongs l _ he
    simp [State.removeRequest, hx] at hy

theorem Orderly.expire (i : Fin 48) : Orderly n s (t.expire i) := by
  unfold State.expire
  split
  · next x hx =>
    split
    · have removed : Orderly n s (t.removeRequest (t.tagOf i)) := h.filterFifos _ _
      exact removed.conclude (fun hs => unnamed_removeRequest hx (removed.references hs)) _ _
    · next hr => exact h.conclude (fun hs => (h.references hs).unnamed_of_hub (x := x) (by simp [hx]) hr) _ _
  · next hx =>
    exact h.conclude (fun hs => (h.references hs).unnamed_of_settled (by simp [hx]) (by simp [hx, ExchangeState.isClosing])) _ _
  all_goals exact h

theorem Orderly.lateSeen (tag : Nat) : Orderly n s (t.lateSeen tag) := by
  unfold State.lateSeen
  split
  · exact h
  split
  · next hx => exact h.setLate hx
  · next hx => exact h.freeSettled (by simp [hx]) (by simp [hx, ExchangeState.isClosing])
  all_goals exact h

theorem Orderly.hubAwaits (tag : Nat) : Orderly n s (t.hubAwaits tag) := by
  unfold State.hubAwaits
  split
  · exact h
  split
  · next x hx =>
    refine Orderly.ite (fun hr => h.setExchange (fun hs => ?_) _) fun _ => h
    exact (h.references hs).unnamed_of_hub (x := x) (by simp [hx]) (by rw [hr]; rfl)
  all_goals exact h

theorem Orderly.placeReply (l : Lane) (tag : Nat) (reference : Word) (payload : List Byte) :
    Orderly (n + 1) s (t.placeReply l tag reference payload) :=
  h.trans ⟨fun ht => ht.join trivial (fun _ h => by cases h) (fun _ h => by cases h),
    fun _ hs => hs.placeReply l tag reference payload⟩

/-- A completion takes a reserved buffer at the most (R85, R97). -/
theorem Orderly.complete (tag : Nat) (payload : List Byte) : Orderly (n + 1) s (t.complete tag payload) := by
  have none : Orderly (n + 1) s t := h.mono (Nat.le_succ n)
  unfold State.complete
  split
  · exact none
  split
  · next hx => exact (h.freeSettled (by simp [hx]) (by simp [hx, ExchangeState.isClosing])).placeReply _ _ _ _
  · next hx => exact none.setLate hx
  · next hx => exact none.freeSettled (by simp [hx]) (by simp [hx, ExchangeState.isClosing])
  all_goals exact none

/-- Each request that leaves the list of outstanding ones leaves a reserved buffer for its completion (R94, R97). -/
theorem Orderly.completeJobs (job : Job) (r : HubResult) (detail : Nat) : Orderly n s (t.completeJobs job r detail) := by
  have fold (xs : List Outstanding) (u : State) : Orderly xs.length u
      (xs.foldl (fun u o => u.complete o.tag (replyBytes r job.code detail [])) u) := by
    induction xs generalizing u with
    | nil => exact Orderly.refl u
    | cons o xs ih => exact (((Orderly.refl u).complete _ _).trans (ih _)).mono (by simp; omega)
  refine ⟨fun hs => (fold _ _).references ((h.references hs).sheds ?_), fun spare hs => (fold _ _).stored spare ?_⟩
  · simp [Sheds, List.length_filter_le]
  · have ht := h.stored spare hs
    have lists : t.hub.outstanding.length = (t.hub.outstanding.filter fun o => decide (o.job = job)).length
        + (t.hub.outstanding.filter fun o => decide (o.job ≠ job)).length := by
      simpa using List.length_eq_length_filter_add (l := t.hub.outstanding) fun o => decide (o.job = job)
    refine { ht with spare := ?_ }
    have : t.heldReplies.length + t.hub.outstanding.length + spare ≤ 2 := ht.spare
    show t.heldReplies.length + (t.hub.outstanding.filter fun o => decide (o.job ≠ job)).length + _ ≤ 2
    omega

end

end Sys2Proof.Machine

/-! PROOFS. The loss of lanes, domain control, the combiner, the panel path, the input units and the ports are orderly (O57, O59). -/

namespace Sys2Proof.Machine

open scoped List

/-! ## Fences, removals and the entry into LOCKDOWN -/

variable {n : Nat}

/-- A removal from the FIFOs severs lanes where it keeps of their FIFOs hub replies alone, and none of their REQUESTs. -/
theorem severed_filterFifos {t : State} {gone : Lane → Bool} {keep : Lane → Entry → Bool} {keepHub : Held → Bool}
    (own : ∀ l e, gone l = true → keep l e = true → e.isReply = true)
    (sent : ∀ l (h : Held), gone l = false → keep l (.message h) = true → h.message.kind = .request →
      gone h.message.sender = false) : Severed gone (t.filterFifos keep keepHub) where
  own l hl e he := by
    rw [filterFifos_lane] at he
    exact own l e hl (List.mem_filter.1 he).2
  sent l h hm hk := by
    rw [filterFifos_lane] at hm
    have kept := (List.mem_filter.1 hm).2
    cases hl : gone l with
    | true => cases own l _ hl kept
    | false => exact sent l h hl kept hk

theorem fencing_severed (t : State) (l : Lane) : Severed (fun k => decide (k = l)) (t.fencing l) :=
  severed_filterFifos (fun k e hk he => by simpa [of_decide_eq_true hk] using he)
    fun k h hk he hr => by simpa [of_decide_eq_false hk, Entry.isRequest, hr] using he

theorem removing_severed (t : State) (d : Domain) : Severed (fun k => decide (k.domain = d)) (t.removing d) :=
  severed_filterFifos (fun k e hk he => by simp [of_decide_eq_true hk] at he)
    fun k h hk he hr => by simpa [of_decide_eq_false hk, Entry.isRequest, hr] using he

theorem locking_severed (t : State) : Severed Lane.isApp t.locking :=
  severed_filterFifos (fun k e hk he => by simpa [hk] using he) fun k h hk he _ => by simpa [hk, Entry.fromApp] using he

/-! ## The stages of RESTART HUB -/

/-- What RESTART HUB has cleared before the default table is made active (R104). -/
def State.emptied (s : State) : State :=
  let s := ({ s.updLanes fun _ r => r.restart with hub := Hub.reset, routes := [] }).dropExchanges
  { s with scanner := { s.scanner with visit := none }, panel := { s.panel with staged := none, scrolls := [] } }

/-- The contacts and keys have ended silently, and the focus lane is A0 (R146). -/
def State.inputsRestarted (u : State) : State :=
  { u.endInputs fun _ => true with touch := { (u.endInputs fun _ => true).touch with focus := 0 } }

theorem clearHub_eq (s : State) : s.clearHub = (s.emptied.setActive defaultTable).inputsRestarted := rfl

@[simp] theorem emptied_fifo (s : State) (l : Lane) : (s.emptied.lane l).fifo = [] := by
  simp [State.emptied, State.dropExchanges, LaneState.restart]

/-! ## Orderly changes of the units -/

section
variable {s t u : State} (h : Orderly n s t)
include h

theorem Orderly.removeExchanges {gone : Lane → Bool} (sv : Severed gone t) (keepHub : Bool) :
    Orderly n s (t.removeExchanges gone keepHub) :=
  h.frees (fun hr => hr.removeExchanges sv keepHub)
    (Frees.of_references (refs := t.lossReferences gone) (fun l => by rw [removeExchanges_lane, told_tellsOf_fifo]) (by simp))

theorem Orderly.lockExchanges (sv : Severed Lane.isApp t) : Orderly n s t.lockExchanges :=
  h.frees (fun hr => hr.lockExchanges sv)
    (Frees.of_references (refs := t.lossReferences Lane.isApp) (fun l => by rw [lockExchanges_lane, told_tellsOf_fifo]) (by simp))

/-! ### Inputs and the panel path -/

theorem Orderly.raise (d : Domain) (f : Flag) : Orderly n s (t.raise d f) := h.sheds (by simp [Sheds])

theorem Orderly.setKey (k : Fin 16) (r : Key) : Orderly n s (t.setKey k r) := h.sheds (by simp [Sheds])

/-- The panel path's own records. -/
theorem Orderly.panel (p : Panel) : Orderly n s { t with panel := p } := h.sheds (by simp [Sheds])

/-- The touch router's own records. -/
theorem Orderly.touch (x : Touch) : Orderly n s { t with touch := x } := h.sheds (by simp [Sheds])

theorem Orderly.setContact (i : Fin 2) (c : Option Contact) : Orderly n s (t.setContact i c) := h.touch _

/-- A change of a lane's record that leaves its FIFO. -/
theorem Orderly.updLane {l : Lane} {f : LaneState → LaneState} (hf : ∀ r, (f r).fifo = r.fifo) : Orderly n s (t.updLane l f) :=
  h.sheds (by simp [Sheds, hf])

theorem Orderly.updLanes {f : Lane → LaneState → LaneState} (hf : ∀ l r, (f l r).fifo = r.fifo) : Orderly n s (t.updLanes f) :=
  h.sheds (by simp [Sheds, hf])

theorem Orderly.updDom (d : Domain) (f : DomainRecord → DomainRecord) : Orderly n s (t.updDom d f) := h.sheds (by simp [Sheds])

theorem Orderly.cancelInputs (p : Lane → Bool) : Orderly n s (t.cancelInputs p) := by
  refine Orderly.foldl (Orderly.foldl h (fun u i => ?_) _) (fun u k => ?_) _
  · have hu := Orderly.refl u
    unfold State.cancelContact
    split
    · exact Orderly.ite (fun _ => (hu.placeEvent _ _).setContact _ _) fun _ => hu
    all_goals exact hu
  · have hu := Orderly.refl u
    unfold State.cancelKey
    split
    · exact Orderly.ite (fun _ => (hu.placeEvent _ _).setKey _ _) fun _ => hu
    · exact hu

theorem Orderly.captureChange (had : Bool) : Orderly n s (State.captureChange had t) := by
  have hr : Orderly n s (t.raiseAll .capture) := ((h.raise _ _).raise _ _).raise _ _
  exact Orderly.ite (fun _ => h) fun _ => Orderly.ite (fun _ => hr.cancelInputs _) fun _ => hr

theorem Orderly.setActive (table : PaneTable) : Orderly n s (t.setActive table) := (h.panel _).captureChange _

theorem Orderly.frameStart : Orderly n s t.frameStart := by
  have hs : Orderly n s t.applyScrolls := (h.panel _).completeJobs _ _ _
  have ht : Orderly n s t.applyScrolls.applyStaged := by
    unfold State.applyStaged
    split
    · exact hs
    · exact ((hs.panel _).completeJobs _ _ _).raise _ _
  exact ((ht.captureChange _).panel _).panel _

/-! ### LOCKDOWN and the combiner -/

theorem Orderly.enterLockdown : Orderly n s t.enterLockdown := by
  have mode : Orderly n s { t with hub := { t.hub with mode := .lockdown } } := h.sheds (by simp [Sheds])
  have closed : Orderly n s t.unstaged := (Orderly.lockExchanges (mode.filterFifos _ _) (locking_severed t)).panel _
  rw [enterLockdown_eq]
  have inputs := ((closed.completeJobs .setPanes .cancelled 0).setActive lockdownTable).cancelInputs Lane.isApp
  exact inputs.sheds (by simp [Sheds, State.cancelled])

theorem Orderly.evaluate : Orderly n s t.evaluate := by
  have hf : Orderly n s t.formOutput := h.sheds (by simp [Sheds])
  exact Orderly.ite (fun _ => hf.enterLockdown) fun _ => hf

theorem Orderly.evaluateViol (was : State) : Orderly n s (State.evaluateViol was t) :=
  Orderly.ite (fun _ => h) fun _ => h.evaluate.orderConclusions was

theorem Orderly.evaluateMismatch (was : Bool) (k : Fin 12) : Orderly n s (State.evaluateMismatch was k t) :=
  Orderly.ite (fun _ => h) fun _ => h.evaluate

/-! ### Domain control -/

theorem Orderly.fenceLane (l : Lane) : Orderly n s (t.fenceLane l) := by
  have hf : Orderly n s (t.fencing l) :=
    Orderly.filterFifos (h.sheds (by simp [Sheds])) _ _
  exact (((hf.removeExchanges (fencing_severed t l) true).cancelInputs _).raise _ _).raise _ _

theorem Orderly.autoFence (l : Lane) : Orderly n s (t.autoFence l) := by
  have hf : Orderly n s (if (t.lane l).fenced then t else t.fenceLane l) := Orderly.ite (fun _ => h) fun _ => h.fenceLane l
  exact (hf.updLane (f := fun r => { r with autoFenced := true }) fun _ => rfl).evaluateViol t

theorem Orderly.violate (l : Lane) : Orderly n s (t.violate l) := by
  have hv : Orderly n s (t.updLane l fun r => { r with violations := bump r.violations, tally := bumpByte r.tally }) :=
    h.updLane fun _ => rfl
  exact Orderly.ite (fun _ => hv.autoFence l) fun _ => hv

theorem Orderly.removeDomain (d : Domain) : Orderly n s (t.removeDomain d) := by
  have hr : Orderly n s (t.removing d) := Orderly.filterFifos (h.sheds (by simp [Sheds])) _ _
  rw [removeDomain_eq]
  refine Orderly.evaluateViol ((hr.removeExchanges (removing_severed t d) false).sheds (u := t.removal d)
    ⟨fun l => ?_, ?_, ?_, fun i => ?_⟩) t
  · rw [removal_lane, removeExchanges_lane]
    split_ifs with hl
    · rw [told_of_gone (decide_eq_true hl)]
    · exact .refl _
  · simp [removal_hub, State.removing, filterFifos_hub]
  · simp [removal_hub, State.removing]
  · rw [removal_entry, removeExchanges_entry, entryRemoved_congr fun l _ => removing_concludes t d l, removing_entry]

theorem Orderly.startInit (d : Domain) : Orderly n s (t.startInit d) :=
  Orderly.updLanes (h.updDom d _) fun _ _ => by split <;> rfl

theorem Orderly.raiseDomain (d : Domain) : Orderly n s (t.raiseDomain d) :=
  Orderly.ite (fun _ => h) fun _ => h.raise _ _

theorem Orderly.holdDomain (d : Domain) : Orderly n s (t.holdDomain d) := Orderly.removeDomain (h.updDom d _) d

theorem Orderly.releaseDomain (d : Domain) : Orderly n s (t.releaseDomain d) := (Orderly.startInit (h.updDom d _) d).raiseDomain d

theorem Orderly.selfRestart (d : Domain) : Orderly n s (t.selfRestart d) := by
  have hr : Orderly n s ((t.removeDomain d).startInit d) := (h.removeDomain d).startInit d
  unfold State.selfRestart
  split
  · exact hr
  · exact hr
  all_goals exact h

theorem Orderly.hold (d : Domain) : Orderly n s (t.hold d) :=
  Orderly.ite (fun _ => Orderly.completeJobs (h.updDom d _) _ _ _) fun _ => h.holdDomain d

theorem Orderly.restore (l : Lane) : Orderly n s (t.restore l) := by
  have hc : Orderly n s (t.updLane l fun r => { r with fenced := false, autoFenced := false, tally := 0 }) := h.updLane fun _ => rfl
  have ht : Orderly n s (t.updLane l fun r => { r with tally := 0 }) := h.updLane fun _ => rfl
  exact Orderly.ite (fun _ => ((hc.raise _ _).raise _ _).evaluateViol t) fun _ => ht

theorem Orderly.attend (d : Domain) (set : Byte) : Orderly n s (t.attend d set) :=
  h.updLanes fun _ _ => by split <;> rfl

theorem Orderly.goUp (d : Domain) : Orderly n s (t.goUp d) := Orderly.raiseDomain (h.updDom d _) d

theorem Orderly.finishInit (d : Domain) : Orderly n s (t.finishInit d) := by
  have cleared : Orderly n s ((t.updDom d fun r =>
      { r with window := Memory.clear r.window d.isStateByte, initialising := none, remembered := 0#8 }).updLanes fun l r =>
        if l.domain = d then { r with takeCursor := 0, putCursor := 0, deliveryNumber := 0#16 } else r) :=
    Orderly.updLanes (h.updDom d _) fun l r => by split <;> rfl
  exact Orderly.ite (fun _ => cleared) fun _ => (cleared.goUp d).attend d _

/-! ### Ports -/

theorem Orderly.writeAttention (d : Domain) (value : Word) : Orderly n s (t.writeAttention d value) := by
  refine Orderly.ite (fun _ => h.selfRestart d) fun _ => ?_
  unfold State.nameLanes
  split
  · exact h
  split
  · exact h.attend d _
  · exact (h.goUp d).attend d _
  · exact h.updDom d _
  · exact h

theorem Orderly.returnData (d : Domain) (w : Word) : Orderly n s (t.returnData d w) := h.updDom d _

theorem Orderly.clearStray (d : Domain) : Orderly n s (t.clearStray d) := h.updDom d _

theorem Orderly.clearFlags (d : Domain) (value : Word) : Orderly n s (t.clearFlags d value) := h.updDom d _

theorem Orderly.access (d : Domain) (offset size : Nat) (op : PortOp) : Orderly n s (t.access d offset size op) := by
  unfold State.access
  split
  · cases op with
    | read => exact h.returnData d _
    | write => exact Orderly.ite (fun _ => h.updDom d _) fun _ => h.updDom d _
  split
  · next r _ =>
    cases op with
    | read => exact h.returnData d _
    | write value =>
      cases r with
      | attention => exact h.writeAttention d value
      | acknowledge => exact h.clearFlags d value
      | status => exact h
      | identity => exact h.clearStray d
  · have stray := h.updDom d fun r => { r with stray := bumpByte r.stray }
    cases op with
    | read => exact stray.returnData d _
    | write => exact stray

/-! ### Lines, frames and inputs -/

theorem Orderly.setLine (k : Fin 12) (r : Line) : Orderly n s (t.setLine k r) := h.sheds (by simp [Sheds])

theorem Orderly.filteredChange (k : Fin 12) (level : Bool) : Orderly n s (t.filteredChange k level) := by
  refine Orderly.evaluateMismatch ?_ _ _
  have hl := h.setLine k ((t.line k).take level)
  unfold State.tellOwner
  dsimp only
  split
  · exact hl
  · exact Orderly.ite (fun _ => Orderly.ite (fun _ => (hl.raise _ _).placeEvent _ _) fun _ => hl.raise _ _) fun _ => hl

theorem Orderly.settle (k : Fin 12) (level : Bool) : Orderly n s (t.settle k level) := (h.setLine _ _).evaluateMismatch _ _

theorem Orderly.sampleLine (levels : BitVec 12) (k : Fin 12) : Orderly n s (State.sampleLine levels t k) := by
  unfold State.sampleLine
  dsimp only
  split
  · exact h
  · exact h.setLine _ _
  · exact Orderly.ite (fun _ => h.setLine _ _) fun _ => Orderly.ite (fun _ => h.setLine _ _) fun _ => h.settle _ _
  · exact Orderly.ite (fun _ => h.setLine _ _) fun _ => Orderly.ite (fun _ => h.setLine _ _) fun _ => h.filteredChange _ _

theorem Orderly.outputRest : Orderly n s t.beginPanelEvent.outputRest := h.sheds (by simp [Sheds])

theorem Orderly.setFrameMode (mode : FrameMode) : Orderly n s (t.setFrameMode mode) :=
  Orderly.evaluate (h.sheds (by simp [Sheds]))

theorem Orderly.produce (owner : Option Lane) (e : InputEvent) : Orderly n s (t.produce owner e) := by
  cases owner with
  | none => exact h
  | some l => exact h.placeEvent l e

theorem Orderly.takeContact (c : RawContact) : Orderly n s (t.takeContact c) := by
  unfold State.takeContact
  split
  · unfold State.touchContact
    split
    · exact (h.produce _ _).setContact _ _
    · exact h
    · exact h
    · exact h
    · exact (((h.produce _ _).setContact _ _).produce _ _).setContact _ _
    · exact (h.produce _ _).setContact _ _
    · exact (h.produce _ _).setContact _ _
    · exact h
  · exact h

theorem Orderly.takeReport (report : List RawContact) : Orderly n s (t.takeReport report) :=
  h.foldl (fun u c => (Orderly.refl u).takeContact c) _

theorem Orderly.acceptKey (k : Fin 16) : Orderly n s (t.acceptKey k) :=
  Orderly.ite (fun _ => (h.produce _ _).setKey _ _) fun _ => (h.produce _ _).setKey _ _

theorem Orderly.senseKey (down : BitVec 16) (k : Fin 16) : Orderly n s (State.senseKey down t k) :=
  Orderly.ite (fun _ => h.setKey _ _) fun _ => Orderly.ite (fun _ => h.setKey _ _) fun _ => h.acceptKey k

/-! ### The hub service -/

theorem Orderly.hubTake (m : Message) : Orderly n s (t.hubTake m) :=
  Orderly.hubAwaits (h.sheds ⟨by simp [State.clearBufferWait], (List.tail_sublist _).subperm, by simp, by simp⟩) m.tag

/-- A request that stands on the list of outstanding ones has a claim to a reserved buffer (R94, R95). -/
theorem Orderly.addOutstanding (job : Job) (m : Message) : Orderly (n + 1) s (t.addOutstanding job m) := by
  refine h.trans ⟨fun ht => ⟨ht.belongs, ht.requests, ht.conclusions⟩, fun spare hs => { hs with spare := ?_ }⟩
  have := hs.spare
  show t.heldReplies.length + (t.hub.outstanding ++ [_]).length + spare ≤ 2
  rw [List.length_append, List.length_singleton]
  omega

theorem Orderly.setMode (m : HubMode) : Orderly n s (t.setMode m) :=
  h.sheds (by simp [Sheds, State.setMode])

theorem Orderly.installRoutes (table : List Route) : Orderly n s (t.installRoutes table) := by
  have hr : Orderly n s { t with routes := table, hub := { t.hub with routesLoaded := true } } := h.sheds (by simp [Sheds])
  exact Orderly.ite (fun _ => hr.setMode .openMode) fun _ => hr

omit h in
/-- A state that holds nothing in its FIFOs and has no request outstanding. -/
theorem Orderly.empty (hf : ∀ l, (u.lane l).fifo = []) (hh : u.hub.fifo = []) (ho : u.hub.outstanding = []) (s : State) :
    Orderly 0 s u := by
  have boards : u.boardEntries = [] := by simp [State.boardEntries, hf]
  have frees : Frees s u := ⟨by simp [State.heldMessages, boards, hh], by simp [State.heldReplies, boards],
    by simp [State.cellsUsed, boards], by simp [ho]⟩
  exact ⟨fun _ => ⟨by simp [hf], by simp [boards], by simp [hf]⟩, fun spare hs => hs.frees frees⟩

/-- RESTART HUB empties the FIFOs and the list of outstanding requests (R104). -/
theorem Orderly.clearHub : Orderly n s t.clearHub := by
  have emptied : Orderly n s t.emptied := h.trans (m := 0) (Orderly.empty (emptied_fifo t) rfl rfl t)
  rw [clearHub_eq]
  exact (emptied.setActive defaultTable).sheds (by simp [Sheds, State.inputsRestarted])

end
end Sys2Proof.Machine

/-! PROOFS. Takes, deliveries and the hub service are orderly (O57, O59). -/

namespace Sys2Proof.Machine

open scoped List

/-! ## Takes -/

section
variable {s t : State} {l : Lane} {i : Fin 48} {spare n : Nat}

theorem tagOf_mod (s : State) (i : Fin 48) : s.tagOf i % 64 = i := by
  unfold State.tagOf
  omega

/-- An entry that no FIFO names is named by none under its new tag either: the tag gives the entry's number. -/
theorem ReferencesSound.unnamed_setEntry (hs : ReferencesSound t) (hi : t.Unnamed i) (new : ExchangeEntry) :
    (t.setEntry i new).Unnamed i := by
  intro l e he
  have he : e ∈ (t.lane l).fifo := by simpa using he
  refine ⟨Bool.eq_false_iff.2 fun hr => ?_, (hi l e he).2⟩
  obtain ⟨h, rfl, hk, ht⟩ := isRequest_iff.1 hr
  obtain ⟨j, x, hj, -⟩ := hs.belongs l _ he hk
  have ji : j = i := Fin.ext (by rw [← tagOf_mod t j, ← hj, ht, tagOf_mod])
  have := (hi l _ he).1
  simp [Entry.isRequest, hk, hj, ji] at this

/-- An entry that can be claimed is FREE or LAPSED (R78). -/
theorem settled_of_claimable (h : s.claimable = some i) :
    (∀ x, (s.entry i).state ≠ .posted x) ∧ (s.entry i).state.isClosing = false := by
  unfold State.claimable at h
  split at h
  · next hf =>
    cases h
    have free : (s.entry i).state = .free := by simpa using List.find?_some hf
    simp [free, ExchangeState.isClosing]
  · obtain ⟨-, x, hx⟩ := earliestLapsed_mem s _ i h
    simp [hx, ExchangeState.isClosing]

/-- A message joins the FIFO of its recipient; where it is a REQUEST, its entry is POSTED and nothing else names it. -/
theorem ReferencesSound.joinMessage (hs : ReferencesSound t) {r : Recipient} {h : Held}
    (posts : h.message.kind = .request → ∃ i x, h.message.tag = t.tagOf i ∧ (t.entry i).state = .posted x
      ∧ x.requester = h.message.sender ∧ x.responder.recipient = r ∧ t.Unnamed i) : ReferencesSound (t.joinMessage r h) := by
  cases r with
  | hub => exact ⟨hs.belongs, hs.requests, hs.conclusions⟩
  | board l =>
    simp only [State.joinMessage]
    split
    · exact hs.sheds (by simp [Sheds, State.countDropped, State.clearBufferWait])
    · refine hs.join (fun hk => ?_) (fun j hj => ?_) fun _ h => by cases h
      · obtain ⟨i, x, ht, hx, hq, ha, -⟩ := posts hk
        exact ⟨i, x, ht, hx, hq, ha⟩
      · obtain ⟨y, hy, hk, ht⟩ := isRequest_iff.1 hj
        obtain rfl := Entry.message.inj hy
        obtain ⟨i, x, hi, -, -, -, hu⟩ := posts hk
        exact tagOf_inj (hi.symm.trans ht) ▸ hu

/-- A message joins in the buffer that its sender was granted (R57). -/
theorem Stored.joinRecipient (hs : Stored spare t) {h : Held} (hg : t.grantBuffer h.message.sender = some h.buffer) (r : Recipient) :
    Stored spare (t.joinMessage r h) := by
  cases r with
  | hub =>
    refine hs.message hg ?_ (.refl _) rfl rfl
    show t.boardEntries.filterMap Entry.held? ++ (t.hub.fifo ++ [h]) ~ h :: t.heldMessages
    rw [← List.append_assoc]
    exact List.perm_append_singleton ..
  | board l =>
    simp only [State.joinMessage]
    split
    · exact hs.frees (Frees.of_sheds (by simp [Sheds, State.countDropped, State.clearBufferWait]))
    · exact hs.joinMessage hg l

theorem grantBuffer_congr {u : State} (hf : ∀ l, (u.lane l).fifo = (t.lane l).fifo) (hh : u.hub = t.hub) (l : Lane) :
    u.grantBuffer l = t.grantBuffer l := by
  have messages : u.heldMessages = t.heldMessages := by simp only [State.heldMessages, State.boardEntries, hf, hh]
  have free : u.bufferFree = t.bufferFree := funext fun b => by simp only [State.bufferFree, messages]
  unfold State.grantBuffer State.charged
  rw [messages, free]

section
variable (h : Orderly n s t)
include h

theorem Orderly.refuseTake (l : Lane) (slot : Nat) (m : Slot) (o : TakeOutcome) : Orderly n s (t.refuseTake l slot m o) := by
  have hr : Orderly n s (((t.writeOutcome l slot o m.refusedTag).updLane l fun r =>
      { r with refused := bump r.refused }).raise l.domain (.outcome l)) := h.sheds (by simp [Sheds, State.writeOutcome])
  have hl := Orderly.ite (p := o = .late) (fun _ => hr.lateSeen m.tag) fun _ => hr
  exact Orderly.ite (fun _ => hl.violate l) fun _ => hl

theorem Orderly.afterTake (l : Lane) (slot : Nat) (first : Bool) : Orderly n s (t.afterTake l slot first) :=
  h.sheds (by simp [Sheds, State.afterTake])

theorem Orderly.admitted (l : Lane) (slot tag : Nat) : Orderly n s (t.admitted l slot tag) :=
  h.sheds (by simp [Sheds, State.admitted, State.writeOutcome])

theorem Orderly.spend (route : Option Nat) : Orderly n s (t.spend route) := h.sheds (by simp [Sheds])

/-- A NOTICE or an ANSWER joins the FIFO of its recipient. -/
theorem Orderly.joinMessage {x : Held} (hg : t.grantBuffer x.message.sender = some x.buffer) (hk : x.message.kind ≠ .request)
    (r : Recipient) : Orderly n s (t.joinMessage r x) :=
  h.trans (m := 0) ⟨fun ht => ht.joinMessage fun e => absurd e hk, fun _ ht => ht.joinRecipient hg r⟩

end

theorem Orderly.acceptNotice {b : Fin 30} (hg : s.grantBuffer l = some b) (slot : Nat) (m : Slot) (a : Address) (route : Nat) :
    Orderly 0 s (s.acceptNotice l slot m a route b) :=
  Orderly.admitted (Orderly.joinMessage ((Orderly.refl s).spend _)
    (by rw [grantBuffer_congr (t := s) (by simp) (by simp)]; exact hg) (by simp) _) _ _ _

theorem Orderly.acceptAnswer {b : Fin 30} (hg : s.grantBuffer l = some b) {m : Slot} {x : Exchange}
    (hj : s.judge l m = .answer i x) (slot : Nat) : Orderly 0 s (s.acceptAnswer l slot m i x b) := by
  obtain ⟨-, hx, -⟩ := judge_eq_answer hj
  have freed : Orderly 0 s (s.freeEntry i) :=
    (Orderly.refl s).freeSettled (by simp [hx]) (by simp [hx, ExchangeState.isClosing])
  exact (freed.joinMessage (by rw [grantBuffer_congr (t := s) (by simp) (by simp)]; exact hg) (by simp) _).admitted _ _ _

/-- The REQUEST of an exchange that nothing names goes to its recipient (R44, R91). -/
theorem ReferencesSound.placeRequest (hs : ReferencesSound t) {x : Exchange} {h : Held} (ht : h.message.tag = t.tagOf i)
    (hx : (t.entry i).state = .posted x) (hq : x.requester = h.message.sender) (hi : t.Unnamed i) :
    ReferencesSound (t.placeRequest i x h) := by
  have joined : ReferencesSound (t.joinMessage x.responder.recipient h) :=
    hs.joinMessage fun _ => ⟨i, x, ht, hx, hq, rfl, hi⟩
  unfold State.placeRequest
  split
  · next hf =>
    refine joined.conclude (State.Unnamed.of_subset hi (fun k => ?_) (by simp [State.tagOf, joinMessage_entry])) x _
    cases hr : x.responder.recipient with
    | hub => exact List.Subset.refl _
    | board r =>
      have hf : (t.lane r).fenced = true := by simpa [hr, State.recipientFenced] using hf
      rw [joinMessage_board t t r h rfl, if_pos hf, State.clearBufferWait, State.lane_updLanes, State.lane_updLane]
      split
      · next e => subst e; exact List.Subset.refl _
      · exact List.Subset.refl _
  · exact joined

theorem Stored.placeRequest (hs : Stored spare t) {h : Held} (hg : t.grantBuffer h.message.sender = some h.buffer) (i : Fin 48)
    (x : Exchange) : Stored spare (t.placeRequest i x h) := by
  have joined := hs.joinRecipient hg x.responder.recipient
  unfold State.placeRequest
  split
  · exact joined.frees (Frees.conclude ..)
  · exact joined

theorem Orderly.acceptRequest {b : Fin 30} (hg : s.grantBuffer l = some b) (slot : Nat) (m : Slot) (a : Address)
    (route : Option Nat) : Orderly 0 s (s.acceptRequest l slot m a route b) := by
  cases hi : s.claimable with
  | none => simp only [State.acceptRequest, hi]; exact Orderly.refl s
  | some i =>
    obtain ⟨hp, hc⟩ := settled_of_claimable hi
    obtain ⟨u, hu⟩ : ∃ u, u = s.spend route := ⟨_, rfl⟩
    obtain ⟨x, hx⟩ : ∃ x, x = s.requestExchange l m.reference a route := ⟨_, rfl⟩
    have spent : Orderly 0 s u := hu ▸ (Orderly.refl s).spend route
    have unnamed (hr : ReferencesSound u) : u.Unnamed i :=
      hr.unnamed_of_settled (by simpa [hu] using hp) (by simpa [hu] using hc)
    have grant : (u.claim i x).grantBuffer l = some b := by
      rw [grantBuffer_congr (t := s) (by simp [hu]) (by simp [hu])]; exact hg
    rw [acceptRequest_eq hi hx rfl, ← hu]
    refine Orderly.admitted ⟨fun hs => ?_, fun spare hs => Stored.placeRequest ?_ grant i x⟩ _ _ _
    · have hr := spent.references hs
      have claimed : ReferencesSound (u.claim i x) := by rw [claim_eq]; exact hr.setEntry (unnamed hr) _
      refine claimed.placeRequest rfl (by simp [claim_eq]) (by simp [hx, State.requestExchange]) ?_
      rw [claim_eq]
      exact hr.unnamed_setEntry (unnamed hr) _
    · rw [claim_eq]
      exact (spent.stored spare hs).frees (Frees.setEntry u i _)

theorem takeFor_orderly (s : State) (l : Lane) (first : Bool) : Orderly 0 s (s.takeFor l first) := by
  have h := Orderly.refl s
  have held (slot : Nat) : Orderly 0 s (s.heldBack l slot) := h.sheds (by simp [Sheds, State.heldBack, State.noVisit])
  unfold State.takeFor
  split
  · exact h.sheds (by simp [Sheds, State.noVisit])
  dsimp only
  split
  · exact (h.refuseTake l _ _ _).afterTake l _ first
  · exact held _
  · exact held _
  · exact held _
  · next hg => exact (Orderly.acceptRequest hg _ _ _ _).afterTake l _ first
  · next hg => exact (Orderly.acceptNotice hg _ _ _ _).afterTake l _ first
  · next hj hg => exact (Orderly.acceptAnswer hg hj _).afterTake l _ first

theorem take_orderly (h : exec .take s = .next t) : Orderly 0 s t := by
  refine take_induction h (Orderly.refl s) fun l first _ => ?_
  have visit : Orderly 0 s (s.visiting l first) := (Orderly.refl s).sheds (by cases first <;> simp [Sheds, State.visiting])
  exact visit.trans (takeFor_orderly (s.visiting l first) l first)

end
end Sys2Proof.Machine

/-! PROOFS. Deliveries, the hub service and every other command keep the references and the storage in use in order (O57, O59). -/

namespace Sys2Proof.Machine

open scoped List

/-! ## Deliveries -/

section
variable {s t : State} {l : Lane} {i : Fin 48} {e : Entry} {n : Nat}

/-- Where the REQUEST or the conclusion reference of an exchange has left its FIFO, nothing names the entry. -/
theorem ReferencesSound.unnamed_of_left (hs : ReferencesSound s) (hf : (s.lane l).fifo = e :: (t.lane l).fifo)
    (ho : ∀ k, k ≠ l → (t.lane k).fifo = (s.lane k).fifo) (he : ∀ j, t.entry j = s.entry j)
    (named : e.isRequest (fun m => decide (m.tag = s.tagOf i)) = true ∨ e = .conclusion i) : t.Unnamed i := by
  have tag : t.tagOf i = s.tagOf i := by rw [State.tagOf, State.tagOf, he]
  have mem : ∀ k, ∀ f ∈ (t.lane k).fifo, f ∈ (s.lane k).fifo := fun k f hk => by
    by_cases e : k = l
    · subst e; rw [hf]; exact List.mem_cons_of_mem _ hk
    · rwa [← ho k e]
  have heads := hs.belongs l e (hf ▸ List.mem_cons_self ..)
  intro k f hk
  rw [tag]
  have belongs := hs.belongs k f (mem k f hk)
  rcases named with hr | rfl
  · refine ⟨Bool.eq_false_iff.2 fun hq => ?_, ?_⟩
    · have one := hs.requests (s.tagOf i)
      rw [(boardEntries_perm_cons (by rw [hf]) fun k hk => (ho k hk).symm).countP_eq, List.countP_cons_of_pos hr] at one
      have : 0 < t.boardEntries.countP (Entry.isRequest fun m => decide (m.tag = s.tagOf i)) :=
        List.countP_pos_iff.2 ⟨f, mem_boardEntries.2 ⟨k, hk⟩, hq⟩
      omega
    · rintro rfl
      obtain ⟨h, rfl, hk, ht⟩ := isRequest_iff.1 hr
      obtain ⟨j, x, hj, hx, -⟩ := heads hk
      obtain rfl := tagOf_inj (ht.symm.trans hj)
      obtain ⟨y, c, late, hy, -⟩ := belongs
      rw [hx] at hy
      cases hy
  · obtain ⟨x, c, late, hx, rfl⟩ := heads
    refine ⟨Bool.eq_false_iff.2 fun hq => ?_, ?_⟩
    · obtain ⟨h, rfl, hk, ht⟩ := isRequest_iff.1 hq
      obtain ⟨j, y, hj, hy, -⟩ := belongs hk
      obtain rfl := tagOf_inj (ht.symm.trans hj)
      rw [hx] at hy
      cases hy
    · rintro rfl
      obtain ⟨y, d, late', hy, rfl⟩ := belongs
      rw [hx] at hy
      cases hy
      have one := hs.conclusions x.requester i
      rw [hf, List.count_cons_self] at one
      exact absurd (List.count_pos_iff.2 hk) (by omega)

/-- What a delivery tells the exchange table is about the entry that the delivered one named (R80, R86). -/
theorem Orderly.tellDelivered (h : Orderly n s t) (named : ∀ i,
    e.isRequest (fun m => decide (m.tag = t.tagOf i)) = true ∨ e = .conclusion i → ReferencesSound s → t.Unnamed i) : Orderly n s (t.tellDelivered e) := by
  cases e with
  | message m =>
    refine Orderly.ite (fun hk => ?_) fun _ => h
    unfold State.requestDelivered
    split
    · exact h
    · next i hi =>
      split
      · exact h.setExchange (named i (.inl (by simp [Entry.isRequest, hk, (findTag_eq_some ..).1 hi]))) _
      all_goals exact h
  | reply | cell => exact h
  | conclusion i =>
    unfold State.tellDelivered State.concluded
    dsimp only
    split
    · exact h.setExchange (named i (.inr rfl)) _
    · exact h.freeEntry (named i (.inr rfl))
    all_goals exact h

theorem deliver_orderly {rest : List Entry} (hf : (s.lane l).fifo = e :: rest) (slot : Nat) : Orderly 0 s (s.deliver l e slot) := by
  unfold State.deliver
  dsimp only
  generalize hu : State.raise _ l.domain (.inbound l) = u
  have fifo : ∀ k, (u.lane k).fifo = if k = l then rest else (s.lane k).fifo := fun k => by
    rw [← hu]
    simp only [State.raise_frame, removeAt_fifo]
    split
    · next e => subst e; simp [hf]
    · next e => simp [e]
  have entry : ∀ j, u.entry j = s.entry j := fun j => by simp [← hu]
  have left : Sheds s u := by
    refine ⟨fun k => ?_, by simp [← hu], by simp [← hu], entry⟩
    rw [fifo]
    split
    · next e => subst e; rw [hf]; exact subperm_map _ (List.sublist_cons_self ..).subperm
    · exact .refl _
  refine ((Orderly.refl s).sheds left).tellDelivered fun i hi hs => ?_
  refine hs.unnamed_of_left (l := l) (e := e) (by rw [hf, fifo, if_pos rfl]) (fun k hk => by rw [fifo, if_neg hk]) entry ?_
  rwa [State.tagOf, entry, ← State.tagOf] at hi

theorem delivery_orderly (h : exec (.delivery l) s = .next t) : Orderly 0 s t := by
  have h0 := Orderly.refl s
  simp only [exec, execDelivery] at h
  (repeat' split at h) <;> cases h
  · exact h0
  · exact h0
  · exact h0.updLane fun _ => by rfl
  · exact deliver_orderly ‹_› _

/-! ## The hub service -/

/-- What a command keeps: the references sound, and the storage in use bounded. -/
structure KeepsQueue (s t : State) : Prop where
  references : ReferencesSound s → ReferencesSound t
  stored : Stored 0 s → Stored 0 t

theorem Orderly.keeps (h : Orderly 0 s t) : KeepsQueue s t := ⟨h.references, h.stored 0⟩

/-- The two reserved buffers are free or hold hub replies (R57). -/
theorem freeReplies_add (h : (s.heldReplies.map Reply.buffer).Nodup) : s.freeReplies + s.heldReplies.length = 2 := by
  have held : s.heldReplies.map Reply.buffer ~ (List.finRange 2).filter fun b => decide (b ∈ s.heldReplies.map Reply.buffer) :=
    (List.perm_ext_iff_of_nodup h ((List.nodup_finRange 2).filter _)).2 fun b => by simp
  have two := List.length_eq_countP_add_countP (fun b => decide (b ∈ s.heldReplies.map Reply.buffer)) (l := List.finRange 2)
  have length := held.length_eq
  rw [List.length_map, ← List.countP_eq_length_filter] at length
  have rest : (List.finRange 2).countP s.replyFree =
      (List.finRange 2).countP fun b => ¬decide (b ∈ s.heldReplies.map Reply.buffer) := by
    exact List.countP_congr fun b _ => by simp [State.replyFree]
  rw [State.freeReplies, rest, length, Nat.add_comm]
  exact two.symm

/-- The take of a hub request finds a reserved buffer spare (R95). -/
theorem keeps_of_hubTakes {m : Message} (ht : HubTakes s m) (h : Orderly 1 s t) : KeepsQueue s t := by
  refine ⟨h.references, fun hs => h.stored 0 { hs with spare := ?_ }⟩
  obtain ⟨-, -, hr, -⟩ := ht
  have := freeReplies_add hs.replies
  omega

/-- A request whose execution takes one reserved buffer at the most. -/
theorem serve_keeps {q : HubRequest} (run : ∀ u m, Orderly 0 s u → Orderly 1 s (q.run u m)) : KeepsQueue s (q.serve s) :=
  serve_induction (Orderly.refl s).keeps
    (fun m _ _ ht => keeps_of_hubTakes ht
      ((Orderly.ite (fun _ => ((Orderly.refl s).hubTake m).violate _) fun _ => (Orderly.refl s).hubTake m).complete _ _))
    fun m ht _ => keeps_of_hubTakes ht (run _ m ((Orderly.refl s).hubTake m))

theorem unknownRequestCode_keeps (h : exec .unknownRequestCode s = .next t) : KeepsQueue s t := by
  simp only [exec, execUnknownRequestCode] at h
  split at h
  · cases h; exact (Orderly.refl s).keeps
  · next hh =>
    split at h <;> cases h
    · exact keeps_of_hubTakes (hubTakes_of_hubHead hh) (((Orderly.refl s).hubTake _).complete _ _)
    · exact (Orderly.refl s).keeps

end
end Sys2Proof.Machine

/-! PROOFS. Every command keeps the references sound and the storage in use bounded (O57, O59). -/

namespace Sys2Proof.Machine

/-! ## Commands -/

section
variable {s t : State}

theorem portAccess_orderly {d : Domain} {offset size : Nat} {op : PortOp} (h : exec (.portAccess d offset size op) s = .next t) :
    Orderly 0 s t := by
  have h0 := Orderly.refl s
  simp only [exec, execPortAccess] at h
  (repeat' split at h) <;> cases h
  · exact h0.returnData d _
  · exact h0
  · exact h0.access d offset size op
  · exact h0

theorem boardInitialisationComplete_orderly {d : Domain} (h : exec (.boardInitialisationComplete d) s = .next t) : Orderly 0 s t := by
  simp only [exec, execBoardInitialisationComplete] at h
  split at h <;> cases h
  · exact Orderly.refl s
  · exact (Orderly.refl s).finishInit d

/-- What stands past its hold limit, or is the oldest of too many events, leaves its FIFO and is counted. -/
theorem drop_orderly {l : Lane} {place : Nat}
    (h : exec (.holdLimitDrop l place) s = .next t ∨ exec (.eventCellDrop l place) s = .next t) : Orderly 0 s t := by
  have removed := (Orderly.refl s).removeAt l place
  simp only [exec, execHoldLimitDrop, execEventCellDrop] at h
  rcases h with h | h <;> split at h <;> cases h
  · exact removed.sheds (by simp [Sheds])
  · exact Orderly.refl s
  · exact removed.sheds (by simp [Sheds])
  · exact Orderly.refl s

theorem loadRoutesCompletion_orderly (h : exec .loadRoutesCompletion s = .next t) : Orderly 0 s t := by
  have hl : Orderly 0 s { s with hub := { s.hub with loading := none } } := (Orderly.refl s).sheds (by simp [Sheds])
  simp only [exec, execLoadRoutesCompletion] at h
  split at h
  · cases h; exact Orderly.refl s
  · split at h <;> cases h
    · exact (hl.installRoutes _).completeJobs _ _ _
    · exact hl.completeJobs _ _ _

theorem panelCommand_orderly {c : Instr} (hc : c ∈ [.appFrameStart, .videoLoss, .freeRunRowSlot, .freeRunFrameEnd])
    (h : exec c s = .next t) : Orderly 0 s t := by
  have h0 := Orderly.refl s
  have hb : Orderly 0 s s.beginPanelEvent := h0.panel _
  fin_cases hc <;> dsimp only [exec] at h
  · simp only [execAppFrameStart] at h
    (repeat' split at h) <;> cases h
    · exact h0
    · exact (h0.outputRest.panel _).frameStart
    · exact ((hb.setFrameMode _).panel _).frameStart
  · cases h
    exact Orderly.ite (fun _ => (h0.outputRest.setFrameMode _).frameStart.panel _) fun _ => h0
  · cases h
    exact Orderly.ite (fun _ => h0.sheds (by simp [Sheds])) fun _ => h0
  · cases h
    exact Orderly.ite (fun _ => hb.frameStart.panel _) fun _ => h0

theorem appInputRow_orderly {px : List Pixel} (h : exec (.appInputRow px) s = .next t) : Orderly 0 s t := by
  simp only [exec, execAppInputRow] at h
  (repeat' split at h) <;> cases h
  · exact Orderly.refl s
  · exact Orderly.refl s
  · exact (Orderly.refl s).sheds (by simp [Sheds])
  · exact Orderly.refl s

theorem touchCommand_orderly
    (h : exec .reportReadyFall s = .next t ∨ ∃ report low, exec (.touchReadCompletion report low) s = .next t) : Orderly 0 s t := by
  have h0 := Orderly.refl s
  rcases h with h | ⟨report, low, h⟩
  · simp only [exec, execReportReadyFall] at h
    (repeat' split at h) <;> cases h
    · exact h0
    all_goals exact h0.touch _
  · simp only [exec, execTouchReadCompletion] at h
    split at h <;> cases h
    · exact h0
    · exact h0.touch _
    · exact Orderly.touch (h0.sheds (by simp [Sheds, State.dropReport])) _
    all_goals exact (h0.takeReport _).touch _

theorem keyCommand_orderly (h : (∃ down, exec (.keySense down) s = .next t) ∨ ∃ k, exec (.keyChangeAccepted k) s = .next t) :
    Orderly 0 s t := by
  have h0 := Orderly.refl s
  rcases h with ⟨down, h⟩ | ⟨k, h⟩
  · simp only [exec, execKeySense] at h
    split at h <;> cases h
    · exact h0
    · exact h0.foldl (fun u k => (Orderly.refl u).senseKey down k) _
  · simp only [exec, execKeyChangeAccepted] at h
    split at h <;> cases h
    · exact h0.acceptKey k
    · exact h0

theorem lineCommand_orderly (h : (∃ levels, exec (.lineSample levels) s = .next t)
    ∨ ∃ k, exec (.filteredChange k) s = .next t ∨ exec (.settlingEnd k) s = .next t) : Orderly 0 s t := by
  have h0 := Orderly.refl s
  rcases h with ⟨levels, h⟩ | ⟨k, h | h⟩
  · simp only [exec, execLineSample] at h
    split at h
    · cases h; exact h0
    · rw [← Host.Outcome.next.inj h]; exact h0.foldl (fun u k => (Orderly.refl u).sampleLine levels k) _
  · simp only [exec, execFilteredChange] at h
    split at h <;> cases h
    · exact h0.filteredChange k _
    all_goals exact h0
  · simp only [exec, execSettlingEnd] at h
    split at h <;> cases h
    · exact h0.settle k _
    all_goals exact h0

/-- A reset empties every FIFO and the list of outstanding requests (R3). -/
theorem inResetWith_orderly (s : State) (a p r : Memory) (now : Nat) : Orderly 0 s (s.inResetWith a p r now) :=
  Orderly.empty (fun l => by simp [State.inResetWith, State.lane, LaneState.reset]) rfl rfl s

theorem resetEnd_orderly {low : Bool} (h : exec (.resetEnd low) s = .next t) : Orderly 0 s t := by
  dsimp only [exec] at h
  unfold execResetEnd at h
  split at h
  · have running : Orderly 0 s { s with inReset := false } := (Orderly.refl s).sheds (by simp [Sheds])
    rw [← Host.Outcome.next.inj h]
    exact (((running.startInit .app).startInit .pay).startInit .rad).sheds (by simp [Sheds])
  · cases h; exact Orderly.refl s

/-- A hub request takes a reserved buffer at the most, and every other command is orderly and takes none. -/
theorem exec_keepsQueue {c : Instr} (h : exec c s = .next t) : KeepsQueue s t := by
  have h0 := Orderly.refl s
  cases c
  case loadRoutes => cases h; exact serve_keeps fun _ m hu => Orderly.addOutstanding (hu.sheds (by simp [Sheds])) _ m
  case setPanes => cases h; exact serve_keeps fun _ m hu => ((hu.panel _).completeJobs _ _ _).addOutstanding _ m
  case scrollPane => cases h; exact serve_keeps fun _ m hu => (hu.panel _).addOutstanding _ m
  case setCalibration => cases h; exact serve_keeps fun _ m hu => (hu.touch _).complete _ _
  case setFocus => cases h; exact serve_keeps fun _ m hu => (hu.touch _).complete _ _
  case setLineMap => cases h; exact serve_keeps fun _ m hu => ((hu.setLine _ _).evaluateMismatch _ _).complete _ _
  case setCombiner =>
    cases h; exact serve_keeps fun _ m hu => Orderly.complete (Orderly.evaluate (hu.sheds (by simp [Sheds]))) _ _
  case driveLine => cases h; exact serve_keeps fun _ m hu => (hu.setLine _ _).complete _ _
  case driveLinePulse => cases h; exact serve_keeps fun _ m hu => (hu.setLine _ _).complete _ _
  case setNotices => cases h; exact serve_keeps fun _ m hu => Orderly.complete (hu.sheds (by simp [Sheds])) _ _
  case domainResetHold => cases h; exact serve_keeps fun _ m hu => (hu.hold _).complete _ _
  case domainResetRelease =>
    cases h; exact serve_keeps fun _ m hu => ((hu.releaseDomain _).completeJobs _ _ _).complete _ _
  case domainResetPulse =>
    cases h; exact serve_keeps fun _ m hu => (Orderly.updDom (hu.holdDomain _) _ _).addOutstanding _ m
  case fenceLane =>
    cases h
    exact serve_keeps fun _ m hu => (Orderly.ite (fun _ => hu) fun _ => hu.fenceLane _).complete _ _
  case restoreLane => cases h; exact serve_keeps fun _ m hu => (hu.restore _).complete _ _
  case setViolationLimit => cases h; exact serve_keeps fun _ m hu => (hu.updLane fun _ => by rfl).complete _ _
  case readCounters => cases h; exact serve_keeps fun _ m hu => (hu.updLane fun _ => by rfl).complete _ _
  case status => cases h; exact serve_keeps fun _ m hu => hu.complete _ _
  case resume => cases h; exact serve_keeps fun _ m hu => (hu.setMode _).complete _ _
  case restartHub =>
    cases h
    exact serve_keeps fun _ m hu => Orderly.placeReply (hu.clearHub.evaluate.sheds (by simp [Sheds])) _ _ _ _
  case unknownRequestCode => exact unknownRequestCode_keeps h
  all_goals refine Orderly.keeps ?_
  case take => exact take_orderly h
  case powerOnReset => cases h; exact inResetWith_orderly ..
  case pinReset => cases h; exact inResetWith_orderly ..
  case resetEnd => exact resetEnd_orderly h
  case portAccess => exact portAccess_orderly h
  case attentionLanes d v => cases h; exact Orderly.ite (fun _ => h0.writeAttention d v) fun _ => h0
  case selfAnnouncedRestart d => cases h; exact Orderly.ite (fun _ => h0.selfRestart d) fun _ => h0
  case boardInitialisationComplete => exact boardInitialisationComplete_orderly h
  case acknowledge d v => cases h; exact Orderly.ite (fun _ => h0.clearFlags d v) fun _ => h0
  case identityWrite d _ => cases h; exact Orderly.ite (fun _ => h0.clearStray d) fun _ => h0
  case statusWrite => cases h; exact h0
  case refill => cases h; exact h0.sheds (by simp [Sheds])
  case delivery => exact delivery_orderly h
  case holdLimitDrop => exact drop_orderly (.inl h)
  case eventCellDrop => exact drop_orderly (.inr h)
  case expiry i => cases h; exact Orderly.ite (fun _ => h0.expire i) fun _ => h0
  case loadRoutesCompletion => exact loadRoutesCompletion_orderly h
  case pulseEnd k => cases h; exact Orderly.ite (fun _ => h0.setLine _ _) fun _ => h0
  case pulseRelease d => cases h; exact Orderly.ite (fun _ => (h0.releaseDomain d).completeJobs _ _ _) fun _ => h0
  case appFrameStart => exact panelCommand_orderly (by decide) h
  case appInputRow => exact appInputRow_orderly h
  case videoLoss => exact panelCommand_orderly (by decide) h
  case freeRunRowSlot => exact panelCommand_orderly (by decide) h
  case freeRunFrameEnd => exact panelCommand_orderly (by decide) h
  case reportReadyFall => exact touchCommand_orderly (.inl h)
  case touchReadCompletion => exact touchCommand_orderly (.inr ⟨_, _, h⟩)
  case keySense => exact keyCommand_orderly (.inl ⟨_, h⟩)
  case keyChangeAccepted => exact keyCommand_orderly (.inr ⟨_, h⟩)
  case lineSample => exact lineCommand_orderly (.inl ⟨_, h⟩)
  case filteredChange => exact lineCommand_orderly (.inr ⟨_, .inl h⟩)
  case settlingEnd => exact lineCommand_orderly (.inr ⟨_, .inr h⟩)

theorem pending_orderly (s : State) (rest : List Instr) : Orderly 0 s { s with pending := rest } :=
  (Orderly.refl s).sheds (by simp [Sheds])

theorem tick_orderly (s : State) : Orderly 0 s s.tick := (Orderly.refl s).sheds (by simp [Sheds, State.tick])

end

/-- Settles O57: every command keeps the references sound (`exec_keepsQueue`). An entry that a reference joins a FIFO for is named
by none as it does (`ReferencesSound.unnamed`), and the entry changes as the reference leaves. -/
theorem referencesSoundKept : Obligations.ReferencesSoundKept := by
  unfold Obligations.ReferencesSoundKept
  simp only [← referencesSound_iff]
  exact kept_of_exec (fun s rest => (pending_orderly s rest).references) (fun s => (tick_orderly s).references)
    fun _ _ _ hs h => (exec_keepsQueue h).references hs

/-- Settles O59: every command keeps the storage in use bounded (`exec_keepsQueue`). The hub service takes a request with a reserved
buffer spare for its completion (`keeps_of_hubTakes`). -/
theorem storageBoundedKept : Obligations.StorageBoundedKept := by
  unfold Obligations.StorageBoundedKept
  simp only [← stored_zero_iff]
  exact kept_of_exec (fun s rest => (pending_orderly s rest).stored 0) (fun s => (tick_orderly s).stored 0)
    fun _ _ _ hs h => (exec_keepsQueue h).stored hs

end Sys2Proof.Machine

/-! PROOFS. What becomes of an input event (O24). -/

namespace Sys2Proof.Machine

/-! ## Coalescing -/

section
variable {id : Fin 2} {place : Placement}

theorem hasTouch_iff {fifo : List Entry} : hasTouch id fifo = true ↔ ∃ phase old j, .cell (.touch id phase old) j ∈ fifo := by
  unfold hasTouch
  rw [List.any_eq_true]
  constructor
  · rintro ⟨e, he, h⟩
    split at h
    · obtain rfl := of_decide_eq_true h
      exact ⟨_, _, _, he⟩
    · cases h
  · rintro ⟨phase, old, j, h⟩
    exact ⟨_, h, decide_eq_true rfl⟩

theorem hasTouch_eq_false {fifo : List Entry} :
    hasTouch id fifo = false ↔ ∀ phase old j, .cell (.touch id phase old) j ∉ fifo := by
  rw [← Bool.not_eq_true, hasTouch_iff]
  simp only [not_exists]

/-- Ahead of a TOUCH cell of the contact every entry stays as it is. -/
theorem coalesce_cons_of_hasTouch {e : Entry} {rest : List Entry} (h : hasTouch id rest = true) :
    coalesce id place (e :: rest) = (coalesce id place rest).map (e :: ·) := by
  cases e with
  | cell event joined =>
    cases event with
    | touch => exact if_pos h
    | key | line => rfl
  | message | reply | conclusion => rfl

/-- The last TOUCH cell of the contact takes the placement where it is a MOVE. -/
theorem coalesce_last {before behind : List Entry} {old : Placement} {j : Nat} (h : hasTouch id behind = false) :
    coalesce id place (before ++ .cell (.touch id .move old) j :: behind) =
      some (before ++ .cell (.touch id .move place) j :: behind) := by
  induction before with
  | nil => simp [coalesce, h]
  | cons e before ih =>
    rw [List.cons_append, coalesce_cons_of_hasTouch (hasTouch_iff.2 ⟨.move, old, j, by simp⟩), ih]
    rfl

/-- Where the event coalesces, the last TOUCH cell of the contact is a MOVE. -/
theorem last_of_coalesce {fifo fifo' : List Entry} (h : coalesce id place fifo = some fifo') :
    ∃ old j before behind, fifo = before ++ .cell (.touch id .move old) j :: behind ∧ hasTouch id behind = false := by
  induction fifo generalizing fifo' with
  | nil => cases h
  | cons e rest ih =>
    have later (h : (coalesce id place rest).map (e :: ·) = some fifo') :
        ∃ old j before behind, e :: rest = before ++ .cell (.touch id .move old) j :: behind ∧ hasTouch id behind = false := by
      obtain ⟨rest', hr, -⟩ := Option.map_eq_some_iff.1 h
      obtain ⟨old, j, before, behind, rfl, hb⟩ := ih hr
      exact ⟨old, j, e :: before, behind, rfl, hb⟩
    cases e with
    | cell event joined =>
      cases event with
      | touch id' phase old =>
        simp only [coalesce] at h
        split_ifs at h with ht hm
        · exact later h
        · obtain ⟨rfl, rfl⟩ := hm
          exact ⟨old, joined, [], rest, rfl, by simpa using ht⟩
      | key | line => exact later h
    | message | reply | conclusion => exact later h

end

/-! ## Placing -/

section
variable {s : State} {l : Lane} {e : InputEvent}

theorem placeEvent_of_coalesced {fifo : List Entry} (hf : (s.lane l).fenced = false) (hs : s.shutOut l = false)
    (hc : e.coalesced (s.lane l).fifo = some fifo) : s.placeEvent l e = s.updLane l fun r => { r with fifo := fifo } := by
  simp [State.placeEvent, hf, hs, hc]

theorem placeEvent_of_not_coalesced (hf : (s.lane l).fenced = false) (hs : s.shutOut l = false)
    (hc : e.coalesced (s.lane l).fifo = none) :
    s.placeEvent l e = if s.cellsUsed < Config.eventCells then s.join l (.cell e s.now) else s.loseEvent l e := by
  simp [State.placeEvent, hf, hs, hc]

theorem coalesced_eq_none {fifo : List Entry} (h : ∀ id p old j before behind, e = .touch id .move p →
    fifo = before ++ .cell (.touch id .move old) j :: behind → ∃ phase place k, .cell (.touch id phase place) k ∈ behind) :
    e.coalesced fifo = none := by
  refine Option.eq_none_iff_forall_ne_some.2 fun fifo' hc => ?_
  unfold InputEvent.coalesced at hc
  split at hc
  · obtain ⟨old, j, before, behind, hf, hb⟩ := last_of_coalesce hc
    obtain ⟨phase, place, k, hk⟩ := h _ _ old j before behind rfl hf
    exact hasTouch_eq_false.1 hb phase place k hk
  all_goals cases hc

end

/-- Settles O24: the branches of `State.placeEvent`, with the coalescing by the last TOUCH cell of the contact (`coalesce_last`,
`last_of_coalesce`). -/
theorem inputEventsPlaced : Obligations.InputEventsPlaced := by
  unfold Obligations.InputEventsPlaced
  intro s l e
  refine ⟨?_, by cases e <;> rfl, fun hf => ?_, fun hf ha hm => ?_, fun hf hn => ?_⟩
  · exact List.countP_congr fun f _ => by cases f <;> rfl
  · exact if_pos hf
  · simp [State.placeEvent, hf, State.shutOut, ha, hm]
  · have hs : s.shutOut l = false := by simpa [State.shutOut] using hn
    refine ⟨fun id p old j before behind he hl hb => ?_, fun hl => ⟨fun hc => ?_, fun hc => ?_⟩⟩
    · subst he
      exact placeEvent_of_coalesced hf hs (hl ▸ coalesce_last (hasTouch_eq_false.2 hb))
    · rw [placeEvent_of_not_coalesced hf hs (coalesced_eq_none hl), if_pos hc, State.join]
    · rw [placeEvent_of_not_coalesced hf hs (coalesced_eq_none hl), if_neg (Nat.not_lt.2 hc), State.loseEvent]
      rfl

end Sys2Proof.Machine

/-! PROOFS. The take and the completion of a hub request (O25). -/

namespace Sys2Proof.Machine

section
variable {s : State} {m : Message} {i : Fin 48} {x : Exchange} {tag : Nat} {reply : List Byte}

/-! ## The take -/

/-- A hub request has left the HUB FIFO and released its buffer (R58, R95). -/
def State.headGone (s : State) : State := State.clearBufferWait { s with hub := { s.hub with fifo := s.hub.fifo.tail } }

theorem headGone_entry (s : State) (i : Fin 48) : s.headGone.entry i = s.entry i := rfl

theorem headGone_replyFree (s : State) (b : Fin 2) : s.headGone.replyFree b = s.replyFree b := by
  have held : s.headGone.heldReplies = s.heldReplies :=
    heldReplies_congr fun l => by simp [State.headGone, State.clearBufferWait, State.lane_mk]
  rw [State.replyFree, State.replyFree, held]

/-- The take finds its exchange POSTED with HUB, and the exchange is AWAITED (R80). -/
theorem hubAwaits_of_posted (hi : s.findTag tag = some i) (hx : (s.entry i).state = .posted x) (hr : x.responder = .hub) :
    s.hubAwaits tag = s.setExchange i (.awaited x) := by
  simp [State.hubAwaits, hi, hx, hr]

theorem hubAwaits_of_not_posted (h : ∀ i x, s.findTag tag = some i → (s.entry i).state = .posted x → x.responder ≠ .hub) :
    s.hubAwaits tag = s := by
  unfold State.hubAwaits
  split
  · rfl
  · next i hi =>
    split
    · next x hx => exact if_neg (h i x hi hx)
    all_goals rfl

theorem setExchange_setEntry (s : State) (i : Fin 48) (x : ExchangeState) (e : ExchangeEntry) :
    (s.setExchange i x).setEntry i e = s.setEntry i e := by
  simp [State.setExchange, State.setEntry]

/-- A tag finds the entry of its index, where the generations agree (R83). -/
theorem generation_of_findTag (h : s.findTag tag = some i) : i.val = tag % 64 ∧ (s.entry i).generation.toNat = tag / 64 := by
  rw [findTag_eq_some, State.tagOf] at h
  omega

/-! ## The completion -/

/-- A completion that is accepted (R85). -/
theorem complete_awaited (hi : s.findTag tag = some i) (hx : (s.entry i).state = .awaited x) : s.complete tag reply =
    (s.setEntry i ⟨(s.entry i).generation + 1, .free⟩).updLane x.requester fun r => { r with
      fifo := r.fifo ++ [.reply ⟨if s.replyFree 0 then 0 else 1, tag, x.reference, reply, s.now⟩] } := by
  rw [complete_of_awaited _ hi hx]
  rfl

/-- A completion that comes after the deadline (R85). -/
theorem complete_late {late : Bool} (hi : s.findTag tag = some i) (hx : (s.entry i).state = .closing x .expired late) :
    s.complete tag reply = s.setExchange i (.closing x .expired true) := by
  simp [State.complete, hi, hx]

theorem complete_lapsed (hi : s.findTag tag = some i) (hx : (s.entry i).state = .lapsed x) :
    s.complete tag reply = s.setEntry i ⟨(s.entry i).generation + 1, .free⟩ := by
  simp [State.complete, hi, hx, State.freeEntry]

/-- A completion that is discarded (R85). -/
theorem complete_discarded (hi : s.findTag tag = some i) (hx : (s.entry i).state = .free ∨ (∃ x, (s.entry i).state = .posted x)
    ∨ ∃ x c late, (s.entry i).state = .closing x c late ∧ c ≠ .expired) : s.complete tag reply = s := by
  rcases hx with hx | ⟨x, hx⟩ | ⟨x, c, late, hx, hc⟩
  · simp [State.complete, hi, hx]
  · simp [State.complete, hi, hx]
  · cases c
    case expired => exact absurd rfl hc
    all_goals simp [State.complete, hi, hx]

theorem mem_heldReplies {r : Reply} : r ∈ s.heldReplies ↔ ∃ l, .reply r ∈ (s.lane l).fifo := by
  rw [State.heldReplies, List.mem_filterMap, ← mem_boardEntries]
  refine ⟨fun ⟨e, he, hr⟩ => ?_, fun he => ⟨_, he, rfl⟩⟩
  cases e <;> cases hr
  exact he

/-! ## The take and the completion -/

theorem hubTake_of_not_posted (hx : ∀ i x, s.findTag m.tag = some i → (s.entry i).state = .posted x → x.responder ≠ .hub) :
    s.hubTake m = s.headGone := hubAwaits_of_not_posted (s := s.headGone) hx

theorem answered_of_not_posted (hi : s.findTag m.tag = some i) (hx : ∀ x, (s.entry i).state = .posted x → x.responder ≠ .hub) :
    s.answered m reply = s.headGone.complete m.tag reply := by
  rw [State.answered, hubTake_of_not_posted fun j x hj => by cases hi.symm.trans hj; exact hx x]

/-- The reply to a request whose exchange waits, whether its take finds it POSTED or AWAITED. -/
theorem answered_of_waiting (hi : s.findTag m.tag = some i)
    (hx : ((s.entry i).state = .posted x ∧ x.responder = .hub) ∨ (s.entry i).state = .awaited x) : s.answered m reply =
      (s.headGone.setEntry i ⟨(s.entry i).generation + 1, .free⟩).updLane x.requester fun r => { r with
        fifo := r.fifo ++ [.reply ⟨if s.replyFree 0 then 0 else 1, m.tag, x.reference, reply, s.now⟩] } := by
  rw [← headGone_replyFree]
  rcases hx with ⟨hx, hr⟩ | hx
  · have taken : s.hubTake m = s.headGone.setExchange i (.awaited x) := hubAwaits_of_posted (s := s.headGone) hi hx hr
    obtain ⟨hi, hg⟩ := generation_of_findTag hi
    rw [State.answered, taken, complete_awaited (x := x) (findTag_of_generation hi (by simpa [headGone_entry] using hg)) (by simp)]
    simp [headGone_entry, setExchange_setEntry]
    rfl
  · rw [answered_of_not_posted hi (by simp [hx]), complete_awaited (s := s.headGone) hi hx]
    rfl

/-- The only request of a job completes and leaves the list (R97). -/
theorem completeJobs_of_one {job : Job} {o : Outstanding} {before behind : List Outstanding} {r : HubResult} {detail : Nat}
    (hl : s.hub.outstanding = before ++ o :: behind) (ho : o.job = job) (hn : ∀ p ∈ before ++ behind, p.job ≠ job) :
    s.completeJobs job r detail = State.complete { s with hub := { s.hub with outstanding := before ++ behind } } o.tag
      (replyBytes r job.code detail []) := by
  have out {xs : List Outstanding} (hx : ∀ p ∈ xs, p.job ≠ job) : (xs.filter fun o => decide (o.job = job)) = [] :=
    List.filter_eq_nil_iff.2 fun p hp => by simpa using hx p hp
  have kept {xs : List Outstanding} (hx : ∀ p ∈ xs, p.job ≠ job) : (xs.filter fun o => decide (o.job ≠ job)) = xs :=
    List.filter_eq_self.2 fun p hp => by simpa using hx p hp
  have first : ∀ p ∈ before, p.job ≠ job := fun p hp => hn p (List.mem_append_left _ hp)
  have last : ∀ p ∈ behind, p.job ≠ job := fun p hp => hn p (List.mem_append_right _ hp)
  have jobs : (s.hub.outstanding.filter fun o => decide (o.job = job)) = [o] := by
    rw [hl, List.filter_append, out first, List.filter_cons_of_pos (by simpa using ho), out last]
    rfl
  have others : (s.hub.outstanding.filter fun o => decide (o.job ≠ job)) = before ++ behind := by
    rw [hl, List.filter_append, kept first, List.filter_cons_of_neg (by simpa using ho), kept last]
  rw [State.completeJobs, jobs, others]
  rfl

end

/-- Settles O25: the take (`hubAwaits_of_posted`, `hubTake_of_not_posted`), the completion by the state of its entry
(`complete_awaited` and the like), the two together (`answered_of_waiting`), and a job's completion (`completeJobs_of_one`). -/
theorem hubReplies : Obligations.HubReplies := by
  unfold Obligations.HubReplies
  refine ⟨fun s m => ⟨s.headGone, rfl, rfl, fun i x hi hg => hubAwaits_of_posted (s := s.headGone) (findTag_of_generation hi hg),
      fun h => hubTake_of_not_posted fun i x hf => ?_, fun _ => rfl, fun _ => ⟨rfl, rfl⟩⟩,
    fun q tag reply => ⟨fun h => complete_of_none _ (findTag_none h), fun i hi hg => ?_⟩, fun s b => ?_,
    fun s m reply => ⟨s.headGone, rfl, fun h => ?_, fun i hi hg => ?_⟩, fun s job o before behind r detail hl ho hn => ?_⟩
  · obtain ⟨hi, hg⟩ := generation_of_findTag hf
    exact h i x hi hg
  · have hf := findTag_of_generation hi hg
    exact ⟨fun x => complete_awaited hf, fun x late => complete_late hf, fun x => complete_lapsed hf, complete_discarded hf⟩
  · simp only [State.replyFree, List.all_eq_true, decide_eq_true_eq, mem_heldReplies]
    exact ⟨fun h l r hr => h r ⟨l, hr⟩, fun h r ⟨l, hr⟩ => h l r hr⟩
  · have none := findTag_none h
    rw [State.answered, hubTake_of_not_posted fun i x hi => by simp [none] at hi]
    exact complete_of_none (s := s.headGone) _ none
  · have hf := findTag_of_generation hi hg
    have plain (hx : ∀ x, (s.entry i).state = .posted x → x.responder ≠ .hub) := answered_of_not_posted (reply := reply) hf hx
    refine ⟨fun x => answered_of_waiting hf, fun x late hx => ?_, fun x hx => ?_, fun x c late hx hc => ?_, fun hx => ?_,
      fun x hx hr => ?_⟩
    · rw [plain (by simp [hx])]; exact complete_late (s := s.headGone) hf hx
    · rw [plain (by simp [hx])]; exact complete_lapsed (s := s.headGone) hf hx
    · rw [plain (by simp [hx])]; exact complete_discarded (s := s.headGone) hf (.inr (.inr ⟨x, c, late, hx, hc⟩))
    · rw [plain (by simp [hx])]; exact complete_discarded (s := s.headGone) hf (.inl hx)
    · rw [plain fun y hy => by rw [hx] at hy; cases hy; exact hr]
      exact complete_discarded (s := s.headGone) hf (.inr (.inl ⟨x, hx⟩))
  · rw [completeJobs_of_one hl ho hn]
    cases r <;> cases job <;> rfl

end Sys2Proof.Machine

/-! PROOFS. RESUME and RESTART HUB (O35). -/

namespace Sys2Proof.Machine

section
variable {s t : State} {m : Message}

/-! ## The take of a hub request and the hub mode -/

theorem hubAwaits_setMode (s : State) (mode : HubMode) (tag : Nat) :
    (s.setMode mode).hubAwaits tag = (s.hubAwaits tag).setMode mode := by
  have find : (s.setMode mode).findTag tag = s.findTag tag := rfl
  have entry : ∀ i, (s.setMode mode).entry i = s.entry i := fun _ => rfl
  unfold State.hubAwaits
  rw [find]
  cases s.findTag tag with
  | none => rfl
  | some i =>
    dsimp only
    rw [entry]
    cases (s.entry i).state with
    | posted x => dsimp only; split <;> rfl
    | free | awaited | closing | lapsed => rfl

/-- A change of the mode is the same before and after the take. -/
theorem hubTake_setMode (s : State) (m : Message) (mode : HubMode) :
    (s.setMode mode).hubTake m = (s.hubTake m).setMode mode := by
  rw [State.hubTake, State.hubTake, ← hubAwaits_setMode]
  rfl

theorem hubTake_lane (s : State) (m : Message) (l : Lane) : (s.hubTake m).lane l = { s.lane l with bufferWait := false } := by
  simp [State.hubTake, State.clearBufferWait]

theorem hubAwaits_generation (s : State) (tag : Nat) (i : Fin 48) :
    ((s.hubAwaits tag).entry i).generation = (s.entry i).generation := by
  unfold State.hubAwaits
  split
  · rfl
  · split
    · split
      · rw [State.entry_setExchange]; split <;> simp_all
      · rfl
    all_goals rfl

theorem hubTake_generation (s : State) (m : Message) (i : Fin 48) :
    ((s.hubTake m).entry i).generation = (s.entry i).generation := hubAwaits_generation s.headGone m.tag i

/-! ## RESUME -/

theorem resume_busy {rest : List Byte} (h : HubTakes s m) (hp : m.payload = 0x10#8 :: rest) (hs : m.sender = .pay)
    (hl : 2 ≤ m.payload.length) (hm : s.hub.mode = .lockdown) (ho : s.combiner.output = true) :
    exec .resume s = .next (s.answered m [5#8, 0x10#8, 0#8, 0#8]) := by
  have code : hasCode 0x10 m.payload = true := by rw [hp]; exact hasCode_of_head (code := 0x10) (by decide) rest
  have refused : resumeRequest.refused (s.hubTake m) m = some (.busy, 0) := by simp [resumeRequest, ho]
  exact congrArg Host.Outcome.next (serve_refused h resumeRequest code (by rw [hs]; rfl) (by rw [hm]; rfl) hl rfl refused)

theorem resume_done {rest : List Byte} (h : HubTakes s m) (hp : m.payload = 0x10#8 :: rest) (hs : m.sender = .pay)
    (hl : 2 ≤ m.payload.length) (hm : s.hub.mode = .lockdown) (ho : s.combiner.output = false) :
    exec .resume s = .next (State.answered (s.setMode (if s.hub.routesLoaded then .openMode else .boot)) m
      [1#8, 0x10#8, 0#8, 0#8]) := by
  have code : hasCode 0x10 m.payload = true := by rw [hp]; exact hasCode_of_head (code := 0x10) (by decide) rest
  have refused : resumeRequest.refused (s.hubTake m) m = none := by simp [resumeRequest, ho]
  have loaded : (s.hubTake m).hub.routesLoaded = s.hub.routesLoaded := by simp
  refine congrArg Host.Outcome.next
    ((serve_run h resumeRequest code (by rw [hs]; rfl) (by rw [hm]; rfl) hl rfl refused).trans ?_)
  rw [State.answered, hubTake_setMode, ← loaded]
  rfl

/-! ## RESTART HUB -/

/-- The default table ends a capture that stood (R126). -/
theorem setActive_default (t : State) : t.setActive defaultTable =
    if t.capture then State.raiseAll { t with panel := { t.panel with active := defaultTable } } .capture
    else { t with panel := { t.panel with active := defaultTable } } := by
  have none : State.capture { t with panel := { t.panel with active := defaultTable } } = false := rfl
  unfold State.setActive State.captureChange
  rw [none]
  cases t.capture <;> rfl

/-- What the default table's being made active leaves, beside the CAPTURE notice. -/
theorem setActive_default_kept (t : State) : (∀ i, (t.setActive defaultTable).contact i = t.contact i)
    ∧ (∀ k, (t.setActive defaultTable).key k = t.key k) ∧ (t.setActive defaultTable).touch = t.touch
    ∧ (t.setActive defaultTable).panel = { t.panel with active := defaultTable }
    ∧ (t.setActive defaultTable).lines = t.lines ∧ (t.setActive defaultTable).combiner = t.combiner
    ∧ (t.setActive defaultTable).scanner = t.scanner ∧ (t.setActive defaultTable).inReset = t.inReset
    ∧ (t.setActive defaultTable).now = t.now ∧ (t.setActive defaultTable).pending = t.pending := by
  rw [setActive_default]
  split <;> simp

theorem inputsRestarted_dom (u : State) (d : Domain) : u.inputsRestarted.dom d = u.dom d := by
  simp [State.inputsRestarted]

theorem inputsRestarted_contact (u : State) (i : Fin 2) :
    u.inputsRestarted.contact i = (u.contact i).map fun q => { q with owner := none } := by
  simp [State.inputsRestarted, State.endInputs, State.contact, dropOwner]

theorem inputsRestarted_key (u : State) (k : Fin 16) : u.inputsRestarted.key k = { u.key k with owner := none } := by
  simp [State.inputsRestarted, State.endInputs, State.key, dropOwner]

theorem emptied_dom (s : State) (d : Domain) : s.emptied.dom d = s.dom d := by
  simp [State.emptied, State.dropExchanges]

theorem clearHub_entry (s : State) (i : Fin 48) : s.clearHub.entry i = ⟨(s.entry i).generation, .free⟩ := by
  simp [State.clearHub, State.dropExchanges, State.entry]

theorem clearHub_lane (s : State) (l : Lane) : s.clearHub.lane l = (s.lane l).restart := by
  rw [clearHub_eq, setActive_default]
  split <;> simp [State.inputsRestarted, State.emptied, State.dropExchanges, State.lane_mk]

theorem clearHub_dom (s : State) (d : Domain) : s.clearHub.dom d = { s.dom d with
    flags := if s.capture then (s.dom d).flags ||| Flag.capture.mask else (s.dom d).flags } := by
  have capture : s.emptied.capture = s.capture := rfl
  rw [clearHub_eq, inputsRestarted_dom, setActive_default, capture]
  cases s.capture <;> simp [raiseAll_dom, emptied_dom]

theorem clearHub_contact (s : State) (i : Fin 2) :
    s.clearHub.contact i = (s.contact i).map fun q => { q with owner := none } := by
  rw [clearHub_eq, inputsRestarted_contact, (setActive_default_kept s.emptied).1]
  rfl

theorem clearHub_key (s : State) (k : Fin 16) : s.clearHub.key k = { s.key k with owner := none } := by
  rw [clearHub_eq, inputsRestarted_key, (setActive_default_kept s.emptied).2.1]
  rfl

/-- The hub, the routes, the panel path, the touch router's own records and what RESTART HUB keeps (TABLE C). -/
theorem clearHub_records (s : State) : s.clearHub.hub = Hub.reset ∧ s.clearHub.routes = []
    ∧ s.clearHub.panel = { s.panel with active := defaultTable, staged := none, scrolls := [] }
    ∧ (s.clearHub.touch.link = s.touch.link ∧ s.clearHub.touch.readPending = s.touch.readPending
      ∧ s.clearHub.touch.calibration = s.touch.calibration ∧ s.clearHub.touch.focus = 0)
    ∧ (s.clearHub.lines = s.lines ∧ s.clearHub.combiner = s.combiner
      ∧ s.clearHub.scanner = { s.scanner with visit := none })
    ∧ s.clearHub.inReset = s.inReset ∧ s.clearHub.now = s.now ∧ s.clearHub.pending = s.pending := by
  rw [clearHub_eq, setActive_default]
  split <;> simp [State.inputsRestarted, State.emptied, State.dropExchanges]

/-- No hub reply stands in a FIFO as RESTART HUB places its own, so that it takes buffer 30 (R57; notes/assumptions/28). -/
theorem restarted_grantReply (s : State) : (s.clearHub.evaluate.raiseAll .mode).grantReply = 0 := by
  have fifo : ∀ l, (s.clearHub.lane l).fifo = [] := fun l => by rw [clearHub_lane]; rfl
  have hub : s.clearHub.hub = Hub.reset := (clearHub_records s).1
  have boards : s.clearHub.boardEntries = [] := by simp [State.boardEntries, fifo]
  have messages : s.clearHub.heldMessages = [] := by simp [State.heldMessages, boards, hub, Hub.reset]
  have replies : s.clearHub.heldReplies = [] := by simp [State.heldReplies, boards]
  have cleared : Stored 2 s.clearHub := ⟨⟨by simp [messages], fun l => by simp [State.charged, messages]⟩, by simp [replies],
    by simp [replies, hub, Hub.reset], by simp [CellsBounded, State.cellsUsed, boards]⟩
  have placed : Stored 2 (s.clearHub.evaluate.raiseAll .mode) :=
    ((Orderly.refl s.clearHub).evaluate.sheds (by simp [Sheds])).stored 2 cleared
  have none : (s.clearHub.evaluate.raiseAll .mode).heldReplies = [] := List.length_eq_zero_iff.1 (by have := placed.spare; omega)
  simp [State.grantReply, State.replyFree, none]

theorem restartHub_done {rest : List Byte} (h : HubTakes s m) (hp : m.payload = 0x11#8 :: rest) (hs : m.sender = .pay)
    (hl : 2 ≤ m.payload.length) : exec .restartHub s = .next (((s.hubTake m).clearHub.evaluate.raiseAll .mode).updLane .pay
      fun r => { r with fifo := r.fifo ++ [.reply ⟨0, m.tag, m.reference, [1#8, 0x11#8, 0#8, 0#8], s.now⟩] }) := by
  have code : hasCode 0x11 m.payload = true := by rw [hp]; exact hasCode_of_head (code := 0x11) (by decide) rest
  refine congrArg Host.Outcome.next
    ((serve_run h restartHubRequest code (by rw [hs]; rfl) rfl hl rfl rfl).trans ?_)
  obtain ⟨-, -, -, -, -, -, cleared, -⟩ := clearHub_records (s.hubTake m)
  have now : ((s.hubTake m).clearHub.evaluate.raiseAll .mode).now = s.now := by simp [cleared]
  show State.placeReply _ _ _ _ _ = _
  rw [State.placeReply, restarted_grantReply, now, hs]
  rfl

end

/-- Settles O35: RESUME by the combiner output (`resume_busy`, `resume_done`), and RESTART HUB by what its clearing leaves
(`clearHub_records` and the lemmas before it) and its reply (`restartHub_done`). -/
theorem resumeAndRestart : Obligations.ResumeAndRestart := by
  unfold Obligations.ResumeAndRestart
  rintro s v m rest p h rfl hs hl rfl
  refine ⟨fun hp hm => ⟨resume_busy h hp hs hl hm, resume_done h hp hs hl hm⟩,
    fun hp => ⟨(s.hubTake m).clearHub, restartHub_done h hp hs hl, ?_⟩⟩
  obtain ⟨hub, routes, panel, touch, units, inReset, now, pending⟩ := clearHub_records (s.hubTake m)
  refine ⟨hub, routes, fun i => ?_, fun l => ?_, ?_, ?_, fun i => ?_, fun k => ?_, ?_, fun d => ?_, ?_⟩
  · rw [clearHub_entry, hubTake_generation]
  · rw [clearHub_lane, hubTake_lane]
    rfl
  · rw [panel]; simp; rfl
  · simpa using touch
  · rw [clearHub_contact]; simp
  · rw [clearHub_key]; simp
  · simpa using units
  · have capture : (s.hubTake m).capture = s.capture := by simp [State.capture]
    have dom : (s.hubTake m).dom d = s.dom d := by simp
    rw [clearHub_dom, capture, dom]
  · exact ⟨inReset.trans (by simp), now.trans (by simp), pending.trans (by simp)⟩

end Sys2Proof.Machine

/-! PROOFS. Answer matching, and step 4 of admission by it (O19). -/

namespace Sys2Proof.Machine

section
variable {s : State} {l : Lane} {m : Slot} {i : Fin 48} {x : Exchange}

/-! ## Answer matching -/

theorem matchAnswer_of_unknown {tag : Nat} (h : s.findTag tag = none) : s.matchAnswer l tag = .stale := by
  simp only [State.matchAnswer, h]

section
variable {tag : Nat} (hi : s.findTag tag = some i)
include hi

theorem matchAnswer_of_unasked (hx : (s.entry i).state = .free ∨ ∃ x, (s.entry i).state = .posted x) :
    s.matchAnswer l tag = .stale := by
  rcases hx with hx | ⟨x, hx⟩ <;> simp only [State.matchAnswer, hi, hx]

theorem matchAnswer_of_awaited (hx : (s.entry i).state = .awaited x) (hl : x.responder.recipient = .board l) :
    s.matchAnswer l tag = .match_ i x := by
  simp only [State.matchAnswer, hi, hx, if_pos hl]

theorem matchAnswer_of_closing {c : Conclusion} {late : Bool} (hx : (s.entry i).state = .closing x c late)
    (hl : x.responder.recipient = .board l) : s.matchAnswer l tag = if c = .expired then .late else .stale := by
  simp only [State.matchAnswer, hi, hx, if_pos hl]

theorem matchAnswer_of_lapsed (hx : (s.entry i).state = .lapsed x) (hl : x.responder.recipient = .board l) :
    s.matchAnswer l tag = .late := by
  simp only [State.matchAnswer, hi, hx, if_pos hl]

/-- An ANSWER from a lane other than the responder's (R83). -/
theorem matchAnswer_of_foreign (hl : x.responder.recipient ≠ .board l) (hx : (s.entry i).state = .awaited x
    ∨ (∃ c late, (s.entry i).state = .closing x c late) ∨ (s.entry i).state = .lapsed x) : s.matchAnswer l tag = .forged := by
  rcases hx with hx | ⟨c, late, hx⟩ | hx <;> simp only [State.matchAnswer, hi, hx, if_neg hl]

/-! ## The change that a LATE finding makes -/

theorem lateSeen_of_closing {c : Conclusion} {late : Bool} (hx : (s.entry i).state = .closing x c late) :
    s.lateSeen tag = s.setExchange i (.closing x c true) := by
  simp only [State.lateSeen, hi, hx]

theorem lateSeen_of_lapsed (hx : (s.entry i).state = .lapsed x) : s.lateSeen tag = s.freeEntry i := by
  simp only [State.lateSeen, hi, hx]

end

/-! ## Step 4 of admission -/

/-- Outside BOOT an ANSWER passes the mode test, in LOCKDOWN where its lane is no application lane, whatever it names (R39). -/
theorem modeRefusal_answer_eq_none (a : Address) (hb : s.hub.mode ≠ .boot) (hl : s.hub.mode = .lockdown → l.isApp = false) :
    s.modeRefusal l .answer a = none := by
  unfold State.modeRefusal
  split
  · next hm => exact absurd hm hb
  · rfl
  · next hm => simp [hl hm]

theorem judgeAnswer_of_stale (h : s.matchAnswer l m.tag = .stale) : s.judgeAnswer l m = .refuse .stale := by
  simp only [State.judgeAnswer, h]

theorem judgeAnswer_of_late (h : s.matchAnswer l m.tag = .late) : s.judgeAnswer l m = .refuse .late := by
  simp only [State.judgeAnswer, h]

theorem judgeAnswer_of_forged (h : s.matchAnswer l m.tag = .forged) : s.judgeAnswer l m = .refuse .forged := by
  simp only [State.judgeAnswer, h]

/-- A match is put to the exchange's answer limit (R40). -/
theorem judgeAnswer_of_match (h : s.matchAnswer l m.tag = .match_ i x) :
    s.judgeAnswer l m = if m.length ≤ x.answerLimit then .answer i x else .refuse .tooLong := by
  simp only [State.judgeAnswer, h]

end

/-- Settles O19: what the mode test lets pass (`modeRefusal_answer_eq_none`) is judged by answer matching, whose finding is read off
the state of the entry that the tag names (`findTag_of_generation`). -/
theorem answerMatching : Obligations.AnswerMatching := by
  unfold Obligations.AnswerMatching
  refine fun s l m => ⟨fun a hkind hlen ha hfence hboot hlock => ?_, fun h => ?_, fun i hi hg => ?_⟩
  · have kind : Kind.ofCode m.kind = some .answer := (kind_ofCode_eq_some _ _).2 hkind
    exact judge_of_passes kind hlen ha hfence (modeRefusal_answer_eq_none a hboot hlock)
  · exact judgeAnswer_of_stale (matchAnswer_of_unknown (findTag_none h))
  · have found := findTag_of_generation hi hg
    refine ⟨fun hx => ?_, fun x hx => ?_, fun x hx hl => ?_, fun x c late hx hl => ⟨?_, fun hc => ?_⟩,
      fun x hx hl => ⟨?_, ?_⟩, fun x hl hx => ?_⟩
    · exact judgeAnswer_of_stale (matchAnswer_of_unasked found (.inl hx))
    · exact judgeAnswer_of_stale (matchAnswer_of_unasked found (.inr ⟨x, hx⟩))
    · exact judgeAnswer_of_match (matchAnswer_of_awaited found hx hl)
    · have finding := matchAnswer_of_closing found hx hl
      split at finding
      · next hc => rw [judgeAnswer_of_late finding, if_pos hc]
      · next hc => rw [judgeAnswer_of_stale finding, if_neg hc]
    · subst hc
      exact lateSeen_of_closing found hx
    · exact judgeAnswer_of_late (matchAnswer_of_lapsed found hx hl)
    · exact lateSeen_of_lapsed found hx
    · exact judgeAnswer_of_forged (matchAnswer_of_foreign found hl hx)

end Sys2Proof.Machine

/-! PROOFS. The evaluation of the alarm combiner, and the order of the references that one event joins (O39). -/

namespace Sys2Proof.Machine

section
variable {s t : State}

/-! ## The combiner output -/

/-- The inputs by number: the lines' mismatches, VIOL and VIDEO (R158). -/
theorem combinerInput_eq {input : Fin 14 → Bool} (lines : ∀ n : Fin 12, input ⟨n.val, by omega⟩ = (s.line n).mismatch)
    (viol : input 12 = true ↔ ∃ l, (s.lane l).autoFenced = true) (video : input 13 = true ↔ s.panel.mode = .freeRun) :
    s.combinerInput = input := by
  funext n
  unfold State.combinerInput
  split
  · next h => exact (lines ⟨n.val, h⟩).symm
  · split
    · next h =>
      obtain rfl : n = 12 := Fin.ext h
      exact Bool.eq_iff_iff.2 ((viol_iff s).trans viol.symm)
    · next h h' =>
      obtain rfl : n = 13 := Fin.ext (show n.val = 13 by omega)
      exact Bool.eq_iff_iff.2 (decide_eq_true_iff.trans video.symm)

/-- An included input that is true after its own negation makes the output true where the output is not negated, and false where it
is (R158). -/
theorem combinerFormed_iff (s : State) : s.combinerFormed = true ↔ ((∃ n : Fin 14, s.combiner.includes.getLsbD n.val = true
    ∧ s.combinerInput n ≠ s.combiner.inverts.getLsbD n.val) ↔ s.combiner.outputInvert = false) := by
  have any : ((List.finRange 14).any fun n =>
        s.combiner.includes.getLsbD n.val && (s.combinerInput n != s.combiner.inverts.getLsbD n.val)) = true ↔
      ∃ n : Fin 14, s.combiner.includes.getLsbD n.val = true ∧ s.combinerInput n ≠ s.combiner.inverts.getLsbD n.val := by
    simp
  rw [← any, State.combinerFormed]
  cases s.combiner.outputInvert <;> simp

theorem alertPin_iff (s : State) :
    s.alertPin = true ↔ s.inReset = false ∧ s.combiner.alertEnable = true ∧ s.combiner.output = true := by
  simp [State.alertPin, and_assoc]

/-! ## The evaluation -/

theorem formOutput_output (s : State) : s.formOutput.combiner.output = s.combinerFormed := by
  unfold State.formOutput
  split
  · next h => exact h.symm
  · simp

theorem lockdownIfDue_of_due (ho : s.combiner.output = true) (ha : s.combiner.arm = true) (hm : s.hub.mode ≠ .lockdown) :
    s.lockdownIfDue = s.enterLockdown := by
  simp [State.lockdownIfDue, State.lockdownCondition, ho, ha, hm]

theorem lockdownIfDue_of_not_due (h : s.combiner.output = false ∨ s.combiner.arm = false ∨ s.hub.mode = .lockdown) :
    s.lockdownIfDue = s := by
  rcases h with h | h | h <;> simp [State.lockdownIfDue, State.lockdownCondition, h]

theorem evaluate_of_due (ho : s.combinerFormed = true) (ha : s.combiner.arm = true) (hm : s.hub.mode ≠ .lockdown) :
    s.evaluate = s.formOutput.enterLockdown :=
  lockdownIfDue_of_due ((formOutput_output s).trans ho) (by simpa using ha) (by simpa using hm)

theorem evaluate_of_not_due (h : s.combinerFormed = false ∨ s.combiner.arm = false ∨ s.hub.mode = .lockdown) :
    s.evaluate = s.formOutput := by
  refine lockdownIfDue_of_not_due ?_
  rw [formOutput_output]
  simpa using h

theorem viol_eq_iff (s t : State) :
    s.viol = t.viol ↔ ((∃ l, (s.lane l).autoFenced = true) ↔ ∃ l, (t.lane l).autoFenced = true) := by
  rw [Bool.eq_iff_iff, viol_iff, viol_iff]

/-! ## The order of the references of one event -/

/-- The entries that an event from `was` to `s` takes to CLOSING (R86). -/
def State.joined (was s : State) (i : Fin 48) : Bool :=
  (s.entry i).state.isClosing && !(was.entry i).state.isClosing

theorem isClosing_iff {e : ExchangeState} : e.isClosing = true ↔ ∃ x c late, e = .closing x c late := by
  cases e <;> simp [ExchangeState.isClosing]

theorem joined_iff (was s : State) (i : Fin 48) : State.joined was s i = true ↔
    (∃ x c late, (s.entry i).state = .closing x c late) ∧ ∀ x c late, (was.entry i).state ≠ .closing x c late := by
  rw [State.joined, Bool.and_eq_true, Bool.not_eq_true', ← Bool.not_eq_true, isClosing_iff, isClosing_iff]
  push Not
  rfl

theorem orderConclusions_eq_updLanes (was s : State) : State.orderConclusions was s =
    s.updLanes fun l r => { r with fifo := orderReferences (State.joined was s) (s.lane l).fifo } := by
  unfold State.orderConclusions
  exact updLanes_congr (f := fun _ r => { r with fifo := orderReferences (State.joined was s) r.fifo }) fun _ => rfl

/-- The other entries of a FIFO stand as they did, before the block of the references and behind it. -/
theorem filter_not_refersTo (p : Fin 48 → Bool) (fifo : List Entry) : (fifo.filter fun e => !e.refersTo p) =
    (fifo.takeWhile fun e => !e.refersTo p) ++ (fifo.dropWhile fun e => !e.refersTo p).filter fun e => !e.refersTo p := by
  conv_lhs => rw [← List.takeWhile_append_dropWhile (p := fun e : Entry => !e.refersTo p) (l := fifo), List.filter_append]
  rw [List.filter_eq_self.2 fun e he => List.mem_takeWhile_imp (p := fun e : Entry => !e.refersTo p) he]

end

/-- Settles O39: the output (`combinerInput_eq`, `combinerFormed_iff`), the entry into LOCKDOWN where it is due (`evaluate_of_due`),
and the order of the references where VIOL changes (`orderConclusions_eq_updLanes`, `filter_not_refersTo`). -/
theorem combinerEvaluation : Obligations.CombinerEvaluation := by
  unfold Obligations.CombinerEvaluation
  intro s t input out lines viol video hout ht
  obtain rfl : s.combinerFormed = out :=
    Bool.eq_iff_iff.2 ((combinerFormed_iff s).trans (by rw [combinerInput_eq lines viol video]; exact hout.symm))
  obtain rfl : t = s.formOutput := ht
  refine ⟨evaluate_of_due, evaluate_of_not_due, alertPin_iff s, fun was => ?_⟩
  rw [← viol_eq_iff]
  by_cases h : s.viol = was.viol
  · exact .inl ⟨h, if_pos h⟩
  · refine .inr ⟨h, State.joined was s.evaluate, fun l => orderReferences (State.joined was s.evaluate) (s.evaluate.lane l).fifo,
      (if_neg h).trans (orderConclusions_eq_updLanes _ _), joined_iff _ _, fun l => ?_⟩
    refine ⟨_, _, ⟨_, List.takeWhile_append_dropWhile⟩, rfl, (List.filter_congr fun e _ => ?_).trans (filter_not_refersTo _ _)⟩
    cases e <;> rfl

end Sys2Proof.Machine

/-! PROOFS. The alarm combiner: what its output and the lockdown condition stand on, and the evaluation that forms them (O52). -/

namespace Sys2Proof.Machine

/-! ## What the combiner and LOCKDOWN stand on -/

/-- The output is what the inputs and settings form, and the lockdown condition means LOCKDOWN (R99, R158). -/
def AlarmSound (s : State) : Prop := OutputFormed s ∧ LockdownFollows s

/-- The settings and output, every input but VIOL, and the hub mode are the same. -/
@[simp] def SameButViol (s t : State) : Prop :=
  t.combiner = s.combiner ∧ (∀ n, (t.line n).mismatch = (s.line n).mismatch) ∧ t.panel.mode = s.panel.mode
    ∧ t.hub.mode = s.hub.mode

/-- What the combiner and the lockdown condition are formed from, and the hub mode, are the same. -/
def SameAlarm (s t : State) : Prop := SameButViol s t ∧ ∀ l, (t.lane l).autoFenced = (s.lane l).autoFenced

section
variable {s t u : State}

/-! ### Changes that touch none of it -/

@[refl] theorem SameAlarm.refl (s : State) : SameAlarm s s := ⟨⟨rfl, fun _ => rfl, rfl, rfl⟩, fun _ => rfl⟩

@[trans] theorem SameAlarm.trans (h : SameAlarm s t) (h' : SameAlarm t u) : SameAlarm s u := by
  obtain ⟨⟨hc, hn, hp, hm⟩, hl⟩ := h
  obtain ⟨⟨hc', hn', hp', hm'⟩, hl'⟩ := h'
  exact ⟨⟨hc'.trans hc, fun n => (hn' n).trans (hn n), hp'.trans hp, hm'.trans hm⟩, fun l => (hl' l).trans (hl l)⟩

theorem SameAlarm.foldl {α : Type} {f : State → α → State} (hf : ∀ u a, SameAlarm u (f u a)) (s : State) (xs : List α) :
    SameAlarm s (xs.foldl f s) := by
  induction xs generalizing s with
  | nil => exact SameAlarm.refl s
  | cons x xs ih => exact (hf s x).trans (ih (f s x))

theorem SameAlarm.ite {p : Prop} [Decidable p] (h : p → SameAlarm s t) (h' : ¬p → SameAlarm s u) :
    SameAlarm s (if p then t else u) := by
  split
  · exact h ‹_›
  · exact h' ‹_›

theorem viol_of_sameAlarm (h : SameAlarm s t) : t.viol = s.viol := (viol_eq_iff t s).2 (by simp [h.2])

/-- The output formed depends on the settings and the inputs alone. -/
theorem combinerFormed_congr (hc : t.combiner = s.combiner) (hi : t.combinerInput = s.combinerInput) :
    t.combinerFormed = s.combinerFormed := by
  simp [State.combinerFormed, hc, hi]

theorem OutputFormed.congr (hs : OutputFormed s) (hc : t.combiner = s.combiner) (hi : t.combinerInput = s.combinerInput) :
    OutputFormed t := by
  rw [OutputFormed, combinerFormed_congr hc hi, hc]
  exact hs

theorem combinerInput_of_sameButViol (h : SameButViol s t) (hv : t.viol = s.viol) : t.combinerInput = s.combinerInput := by
  obtain ⟨-, hn, hp, -⟩ := h
  funext n
  simp [State.combinerInput, hn, hp, hv]

theorem AlarmSound.of_sameButViol (hs : AlarmSound s) (h : SameButViol s t) (hv : t.viol = s.viol) : AlarmSound t := by
  have inputs := combinerInput_of_sameButViol h hv
  obtain ⟨hc, -, -, hm⟩ := h
  obtain ⟨output, lockdown⟩ := hs
  refine ⟨output.congr hc inputs, ?_⟩
  rw [LockdownFollows, State.lockdownCondition, hc, hm]
  exact lockdown

/-- A change that touches neither the combiner's inputs and settings nor the hub mode. -/
theorem AlarmSound.same (hs : AlarmSound s) (h : SameAlarm s t) : AlarmSound t := hs.of_sameButViol h.1 (viol_of_sameAlarm h)

theorem sameAlarm_updLane (s : State) (l : Lane) {f : LaneState → LaneState} (hf : ∀ r, (f r).autoFenced = r.autoFenced) :
    SameAlarm s (s.updLane l f) := by
  simp [SameAlarm, hf]

theorem AlarmSound.ite {p : Prop} [Decidable p] (h : p → AlarmSound t) (h' : ¬p → AlarmSound u) :
    AlarmSound (if p then t else u) := by
  split
  · exact h ‹_›
  · exact h' ‹_›

theorem AlarmSound.foldl {α : Type} {f : State → α → State} (hf : ∀ u a, AlarmSound u → AlarmSound (f u a)) (hs : AlarmSound s)
    (xs : List α) : AlarmSound (xs.foldl f s) := by
  induction xs generalizing s with
  | nil => exact hs
  | cons x xs ih => exact ih (hf s x hs)

/-- The default settings include no input and negate nothing (TABLE B of Lines and the Alarm Combiner). -/
theorem alarmSound_of_combiner_reset (h : s.combiner = Combiner.reset) : AlarmSound s := by
  refine ⟨?_, ?_⟩
  · simp [OutputFormed, State.combinerFormed, h, Combiner.reset]
  · simp [LockdownFollows, State.lockdownCondition, h, Combiner.reset]

/-! ### The evaluation -/

/-- The newly formed output is what the inputs and settings form: it is no input of its own. -/
theorem outputFormed_formOutput (s : State) : OutputFormed s.formOutput := by
  rw [OutputFormed, formOutput_output]
  simp [State.combinerFormed, State.combinerInput, State.viol]

/-- The entry into LOCKDOWN leaves the combiner and its inputs. -/
theorem outputFormed_enterLockdown (h : OutputFormed s) : OutputFormed s.enterLockdown := by
  have inputs : s.enterLockdown.combinerInput = s.combinerInput := by
    funext n
    simp only [State.combinerInput, State.viol, enterLockdown_line, State.enterLockdown_frame]
    split_ifs <;> rfl
  exact h.congr (by simp) inputs

theorem alarmSound_lockdownIfDue (h : OutputFormed s) : AlarmSound s.lockdownIfDue := by
  unfold State.lockdownIfDue
  split
  · exact ⟨outputFormed_enterLockdown h, fun _ => enterLockdown_hub_mode s⟩
  · next hd => exact ⟨h, fun hc => by_contra fun hm => hd ⟨hc, hm⟩⟩

/-- Whatever stood before it, the evaluation forms the output, and LOCKDOWN follows (R158, R159). -/
theorem alarmSound_evaluate (s : State) : AlarmSound s.evaluate := alarmSound_lockdownIfDue (outputFormed_formOutput s)

/-- An event that changes VIOL alone of what the combiner stands on is followed by an evaluation. -/
theorem AlarmSound.evaluateViol (hs : AlarmSound s) (h : SameButViol s t) : AlarmSound (State.evaluateViol s t) := by
  unfold State.evaluateViol
  split
  · next hv => exact hs.of_sameButViol h hv
  · exact (alarmSound_evaluate t).same (by simp [SameAlarm])

/-- A line whose mismatch state stands. -/
theorem sameAlarm_setLine {n : Fin 12} {r : Line} (h : r.mismatch = (s.line n).mismatch) : SameAlarm s (s.setLine n r) := by
  refine ⟨⟨rfl, fun k => ?_, rfl, rfl⟩, fun _ => rfl⟩
  rw [State.line_setLine]
  split
  · next e => rw [h, e]
  · rfl

theorem AlarmSound.setOutput (hs : AlarmSound s) (n : Fin 12) (o : OutputState) : AlarmSound (s.setOutput n o) :=
  hs.same (sameAlarm_setLine rfl)

theorem AlarmSound.setFilter (hs : AlarmSound s) (n : Fin 12) (f : Filter) : AlarmSound (s.setFilter n f) :=
  hs.same (sameAlarm_setLine rfl)

/-- A change of one line is followed by an evaluation where its mismatch state is no longer what it was. -/
theorem AlarmSound.evaluateMismatch (hs : AlarmSound s) {n : Fin 12} {r : Line} (h : SameAlarm (s.setLine n r) t) :
    AlarmSound (State.evaluateMismatch (s.line n).mismatch n t) := by
  unfold State.evaluateMismatch
  split
  · next hm => exact hs.same ((sameAlarm_setLine (by simpa [h.1.2.1] using hm)).trans h)
  · exact alarmSound_evaluate t

/-! ### Domain control -/

theorem sameAlarm_fenceLane (s : State) (l : Lane) : SameAlarm s (s.fenceLane l) := by
  simp [SameAlarm, State.fenceLane]

theorem AlarmSound.autoFence (hs : AlarmSound s) (l : Lane) : AlarmSound (s.autoFence l) := by
  have fence : SameAlarm s (if (s.lane l).fenced then s else s.fenceLane l) :=
    SameAlarm.ite (fun _ => SameAlarm.refl s) fun _ => sameAlarm_fenceLane s l
  exact hs.evaluateViol (by simpa using fence.1)

theorem AlarmSound.violate (hs : AlarmSound s) (l : Lane) : AlarmSound (s.violate l) := by
  have charged : AlarmSound (s.updLane l fun r => { r with violations := bump r.violations, tally := bumpByte r.tally }) :=
    hs.same (by simp [SameAlarm])
  exact AlarmSound.ite (fun _ => charged.autoFence l) fun _ => charged

theorem AlarmSound.restore (hs : AlarmSound s) (l : Lane) : AlarmSound (s.restore l) :=
  AlarmSound.ite (fun _ => hs.evaluateViol (by simp)) fun _ => hs.same (by simp [SameAlarm])

/-- A removal rests lines, but leaves their mismatch states (R157). -/
theorem sameButViol_removal (s : State) (d : Domain) : SameButViol s (s.removal d) := by
  refine ⟨?_, fun n => ?_, ?_, by rw [removal_hub]⟩
  · by_cases h : d = .app <;> simp [State.removal, h]
  · rw [removal_line]; split <;> rfl
  · by_cases h : d = .app <;> simp [State.removal, h]

theorem AlarmSound.removeDomain (hs : AlarmSound s) (d : Domain) : AlarmSound (s.removeDomain d) :=
  hs.evaluateViol (sameButViol_removal s d)

theorem AlarmSound.holdDomain (hs : AlarmSound s) (d : Domain) : AlarmSound (s.holdDomain d) :=
  AlarmSound.removeDomain (hs.same (by simp [SameAlarm])) d

theorem AlarmSound.hold (hs : AlarmSound s) (d : Domain) : AlarmSound (s.hold d) :=
  AlarmSound.ite (fun _ => hs.same (by simp [SameAlarm, State.cancelRelease])) fun _ => hs.holdDomain d

theorem AlarmSound.selfRestart (hs : AlarmSound s) (d : Domain) : AlarmSound (s.selfRestart d) := by
  have restarted : AlarmSound ((s.removeDomain d).startInit d) := (hs.removeDomain d).same (by simp [SameAlarm])
  unfold State.selfRestart
  split
  · exact restarted
  · exact restarted
  · exact hs
  · exact hs

end
end Sys2Proof.Machine

/-! PROOFS. Every command keeps the combiner output formed and LOCKDOWN following its condition (O52). -/

namespace Sys2Proof.Machine

section
variable {s t u : State}

/-! ## Takes -/

theorem sameAlarm_writeOutcome (s : State) (l : Lane) (slot : Nat) (o : TakeOutcome) (tag : Nat) :
    SameAlarm s (s.writeOutcome l slot o tag) := by
  simp [SameAlarm, State.writeOutcome]

theorem sameAlarm_joinMessage (s : State) (r : Recipient) (h : Held) : SameAlarm s (s.joinMessage r h) := by
  cases r with
  | hub => simp [SameAlarm, State.joinMessage]
  | board l => exact SameAlarm.ite (fun _ => by simp [SameAlarm]) fun _ => by simp [SameAlarm]

theorem sameAlarm_admitted (s : State) (l : Lane) (slot tag : Nat) : SameAlarm s (s.admitted l slot tag) :=
  (sameAlarm_writeOutcome s l slot .accepted tag).trans (by simp [SameAlarm, State.admitted])

theorem sameAlarm_spend (s : State) (route : Option Nat) : SameAlarm s (s.spend route) := by
  cases route <;> simp [SameAlarm, State.spend]

theorem sameAlarm_conclude (s : State) (i : Fin 48) (x : Exchange) (c : Conclusion) : SameAlarm s (s.conclude i x c) := by
  simp [SameAlarm]

theorem sameAlarm_acceptRequest (s : State) (l : Lane) (slot : Nat) (m : Slot) (a : Address) (route : Option Nat) (b : Fin 30) :
    SameAlarm s (s.acceptRequest l slot m a route b) := by
  unfold State.acceptRequest
  split
  · exact SameAlarm.refl s
  · have claimed (i : Fin 48) (x : Exchange) : SameAlarm s ((s.spend route).claim i x) :=
      (sameAlarm_spend s route).trans (by simp [SameAlarm])
    have joined (i : Fin 48) (x : Exchange) (h : Held) :
        SameAlarm s (((s.spend route).claim i x).joinMessage a.recipient h) :=
      (claimed i x).trans (sameAlarm_joinMessage _ _ _)
    refine SameAlarm.trans ?_ (sameAlarm_admitted _ _ _ _)
    exact SameAlarm.ite (fun _ => (joined _ _ _).trans (sameAlarm_conclude _ _ _ _)) fun _ => joined _ _ _

theorem sameAlarm_acceptNotice (s : State) (l : Lane) (slot : Nat) (m : Slot) (a : Address) (route : Nat) (b : Fin 30) :
    SameAlarm s (s.acceptNotice l slot m a route b) :=
  ((sameAlarm_spend s _).trans (sameAlarm_joinMessage _ _ _)).trans (sameAlarm_admitted _ _ _ _)

theorem sameAlarm_acceptAnswer (s : State) (l : Lane) (slot : Nat) (m : Slot) (i : Fin 48) (x : Exchange) (b : Fin 30) :
    SameAlarm s (s.acceptAnswer l slot m i x b) := by
  have freed : SameAlarm s (s.freeEntry i) := by simp [SameAlarm]
  exact (freed.trans (sameAlarm_joinMessage _ _ _)).trans (sameAlarm_admitted _ _ _ _)

theorem sameAlarm_afterTake (s : State) (l : Lane) (slot : Nat) (first : Bool) : SameAlarm s (s.afterTake l slot first) := by
  simp [SameAlarm, State.afterTake]

theorem AlarmSound.lateSeen (hs : AlarmSound s) (tag : Nat) : AlarmSound (s.lateSeen tag) := hs.same (by simp [SameAlarm])

/-- A refusal that is a violation may fence the lane and so change VIOL. -/
theorem AlarmSound.refuseTake (hs : AlarmSound s) (l : Lane) (slot : Nat) (m : Slot) (o : TakeOutcome) :
    AlarmSound (s.refuseTake l slot m o) := by
  have written := hs.same (sameAlarm_writeOutcome s l slot o m.refusedTag)
  have counted : AlarmSound (((s.writeOutcome l slot o m.refusedTag).updLane l fun r =>
      { r with refused := bump r.refused }).raise l.domain (.outcome l)) :=
    written.same (by simp [SameAlarm])
  have seen := AlarmSound.ite (p := o = .late) (fun _ => counted.lateSeen m.tag) fun _ => counted
  exact AlarmSound.ite (fun _ => seen.violate l) fun _ => seen

theorem AlarmSound.takeFor (hs : AlarmSound s) (l : Lane) (first : Bool) : AlarmSound (s.takeFor l first) := by
  refine takeFor_induction ?_ (fun slot m o _ _ => ?_) (fun slot _ => ?_) (fun slot m a route b _ _ _ => ?_)
    (fun slot m a route b _ _ _ => ?_) fun slot m i x b _ _ _ => ?_
  · exact hs.same (by simp [SameAlarm, State.noVisit])
  · exact (hs.refuseTake l slot m o).same (sameAlarm_afterTake _ _ _ _)
  · exact hs.same (by simp [SameAlarm, State.heldBack, State.noVisit])
  · exact (hs.same (sameAlarm_acceptRequest s l slot m a route b)).same (sameAlarm_afterTake _ _ _ _)
  · exact (hs.same (sameAlarm_acceptNotice s l slot m a route b)).same (sameAlarm_afterTake _ _ _ _)
  · exact (hs.same (sameAlarm_acceptAnswer s l slot m i x b)).same (sameAlarm_afterTake _ _ _ _)

theorem AlarmSound.take (hs : AlarmSound s) (h : exec .take s = .next t) : AlarmSound t := by
  refine take_induction h hs fun l first _ => AlarmSound.takeFor (hs.same ?_) l first
  cases first <;> simp [SameAlarm, State.visiting]

/-! ## Ports and deliveries -/

theorem AlarmSound.writeAttention (hs : AlarmSound s) (d : Domain) (value : Word) : AlarmSound (s.writeAttention d value) := by
  refine AlarmSound.ite (fun _ => hs.selfRestart d) fun _ => hs.same ?_
  unfold State.nameLanes
  (repeat' split) <;> simp [SameAlarm]

theorem AlarmSound.access (hs : AlarmSound s) (d : Domain) (offset size : Nat) (op : PortOp) :
    AlarmSound (s.access d offset size op) := by
  unfold State.access
  split
  · cases op with
    | read => exact hs.same (by simp [SameAlarm, State.returnData])
    | write => exact hs.same (SameAlarm.ite (fun _ => by simp [SameAlarm]) fun _ => by simp [SameAlarm])
  split
  · next r _ =>
    cases op with
    | read => exact hs.same (by simp [SameAlarm, State.returnData])
    | write value =>
      cases r with
      | attention => exact hs.writeAttention d value
      | acknowledge => exact hs.same (by simp [SameAlarm, State.writeRegister])
      | status => exact hs
      | identity => exact hs.same (by simp [SameAlarm, State.writeRegister, State.clearStray])
  · cases op <;> exact hs.same (by simp [SameAlarm, State.strayAccess, State.returnData])

theorem AlarmSound.portAccess (hs : AlarmSound s) {d : Domain} {offset size : Nat} {op : PortOp}
    (h : exec (.portAccess d offset size op) s = .next t) : AlarmSound t := by
  simp only [exec, execPortAccess] at h
  (repeat' split at h) <;> cases h
  · exact hs.same (by simp [SameAlarm, State.returnData])
  · exact hs
  · exact hs.access d offset size op
  · exact hs

theorem sameAlarm_tellDelivered (s : State) (e : Entry) : SameAlarm s (s.tellDelivered e) := by
  cases e with
  | message h =>
    refine SameAlarm.ite (fun _ => ?_) fun _ => SameAlarm.refl s
    unfold State.requestDelivered
    (repeat' split) <;> simp [SameAlarm]
  | reply | cell => exact SameAlarm.refl s
  | conclusion i => simp [SameAlarm, State.tellDelivered]

theorem sameAlarm_delivery {l : Lane} (h : exec (.delivery l) s = .next t) : SameAlarm s t := by
  simp only [exec, execDelivery] at h
  (repeat' split at h) <;> cases h
  · exact SameAlarm.refl s
  · exact SameAlarm.refl s
  · simp [SameAlarm]
  · exact SameAlarm.trans (by simp [SameAlarm]) (sameAlarm_tellDelivered _ _)

theorem sameAlarm_drop {l : Lane} {place : Nat}
    (h : exec (.holdLimitDrop l place) s = .next t ∨ exec (.eventCellDrop l place) s = .next t) : SameAlarm s t := by
  simp only [exec, execHoldLimitDrop, execEventCellDrop] at h
  rcases h with h | h <;> split at h <;> cases h <;> simp [SameAlarm]

theorem sameAlarm_boardInitialisationComplete {d : Domain} (h : exec (.boardInitialisationComplete d) s = .next t) :
    SameAlarm s t := by
  simp only [exec, execBoardInitialisationComplete] at h
  split at h <;> cases h <;> simp [SameAlarm]

/-! ## The hub service -/

/-- A request is served soundly where its execution is sound. -/
theorem AlarmSound.serve (hs : AlarmSound s) {q : HubRequest}
    (run : ∀ u m, q.judge u m = none → AlarmSound u → AlarmSound (q.run u m)) : AlarmSound (q.serve s) := by
  have taken (m : Message) : AlarmSound (s.hubTake m) := hs.same (by simp [SameAlarm])
  refine serve_induction hs (fun m r detail _ => ?_) fun m _ hj => run _ m hj (taken m)
  have charged : AlarmSound ((s.hubTake m).chargeResult r m.sender) :=
    AlarmSound.ite (fun _ => (taken m).violate _) fun _ => taken m
  exact charged.same (by simp [SameAlarm])

theorem AlarmSound.finish (hs : AlarmSound s) (m : Message) (code : Nat) (r : HubResult) (detail : Nat) (data : List Byte) :
    AlarmSound (s.finish m code r detail data) := hs.same (by simp [SameAlarm])

theorem AlarmSound.completeJobs (hs : AlarmSound s) (job : Job) (r : HubResult) (detail : Nat) :
    AlarmSound (s.completeJobs job r detail) := hs.same (by simp [SameAlarm])

theorem AlarmSound.addOutstanding (hs : AlarmSound s) (job : Job) (m : Message) : AlarmSound (s.addOutstanding job m) :=
  hs.same (by simp [SameAlarm])

theorem sameAlarm_unknownRequestCode (h : exec .unknownRequestCode s = .next t) : SameAlarm s t := by
  simp only [exec, execUnknownRequestCode] at h
  (repeat' split at h) <;> cases h <;> simp [SameAlarm]

/-- The hub may go to any mode where the lockdown condition is false. -/
theorem AlarmSound.setMode (hs : AlarmSound s) (hc : s.lockdownCondition = false) (m : HubMode) : AlarmSound (s.setMode m) := by
  have combiner : (s.setMode m).combiner = s.combiner := by simp
  have inputs : (s.setMode m).combinerInput = s.combinerInput := by
    funext n; simp [State.combinerInput, State.viol]
  refine ⟨hs.1.congr combiner inputs, fun h => ?_⟩
  rw [State.lockdownCondition, combiner] at h
  cases h.symm.trans hc

/-- Routes are installed in BOOT with the hub going to OPEN, where the lockdown condition is false (R54). -/
theorem AlarmSound.installRoutes (hs : AlarmSound s) (table : List Route) : AlarmSound (s.installRoutes table) := by
  have installed : AlarmSound { s with routes := table, hub := { s.hub with routesLoaded := true } } :=
    hs.same (by simp [SameAlarm])
  refine AlarmSound.ite (fun hb => installed.setMode (Bool.eq_false_iff.2 fun hc => ?_) _) fun _ => installed
  cases hb.symm.trans (installed.2 hc)

theorem AlarmSound.loadRoutesCompletion (hs : AlarmSound s) (h : exec .loadRoutesCompletion s = .next t) : AlarmSound t := by
  have ended : AlarmSound { s with hub := { s.hub with loading := none } } :=
    hs.same (by simp [SameAlarm])
  simp only [exec, execLoadRoutesCompletion] at h
  split at h
  · cases h; exact hs
  · split at h <;> cases h
    · exact (ended.installRoutes _).completeJobs _ _ _
    · exact ended.completeJobs _ _ _

/-- RESUME is carried out while the combiner output is false (R101). -/
theorem AlarmSound.resume (hs : AlarmSound s) {m : Message} (hj : resumeRequest.judge s m = none) :
    AlarmSound (resumeRequest.run s m) := by
  obtain ⟨-, -, -, -, refused⟩ := judge_eq_none hj
  have output : s.combiner.output = false := by simpa [resumeRequest] using refused
  exact (hs.setMode (by simp [State.lockdownCondition, output]) _).finish m _ _ _ _

/-! ## Lines -/

theorem sameAlarm_tellOwner (s : State) (n : Fin 12) (level : Bool) : SameAlarm s (s.tellOwner n level) := by
  unfold State.tellOwner
  dsimp only
  (repeat' split) <;> simp [SameAlarm]

theorem AlarmSound.filteredChange (hs : AlarmSound s) (n : Fin 12) (level : Bool) : AlarmSound (s.filteredChange n level) :=
  hs.evaluateMismatch (sameAlarm_tellOwner _ n level)

theorem AlarmSound.settle (hs : AlarmSound s) (n : Fin 12) (level : Bool) : AlarmSound (s.settle n level) :=
  hs.evaluateMismatch (SameAlarm.refl _)

theorem AlarmSound.sampleLine (hs : AlarmSound s) (levels : BitVec 12) (n : Fin 12) : AlarmSound (State.sampleLine levels s n) := by
  unfold State.sampleLine
  dsimp only
  split
  · exact hs
  · exact hs.setFilter n _
  · exact AlarmSound.ite (fun _ => hs.setFilter n _) fun _ => AlarmSound.ite (fun _ => hs.setFilter n _) fun _ => hs.settle n _
  · exact AlarmSound.ite (fun _ => hs.setFilter n _) fun _ => AlarmSound.ite (fun _ => hs.setFilter n _) fun _ => hs.filteredChange n _

theorem AlarmSound.lineCommand (hs : AlarmSound s) (h : (∃ levels, exec (.lineSample levels) s = .next t)
    ∨ ∃ n, exec (.filteredChange n) s = .next t ∨ exec (.settlingEnd n) s = .next t) : AlarmSound t := by
  rcases h with ⟨levels, h⟩ | ⟨n, h | h⟩
  · simp only [exec, execLineSample] at h
    split at h
    · cases h; exact hs
    · rw [← Host.Outcome.next.inj h]; exact hs.foldl (fun _ n hu => hu.sampleLine levels n) _
  · simp only [exec, execFilteredChange] at h
    split at h <;> cases h
    · exact hs.filteredChange n _
    all_goals exact hs
  · simp only [exec, execSettlingEnd] at h
    split at h <;> cases h
    · exact hs.settle n _
    all_goals exact hs

/-! ## Frames -/

/-- The VIDEO input is the frame mode's, and is followed by an evaluation where that changes (R131, R132). -/
theorem AlarmSound.panelCommand (hs : AlarmSound s) {c : Instr}
    (hc : c ∈ [.appFrameStart, .videoLoss, .freeRunRowSlot, .freeRunFrameEnd]) (h : exec c s = .next t) : AlarmSound t := by
  have moded (u : State) (m : FrameMode) : AlarmSound (u.setFrameMode m) := alarmSound_evaluate _
  fin_cases hc <;> dsimp only [exec] at h
  · simp only [execAppFrameStart] at h
    (repeat' split at h) <;> cases h
    · exact hs
    · exact hs.same (by simp [SameAlarm, State.restartVideo])
    · exact (moded s.beginPanelEvent .following).same (by simp [SameAlarm, State.restartVideo])
  · cases h
    exact AlarmSound.ite
      (fun _ => (moded s.beginPanelEvent.outputRest .freeRun).same (by simp [SameAlarm, State.restartFrame])) fun _ => hs
  · cases h
    exact AlarmSound.ite (fun _ => hs.same (by simp [SameAlarm])) fun _ => hs
  · cases h
    exact AlarmSound.ite (fun _ => hs.same (by simp [SameAlarm, State.restartFrame])) fun _ => hs

theorem sameAlarm_appInputRow {px : List Pixel} (h : exec (.appInputRow px) s = .next t) : SameAlarm s t := by
  simp only [exec, execAppInputRow] at h
  (repeat' split at h) <;> cases h <;> simp [SameAlarm]

/-! ## Contacts and keys -/

theorem sameAlarm_produce (s : State) (owner : Option Lane) (e : InputEvent) : SameAlarm s (s.produce owner e) := by
  cases owner <;> simp [SameAlarm, State.produce]

theorem sameAlarm_setContact (s : State) (i : Fin 2) (c : Option Contact) : SameAlarm s (s.setContact i c) := by
  simp [SameAlarm]

theorem sameAlarm_setKey (s : State) (k : Fin 16) (r : Key) : SameAlarm s (s.setKey k r) := by
  simp [SameAlarm]

theorem sameAlarm_takeContact (s : State) (c : RawContact) : SameAlarm s (s.takeContact c) := by
  have told (u : State) (owner : Option Lane) (e : InputEvent) (i : Fin 2) (q : Option Contact) :
      SameAlarm u ((u.produce owner e).setContact i q) := (sameAlarm_produce u owner e).trans (sameAlarm_setContact _ i q)
  unfold State.takeContact
  split
  · unfold State.touchContact
    split
    · exact told _ _ _ _ _
    · exact SameAlarm.refl s
    · exact SameAlarm.refl s
    · exact SameAlarm.refl s
    · exact (told _ _ _ _ _).trans (told _ _ _ _ _)
    · exact told _ _ _ _ _
    · exact told _ _ _ _ _
    · exact SameAlarm.refl s
  · exact SameAlarm.refl s

theorem sameAlarm_touchCommand
    (h : exec .reportReadyFall s = .next t ∨ ∃ report low, exec (.touchReadCompletion report low) s = .next t) : SameAlarm s t := by
  have touch (u : State) (x : Touch) : SameAlarm u { u with touch := x } := (by simp [SameAlarm])
  rcases h with h | ⟨report, low, h⟩
  · simp only [exec, execReportReadyFall] at h
    (repeat' split at h) <;> cases h
    · exact SameAlarm.refl s
    all_goals exact touch s _
  · simp only [exec, execTouchReadCompletion] at h
    split at h <;> cases h
    · exact SameAlarm.refl s
    · exact touch s _
    · exact SameAlarm.trans (by simp [SameAlarm, State.dropReport]) (touch s.dropReport _)
    all_goals exact (SameAlarm.foldl sameAlarm_takeContact s _).trans (touch _ _)

theorem sameAlarm_acceptKey (s : State) (k : Fin 16) : SameAlarm s (s.acceptKey k) :=
  SameAlarm.ite (fun _ => (sameAlarm_produce _ _ _).trans (sameAlarm_setKey _ _ _))
    fun _ => (sameAlarm_produce _ _ _).trans (sameAlarm_setKey _ _ _)

theorem sameAlarm_senseKey (down : BitVec 16) (s : State) (k : Fin 16) : SameAlarm s (State.senseKey down s k) :=
  SameAlarm.ite (fun _ => sameAlarm_setKey _ _ _)
    fun _ => SameAlarm.ite (fun _ => sameAlarm_setKey _ _ _) fun _ => sameAlarm_acceptKey s k

theorem sameAlarm_keyCommand (h : (∃ down, exec (.keySense down) s = .next t) ∨ ∃ k, exec (.keyChangeAccepted k) s = .next t) :
    SameAlarm s t := by
  rcases h with ⟨down, h⟩ | ⟨k, h⟩
  · simp only [exec, execKeySense] at h
    split at h <;> cases h
    · exact SameAlarm.refl s
    · exact SameAlarm.foldl (sameAlarm_senseKey down) s _
  · simp only [exec, execKeyChangeAccepted] at h
    split at h <;> cases h
    · exact sameAlarm_acceptKey s k
    · exact SameAlarm.refl s

/-! ## Commands -/

/-- Every command but a reset keeps the output formed and LOCKDOWN following its condition. -/
theorem exec_alarmSound {c : Instr} (hs : AlarmSound s) (hc : c.isReset = false) (h : exec c s = .next t) : AlarmSound t := by
  cases c
  case powerOnReset => cases hc
  case pinReset => cases hc
  case resetEnd => cases hc
  case portAccess => exact hs.portAccess h
  case attentionLanes d v => cases h; exact AlarmSound.ite (fun _ => hs.writeAttention d v) fun _ => hs
  case selfAnnouncedRestart d => cases h; exact AlarmSound.ite (fun _ => hs.selfRestart d) fun _ => hs
  case boardInitialisationComplete => exact hs.same (sameAlarm_boardInitialisationComplete h)
  case acknowledge =>
    cases h; exact AlarmSound.ite (fun _ => hs.same (by simp [SameAlarm])) fun _ => hs
  case identityWrite =>
    cases h; exact AlarmSound.ite (fun _ => hs.same (by simp [SameAlarm, State.clearStray])) fun _ => hs
  case statusWrite => cases h; exact hs
  case take => exact hs.take h
  case refill => cases h; exact hs.same (by simp [SameAlarm])
  case delivery => exact hs.same (sameAlarm_delivery h)
  case holdLimitDrop => exact hs.same (sameAlarm_drop (.inl h))
  case eventCellDrop => exact hs.same (sameAlarm_drop (.inr h))
  case expiry => cases h; exact AlarmSound.ite (fun _ => hs.same (by simp [SameAlarm])) fun _ => hs
  case unknownRequestCode => exact hs.same (sameAlarm_unknownRequestCode h)
  case loadRoutes =>
    cases h
    exact hs.serve fun _ m _ hu => AlarmSound.addOutstanding (hu.same (by simp [SameAlarm])) _ m
  case loadRoutesCompletion => exact hs.loadRoutesCompletion h
  case setPanes =>
    cases h
    exact hs.serve fun _ m _ hu => AlarmSound.addOutstanding (hu.same (by simp [SameAlarm])) _ m
  case scrollPane =>
    cases h
    exact hs.serve fun _ m _ hu => AlarmSound.addOutstanding (hu.same (by simp [SameAlarm])) _ m
  case setCalibration =>
    cases h; exact hs.serve fun _ m _ hu => AlarmSound.finish (hu.same (by simp [SameAlarm])) m _ _ _ _
  case setFocus =>
    cases h; exact hs.serve fun _ m _ hu => AlarmSound.finish (hu.same (by simp [SameAlarm])) m _ _ _ _
  case setLineMap =>
    cases h; exact hs.serve fun _ m _ hu => AlarmSound.finish (hu.evaluateMismatch (SameAlarm.refl _)) m _ _ _ _
  case setCombiner => cases h; exact hs.serve fun _ m _ _ => (alarmSound_evaluate _).finish m _ _ _ _
  case driveLine => cases h; exact hs.serve fun _ m _ hu => (hu.setOutput _ _).finish m _ _ _ _
  case driveLinePulse => cases h; exact hs.serve fun _ m _ hu => (hu.setOutput _ _).finish m _ _ _ _
  case pulseEnd n => cases h; exact AlarmSound.ite (fun _ => hs.setOutput n _) fun _ => hs
  case setNotices =>
    cases h; exact hs.serve fun _ m _ hu => AlarmSound.finish (hu.same (by simp [SameAlarm])) m _ _ _ _
  case domainResetHold => cases h; exact hs.serve fun _ m _ hu => (hu.hold _).finish m _ _ _ _
  case domainResetRelease =>
    cases h
    exact hs.serve fun _ m _ hu =>
      AlarmSound.finish (AlarmSound.completeJobs (hu.same (by simp [SameAlarm])) _ _ _) m _ _ _ _
  case domainResetPulse =>
    cases h
    exact hs.serve fun _ m _ hu =>
      AlarmSound.addOutstanding ((hu.holdDomain (resetDomainOf m.payload)).same (by simp [SameAlarm])) _ m
  case pulseRelease =>
    cases h; exact AlarmSound.ite (fun _ => hs.same (by simp [SameAlarm])) fun _ => hs
  case fenceLane =>
    cases h
    exact hs.serve fun u m _ hu =>
      AlarmSound.finish (AlarmSound.ite (fun _ => hu) fun _ => hu.same (sameAlarm_fenceLane u _)) m _ _ _ _
  case restoreLane => cases h; exact hs.serve fun _ m _ hu => (hu.restore _).finish m _ _ _ _
  case setViolationLimit =>
    cases h; exact hs.serve fun _ m _ hu => AlarmSound.finish (hu.same (by simp [SameAlarm])) m _ _ _ _
  case readCounters =>
    cases h
    exact hs.serve fun u m _ hu => AlarmSound.finish (hu.same (sameAlarm_updLane u _ fun _ => by rfl)) m _ _ _ _
  case status => cases h; exact hs.serve fun _ m _ hu => hu.finish m _ _ _ _
  case resume => cases h; exact hs.serve fun _ _ hj hu => hu.resume hj
  case restartHub =>
    cases h
    exact hs.serve fun u _ _ _ => (alarmSound_evaluate u.clearHub).same (by simp [SameAlarm, restartHubRequest])
  case appFrameStart => exact hs.panelCommand (by decide) h
  case appInputRow => exact hs.same (sameAlarm_appInputRow h)
  case videoLoss => exact hs.panelCommand (by decide) h
  case freeRunRowSlot => exact hs.panelCommand (by decide) h
  case freeRunFrameEnd => exact hs.panelCommand (by decide) h
  case reportReadyFall => exact hs.same (sameAlarm_touchCommand (.inl h))
  case touchReadCompletion => exact hs.same (sameAlarm_touchCommand (.inr ⟨_, _, h⟩))
  case keySense => exact hs.same (sameAlarm_keyCommand (.inl ⟨_, h⟩))
  case keyChangeAccepted => exact hs.same (sameAlarm_keyCommand (.inr ⟨_, h⟩))
  case lineSample => exact hs.lineCommand (.inl ⟨_, h⟩)
  case filteredChange => exact hs.lineCommand (.inr ⟨_, .inl h⟩)
  case settlingEnd => exact hs.lineCommand (.inr ⟨_, .inr h⟩)

/-- The end of a reset leaves the default settings of a part that stands as the reset left it. -/
theorem alarmSound_resetEnd (hr : ResetHolds s) (hs : AlarmSound s) {low : Bool} (h : exec (.resetEnd low) s = .next t) :
    AlarmSound t := by
  rcases tame_resetEnd h with ⟨-, rfl⟩ | ⟨inReset, -⟩
  · exact hs
  · rw [exec_resetEnd inReset hr] at h
    cases h
    exact alarmSound_of_combiner_reset rfl

/-- Every command keeps the output formed and LOCKDOWN following, in a part that, in reset, stands as the reset left it. -/
theorem exec_alarmSound_resetHolds {c : Instr} (hs : ResetHolds s ∧ AlarmSound s) (h : exec c s = .next t) :
    ResetHolds t ∧ AlarmSound t := by
  obtain ⟨hr, hs⟩ := hs
  refine ⟨exec_resetHolds hr h, ?_⟩
  cases hc : c.isReset with
  | false => exact exec_alarmSound hs hc h
  | true =>
    rcases Instr.isReset_eq_true hc with rfl | rfl | ⟨low, rfl⟩
    · cases h; exact alarmSound_of_combiner_reset rfl
    · cases h; exact alarmSound_of_combiner_reset rfl
    · exact alarmSound_resetEnd hr hs h

end

/-- Settles O52: a change of an input, a setting or the hub mode comes with an evaluation, which leaves the output formed and
LOCKDOWN following whatever stood before it (`alarmSound_evaluate`), or falls where the lockdown condition is false
(`AlarmSound.setMode`). -/
theorem combinerAndLockdownKept : Obligations.CombinerAndLockdownKept := by
  unfold Obligations.CombinerAndLockdownKept
  refine kept_of_exec (p := fun s => ResetHolds s ∧ AlarmSound s) (fun s rest hs => ⟨hs.1.queue rest, hs.2.same ?_⟩)
    (fun s hs => ⟨hs.1.tick, hs.2.same ?_⟩) fun _ _ _ => exec_alarmSound_resetHolds
  · simp [SameAlarm]
  · simp [SameAlarm, State.tick]

end Sys2Proof.Machine

/-! PROOFS. Every command completes, and leaves the queue and the timebase as they stand (O2). -/

namespace Sys2Proof.Machine

section
variable {s t : State}

/-- Every command has a next state: no arm of `exec` ends in a fault or a refusal, whatever its conditions find. -/
theorem exec_completes (c : Instr) (s : State) : ∃ t, exec c s = .next t := by
  cases c
  case resetEnd | portAccess | boardInitialisationComplete | take | delivery | holdLimitDrop | eventCellDrop
    | unknownRequestCode | loadRoutesCompletion | appFrameStart | appInputRow | reportReadyFall | touchReadCompletion
    | keySense | keyChangeAccepted | lineSample | filteredChange | settlingEnd =>
    simp only [exec, execResetEnd, execPortAccess, execBoardInitialisationComplete, execTake, execDelivery,
      execHoldLimitDrop, execEventCellDrop, execUnknownRequestCode, execLoadRoutesCompletion, execAppFrameStart,
      execAppInputRow, execReportReadyFall, execTouchReadCompletion, execKeySense, execKeyChangeAccepted,
      execLineSample, execFilteredChange, execSettlingEnd]
    (repeat' split) <;> exact ⟨_, rfl⟩
  all_goals exact ⟨_, rfl⟩

theorem resetEnd_keeps {low : Bool} (h : exec (.resetEnd low) s = .next t) : t.pending = s.pending ∧ t.now = s.now := by
  simp only [exec, execResetEnd] at h
  split at h <;> cases h <;> simp

end

/-- Settles O2: every command but the three of the resets is tame (`exec_tame`), the two resets keep the queue as they are written,
and the end of a reset changes neither (`resetEnd_keeps`). -/
theorem commandsKeepQueueAndTime : Obligations.CommandsKeepQueueAndTime := by
  unfold Obligations.CommandsKeepQueueAndTime
  intro c s
  obtain ⟨t, h⟩ := exec_completes c s
  refine ⟨t, h, ?_⟩
  cases hc : c.isReset with
  | false => exact ⟨(exec_tame hc h).pending, fun _ => (exec_tame hc h).now⟩
  | true =>
    rcases Instr.isReset_eq_true hc with rfl | rfl | ⟨low, rfl⟩
    · cases h; exact ⟨rfl, absurd rfl⟩
    · cases h; exact ⟨rfl, fun _ => rfl⟩
    · obtain ⟨pending, now⟩ := resetEnd_keeps h; exact ⟨pending, fun _ => now⟩

end Sys2Proof.Machine

/-! PROOFS. Requests that set what they name: SET CALIBRATION, SET FOCUS, SET NOTICES and SET VIOLATION LIMIT (O29). -/

namespace Sys2Proof.Machine

/-! ## Changes that the take of a hub request does not see -/

/-- A change reads and writes nothing of the hub, the lanes and the exchange table, which are all that a hub take changes. -/
def PassesTake (g : State → State) : Prop :=
  ∀ (u : State) (hub : Hub) (lanes : Vector LaneState 10) (exchanges : Vector ExchangeEntry 48),
    g { u with hub := hub, lanes := lanes, exchanges := exchanges }
      = { g u with hub := hub, lanes := lanes, exchanges := exchanges }

theorem passesTake_updDom (d : Domain) (f : DomainRecord → DomainRecord) : PassesTake fun u => u.updDom d f := by
  intro u hub lanes exchanges
  cases d <;> rfl

section
variable {g : State → State} (hg : PassesTake g) (s : State)
include hg

theorem PassesTake.kept : (g s).hub = s.hub ∧ (g s).lanes = s.lanes ∧ (g s).exchanges = s.exchanges := by
  have self : g s = { g s with hub := s.hub, lanes := s.lanes, exchanges := s.exchanges } := hg s _ _ _
  rw [self]
  exact ⟨rfl, rfl, rfl⟩

theorem PassesTake.setExchange (i : Fin 48) (x : ExchangeState) : (g s).setExchange i x = g (s.setExchange i x) := by
  obtain ⟨hub, lanes, exchanges⟩ := hg.kept s
  refine Eq.trans ?_ (hg s s.hub s.lanes _).symm
  rw [← hub, ← lanes]
  simp only [State.setExchange, State.setEntry, State.entry, exchanges]

theorem PassesTake.hubAwaits (tag : Nat) : (g s).hubAwaits tag = g (s.hubAwaits tag) := by
  have entry : ∀ i, (g s).entry i = s.entry i := fun i => by simp only [State.entry, (hg.kept s).2.2]
  have find : (g s).findTag tag = s.findTag tag := by simp only [State.findTag, entry]
  unfold State.hubAwaits
  rw [find]
  cases s.findTag tag with
  | none => rfl
  | some i =>
    dsimp only
    rw [entry]
    cases (s.entry i).state with
    | posted x => dsimp only; split; exacts [hg.setExchange s i _, rfl]
    | free | awaited | closing | lapsed => rfl

/-- Such a change is the same before and after the take. -/
theorem PassesTake.hubTake (m : Message) : (g s).hubTake m = g (s.hubTake m) := by
  obtain ⟨hub, lanes, exchanges⟩ := hg.kept s
  rw [State.hubTake, State.hubTake, ← hg.hubAwaits]
  refine congrArg (State.hubAwaits · m.tag) (Eq.trans ?_ (hg s _ _ s.exchanges).symm)
  rw [State.clearBufferWait, State.updLanes, hub, lanes, ← exchanges]

end

/-! ## Requests that pass checks 1 to 4 -/

/-- The hub service takes a request that is `q`'s, and it passes checks 1 to 4 of R96. -/
structure HubRequest.Heard (q : HubRequest) (s : State) (m : Message) : Prop where
  taken : HubTakes s m
  takes : q.takes m.payload = true
  issuer : q.issuer m.sender = true
  available : q.available s.hub.mode = true
  length : q.length m.payload ≤ m.payload.length

section
variable {q : HubRequest} {s : State} {m : Message} {rest : List Byte} {l : Lane}

theorem HubRequest.heard_of_code {code : Nat} (ht : HubTakes s m) (hp : m.payload = BitVec.ofNat 8 code :: rest)
    (hc : code < 256) (takes : q.takes = hasCode code) (issuer : q.issuer m.sender = true) (available : q.available = anyMode)
    (length : q.length m.payload ≤ m.payload.length) : q.Heard s m :=
  ⟨ht, by rw [takes, hp]; exact hasCode_of_head hc rest, issuer, by rw [available]; rfl, length⟩

theorem HubRequest.Heard.run (h : q.Heard s m) (hb : q.badField m.payload = none)
    (hr : q.refused (s.hubTake m) m = none) : q.serve s = q.run (s.hubTake m) m :=
  serve_run h.taken q h.takes h.issuer h.available h.length hb hr

/-- Check 5 or check 6 of R96 fails with PARAMETER, detail 0 (R33). -/
theorem HubRequest.Heard.parameter (h : q.Heard s m) (hf : q.badField m.payload = some 0
      ∨ (q.badField m.payload = none ∧ q.refused (s.hubTake m) m = some (.parameter, 0))) :
    q.serve s = s.answered m [4#8, BitVec.ofNat 8 q.code, 0#8, 0#8] := by
  rcases hf with hb | ⟨hb, hr⟩
  · rw [serve_badField h.taken q h.takes h.issuer h.available h.length hb]; rfl
  · rw [serve_refused h.taken q h.takes h.issuer h.available h.length hb hr]; rfl

theorem laneListed_of_code {p : List Byte} (h : Lane.ofCode (byteAt p 2) = some l) : laneListed p = true :=
  decide_eq_true (le_nine_of_code h)

/-! ## SET CALIBRATION -/

theorem calibration_accepts_iff (c : Calibration) : (c.inRange = true ∧ c.spans = true) ↔
    c.xmin ≤ 4095 ∧ c.xmax ≤ 4095 ∧ c.ymin ≤ 4095 ∧ c.ymax ≤ 4095 ∧ c.xmin + 256 ≤ c.xmax ∧ c.ymin + 256 ≤ c.ymax := by
  simp only [Calibration.inRange, Calibration.spans, Bool.and_eq_true, decide_eq_true_eq, and_assoc]

/-- SET CALIBRATION of limits in range that span enough (R140). -/
theorem serve_setCalibration (h : setCalibrationRequest.Heard s m) (hr : (calibrationOf m.payload).inRange = true)
    (hs : (calibrationOf m.payload).spans = true) : setCalibrationRequest.serve s =
      State.answered { s with touch := { s.touch with calibration := calibrationOf m.payload } } m [1#8, 4#8, 0#8, 0#8] := by
  have touch : (s.hubTake m).touch = s.touch := by simp
  have passes : PassesTake fun u => { u with touch := { s.touch with calibration := calibrationOf m.payload } } :=
    fun _ _ _ _ => rfl
  rw [h.run (by simp [setCalibrationRequest, badItem, hr]) (by simp [setCalibrationRequest, hs]), State.answered,
    passes.hubTake, ← touch]
  rfl

theorem serve_setCalibration_refused (h : setCalibrationRequest.Heard s m)
    (hn : ¬((calibrationOf m.payload).inRange = true ∧ (calibrationOf m.payload).spans = true)) :
    setCalibrationRequest.serve s = s.answered m [4#8, 4#8, 0#8, 0#8] := by
  refine h.parameter ?_
  cases hr : (calibrationOf m.payload).inRange with
  | false => exact .inl (by simp [setCalibrationRequest, badItem, hr])
  | true =>
    have spans : (calibrationOf m.payload).spans = false := Bool.eq_false_iff.2 fun e => hn ⟨hr, e⟩
    exact .inr (by simp [setCalibrationRequest, badItem, hr, spans])

/-! ## SET FOCUS -/

/-- SET FOCUS to an application lane (R147). -/
theorem serve_setFocus {x : Fin 8} (h : setFocusRequest.Heard s m) (hx : byteAt m.payload 2 = x.val) :
    setFocusRequest.serve s = State.answered { s with touch := { s.touch with focus := x } } m [1#8, 5#8, 0#8, 0#8] := by
  have touch : (s.hubTake m).touch = s.touch := by simp
  have focus : focusOf m.payload = x := by simp [focusOf, hx]
  have passes : PassesTake fun u => { u with touch := { s.touch with focus := x } } := fun _ _ _ _ => rfl
  rw [h.run (by simp [setFocusRequest, badItem, hx, Nat.lt_succ_iff.1 x.isLt]) rfl, State.answered, passes.hubTake,
    ← touch, ← focus]
  rfl

theorem serve_setFocus_refused (h : setFocusRequest.Heard s m) (hx : 7 < byteAt m.payload 2) :
    setFocusRequest.serve s = s.answered m [4#8, 5#8, 0#8, 0#8] :=
  h.parameter (.inl (by simp [setFocusRequest, badItem, Nat.not_le.2 hx]))

/-! ## SET NOTICES -/

/-- The groups of a domain are the lowest eleven in PAY and the lowest eight in APP and RAD (TABLE G). -/
theorem groups_getLsbD (d : Domain) (b : Nat) : d.groups.getLsbD b = decide (b < if d = .pay then 11 else 8) := by
  have low (k : Nat) (hk : k ≤ 16) : (BitVec.ofNat 16 (2 ^ k - 1)).getLsbD b = decide (b < k) := by
    rw [BitVec.getLsbD_ofNat, Nat.testBit_two_pow_sub_one, ← Bool.decide_and, decide_eq_decide]
    omega
  cases d with
  | pay => exact low 11 (by decide)
  | app | rad => exact low 8 (by decide)

/-- SET NOTICES for the requester's own domain (R164). -/
theorem serve_setNotices (h : setNoticesRequest.Heard s m) (hx : byteAt m.payload 6 ≤ 1) : setNoticesRequest.serve s =
    State.answered (s.updDom m.sender.domain fun r => r.setNotices m.sender.domain.groups m.payload) m
      [1#8, 9#8, 0#8, 0#8] := by
  rw [h.run (by simp [setNoticesRequest, badItem, hx]) rfl, State.answered, (passesTake_updDom _ _).hubTake]
  rfl

theorem serve_setNotices_refused (h : setNoticesRequest.Heard s m) (hx : 1 < byteAt m.payload 6) :
    setNoticesRequest.serve s = s.answered m [4#8, 9#8, 0#8, 0#8] :=
  h.parameter (.inl (by simp [setNoticesRequest, badItem, Nat.not_le.2 hx]))

/-! ## SET VIOLATION LIMIT -/

/-- SET VIOLATION LIMIT of a lane (R120). -/
theorem serve_setViolationLimit (h : setViolationLimitRequest.Heard s m) (hc : Lane.ofCode (byteAt m.payload 2) = some l) :
    setViolationLimitRequest.serve s = State.answered (s.updLane l fun r => { r with limit := byteAt m.payload 3, tally := 0 }) m
      [1#8, 0x0D#8, 0#8, 0#8] := by
  rw [h.run (by simp [setViolationLimitRequest, badItem, laneListed_of_code hc]) rfl, State.answered,
    hubTake_updLane _ _ _ fun _ => rfl, ← laneAtByte_of_code hc]
  rfl

theorem serve_setViolationLimit_refused (h : setViolationLimitRequest.Heard s m) (hc : 9 < byteAt m.payload 2) :
    setViolationLimitRequest.serve s = s.answered m [4#8, 0x0D#8, 0#8, 0#8] :=
  h.parameter (.inl (by simp [setViolationLimitRequest, badItem, laneListed, Nat.not_le.2 hc]))

end

/-- Settles O29: each request is taken and passes checks 1 to 4 (`HubRequest.heard_of_code`), and its field decides; a setting made
at the take stands as if made before it (`PassesTake.hubTake`). -/
theorem settingRequests : Obligations.SettingRequests := by
  unfold Obligations.SettingRequests
  rintro s m rest _ ht rfl
  refine ⟨fun c hp hl hs hc => ?_, fun hp hl hs => ?_, fun hp hl hs => ?_, fun hp hl hs => ?_⟩
  · have heard : setCalibrationRequest.Heard s m :=
      HubRequest.heard_of_code ht hp (by decide) rfl (decide_eq_true hs) rfl hl
    obtain rfl : c = calibrationOf m.payload := hc
    split
    · next ok =>
      obtain ⟨inRange, spans⟩ := (calibration_accepts_iff _).2 ok
      exact congrArg Host.Outcome.next (serve_setCalibration heard inRange spans)
    · next bad =>
      exact congrArg Host.Outcome.next (serve_setCalibration_refused heard (mt (calibration_accepts_iff _).1 bad))
  · have heard : setFocusRequest.Heard s m := HubRequest.heard_of_code ht hp (by decide) rfl (decide_eq_true hs) rfl hl
    exact ⟨fun x hx => congrArg Host.Outcome.next (serve_setFocus heard hx),
      fun hx => congrArg Host.Outcome.next (serve_setFocus_refused heard hx)⟩
  · have heard : setNoticesRequest.Heard s m :=
      HubRequest.heard_of_code ht hp (by decide) rfl ((firstLanes_eq _).trans (decide_eq_true hs)) rfl hl
    have pay : m.sender.domain = .pay ↔ m.sender = .pay := by cases m.sender <;> simp [Lane.domain]
    refine ⟨fun hx => ⟨m.sender.domain.groups, fun b => ?_, ?_⟩, fun hx => ?_⟩
    · simp only [groups_getLsbD, pay]
    · exact congrArg Host.Outcome.next (serve_setNotices heard hx)
    · exact congrArg Host.Outcome.next (serve_setNotices_refused heard hx)
  · have heard : setViolationLimitRequest.Heard s m :=
      HubRequest.heard_of_code ht hp (by decide) rfl (decide_eq_true hs) rfl hl
    exact ⟨fun l hc => congrArg Host.Outcome.next (serve_setViolationLimit heard hc),
      fun hc => congrArg Host.Outcome.next (serve_setViolationLimit_refused heard hc)⟩

end Sys2Proof.Machine

/-! PROOFS. FENCE LANE and RESTORE LANE (O33). -/

namespace Sys2Proof.Machine

section
variable {s : State} {m : Message} {l : Lane}

/-! ## FENCE LANE -/

/-- FENCE LANE of a lane of APP or RAD (R117, R118). -/
theorem serve_fenceLane (h : fenceLaneRequest.Heard s m) (hc : Lane.ofCode (byteAt m.payload 2) = some l) (hl : l ≠ .pay) :
    fenceLaneRequest.serve s = if (s.lane l).fenced then s.answered m [1#8, 0x0B#8, 0#8, 0#8]
      else ((s.hubTake m).fenceLane l).complete m.tag [1#8, 0x0B#8, 0#8, 0#8] := by
  have lane := laneAtByte_of_code hc
  have fenced : ((s.hubTake m).lane l).fenced = (s.lane l).fenced := by simp
  rw [h.run (by simp [fenceLaneRequest, badItem, laneListed_of_code hc]) (by simp [fenceLaneRequest, lane, hl])]
  simp only [fenceLaneRequest, lane, fenced]
  split <;> rfl

/-- FENCE LANE of PAY's lane, or of no lane (R33, R118). -/
theorem serve_fenceLane_refused (h : fenceLaneRequest.Heard s m) (hc : 8 = byteAt m.payload 2 ∨ 9 < byteAt m.payload 2) :
    fenceLaneRequest.serve s = s.answered m [4#8, 0x0B#8, 0#8, 0#8] := by
  refine h.parameter ?_
  rcases hc with hc | hc
  · have code : Lane.ofCode (byteAt m.payload 2) = some .pay := by rw [← hc]; rfl
    exact .inr ⟨by simp [fenceLaneRequest, badItem, laneListed_of_code code],
      by simp [fenceLaneRequest, laneAtByte_of_code code]⟩
  · exact .inl (by simp [fenceLaneRequest, badItem, laneListed, Nat.not_le.2 hc])

/-! ## RESTORE LANE -/

theorem serve_restoreLane (h : restoreLaneRequest.Heard s m) (hc : Lane.ofCode (byteAt m.payload 2) = some l) :
    restoreLaneRequest.serve s = ((s.hubTake m).restore l).complete m.tag [1#8, 0x0C#8, 0#8, 0#8] := by
  rw [h.run (by simp [restoreLaneRequest, badItem, laneListed_of_code hc]) rfl, ← laneAtByte_of_code hc]
  rfl

theorem serve_restoreLane_refused (h : restoreLaneRequest.Heard s m) (hc : 9 < byteAt m.payload 2) :
    restoreLaneRequest.serve s = s.answered m [4#8, 0x0C#8, 0#8, 0#8] :=
  h.parameter (.inl (by simp [restoreLaneRequest, badItem, laneListed, Nat.not_le.2 hc]))

theorem restore_of_fenced (h : (s.lane l).fenced = true) : s.restore l = State.evaluateViol s
    (((s.updLane l fun r => { r with fenced := false, autoFenced := false, tally := 0 }).raise l.domain .fence).raise
      .pay .fence) := if_pos h

theorem restore_of_not_fenced (h : (s.lane l).fenced = false) :
    s.restore l = s.updLane l fun r => { r with tally := 0 } := if_neg (by simp [h])

end

/-- Settles O33: each request passes checks 1 to 4, and the lane that it names and the lane's fence, which the take leaves as it
was, decide (`serve_fenceLane`, `restore_of_fenced`). -/
theorem fenceRequests : Obligations.FenceRequests := by
  unfold Obligations.FenceRequests
  rintro s _ m rest _ ht rfl hs rfl hl
  have kept : ∀ l, ((s.hubTake m).lane l).fenced = (s.lane l).fenced := by simp
  refine ⟨fun hp => ?_, fun hp => ?_⟩
  · have heard : fenceLaneRequest.Heard s m := HubRequest.heard_of_code ht hp (by decide) rfl (decide_eq_true hs) rfl hl
    refine ⟨fun l hc hn hf => ?_, fun l hc hn hf => ?_, fun hc => ?_⟩
    · exact congrArg Host.Outcome.next ((serve_fenceLane heard hc hn).trans (if_neg (by simp [hf])))
    · exact congrArg Host.Outcome.next ((serve_fenceLane heard hc hn).trans (if_pos hf))
    · exact congrArg Host.Outcome.next (serve_fenceLane_refused heard hc)
  · have heard : restoreLaneRequest.Heard s m := HubRequest.heard_of_code ht hp (by decide) rfl (decide_eq_true hs) rfl hl
    refine ⟨fun l hc hf => ?_, fun l hc hf => ?_, fun hc => ?_⟩
    · refine congrArg Host.Outcome.next ((serve_restoreLane heard hc).trans ?_)
      rw [restore_of_fenced ((kept l).trans hf)]
    · refine congrArg Host.Outcome.next ((serve_restoreLane heard hc).trans ?_)
      rw [restore_of_not_fenced ((kept l).trans hf), State.answered, hubTake_updLane _ _ _ fun _ => rfl]
    · exact congrArg Host.Outcome.next (serve_restoreLane_refused heard hc)

end Sys2Proof.Machine

/-! PROOFS. The panel path's own operations: scrolls, row slots, what a frame start leaves of the panel, and the pane tables that
SET PANES lets pass (O41, O51). -/

namespace Sys2Proof.Machine

/-! ## Panes in a table -/

theorem map_modify_of_eq {α β : Type} {f : α → α} {g : α → β} (h : ∀ a, g (f a) = g a) (xs : List α) (i : Nat) :
    (xs.modify i f).map g = xs.map g := by
  induction xs generalizing i with
  | nil => rw [List.modify_nil]
  | cons x xs ih => cases i <;> simp [h, ih]

theorem forall_mem_modify {α : Type} {p : α → Prop} {f : α → α} (h : ∀ a, p a → p (f a)) {xs : List α} (hx : ∀ a ∈ xs, p a)
    (i : Nat) : ∀ a ∈ xs.modify i f, p a := by
  induction xs generalizing i with
  | nil => simp
  | cons x xs ih =>
    obtain ⟨head, tail⟩ := List.forall_mem_cons.1 hx
    cases i with
    | zero => exact List.forall_mem_cons.2 ⟨h x head, tail⟩
    | succ i => exact List.forall_mem_cons.2 ⟨head, ih tail i⟩

/-- A pane to which a scroll is applied (R128). -/
def Pane.scrolled (offset : Nat) (p : Pane) : Pane :=
  if p.source = .secure ∧ offset < p.height then { p with offset := offset } else p

theorem Scroll.apply_eq (c : Scroll) (panes : List Pane) : c.apply panes = panes.modify c.pane (Pane.scrolled c.offset) := rfl

@[simp] theorem Pane.scrolled_height (offset : Nat) (p : Pane) : (p.scrolled offset).height = p.height := by
  unfold Pane.scrolled; split <;> rfl

@[simp] theorem Pane.scrolled_capture (offset : Nat) (p : Pane) : (p.scrolled offset).capture = p.capture := by
  unfold Pane.scrolled; split <;> rfl

/-- A scroll keeps the offset of a SECURE pane below its height (R128). -/
theorem Pane.Sound.scrolled {p : Pane} (h : p.Sound) (offset : Nat) : (p.scrolled offset).Sound := by
  unfold Pane.scrolled
  split
  · next fits =>
    obtain ⟨height, capture, shade, owner, store⟩ := h
    exact ⟨height, capture, shade, owner, fun secure => ⟨(store secure).1, fits.2⟩⟩
  · exact h

theorem PaneTable.Sound.scrolled {t : PaneTable} (h : t.Sound) (c : Scroll) :
    PaneTable.Sound { t with panes := c.apply t.panes } := by
  obtain ⟨low, high, sum, panes, captures⟩ := h
  rw [← Function.id_comp Pane.capture, ← List.countP_map] at captures
  refine ⟨?_, ?_, ?_, ?_, ?_⟩
  · simpa [Scroll.apply_eq] using low
  · simpa [Scroll.apply_eq] using high
  · rw [Scroll.apply_eq, map_modify_of_eq (Pane.scrolled_height _), sum]
  · exact forall_mem_modify (fun p hp => hp.scrolled _) panes _
  · rw [Scroll.apply_eq, ← Function.id_comp Pane.capture, ← List.countP_map, map_modify_of_eq (Pane.scrolled_capture _)]
    exact captures

theorem PaneTable.Sound.scrolls {t : PaneTable} (h : t.Sound) (scrolls : List Scroll) :
    PaneTable.Sound { t with panes := scrolls.foldl (fun panes c => c.apply panes) t.panes } := by
  induction scrolls generalizing t with
  | nil => exact h
  | cons c cs ih => exact ih (h.scrolled c)

/-! ## The tables that the part sets -/

theorem defaultTable_sound : defaultTable.Sound := by
  simp [PaneTable.Sound, Pane.Sound, defaultTable, Config.rows]

theorem lockdownTable_sound : lockdownTable.Sound := by
  simp [PaneTable.Sound, Pane.Sound, lockdownTable, Config.rows]

/-- A record that makes a pane, where the pane passes the tests that look at it alone (R122). -/
theorem paneOf_sound {r : List Byte} {p : Pane} (h : paneOf r = some p) (passes : p.passes = true) : p.Sound := by
  obtain ⟨⟨-, low, -⟩, -⟩ := (paneOf_eq_some r p).1 h
  obtain ⟨owner, marks, shade, store⟩ := p.passes_iff.1 passes
  exact ⟨low, fun capture => marks (.inl capture), shade, owner, fun secure => (store secure).2⟩

/-- The table of a SET PANES that passes its checks is sound (R96, R121, R122). -/
theorem tableOf_sound {s : State} {m : Message} (h : setPanesRequest.judge s m = none) : (tableOf m.payload).Sound := by
  obtain ⟨-, -, -, fields, tests⟩ := judge_eq_none h
  have count : 1 ≤ byteAt m.payload 2 ∧ byteAt m.payload 2 ≤ 4 := by
    by_contra hc
    rw [setPanes_badField_of_count hc] at fields
    cases fields
  cases records : panesFrom m.payload 0 (byteAt m.payload 2) with
  | error k =>
    rw [setPanes_badField_of_error count records] at fields
    cases fields
  | ok panes =>
    rw [tableOf_of_ok records]
    have accepted : panesRefused panes = none := by simpa [setPanesRequest, tableOf_of_ok records] using tests
    obtain ⟨valid, sum⟩ := (panesRefused_eq_none panes).1 accepted
    obtain ⟨passes, captures⟩ := (firstInvalid_eq_none_iff_passes false 0 panes).1 valid
    have made := (panesFrom_eq_ok _ _ _ _).1 records
    have length : panes.length = byteAt m.payload 2 := by simpa using (congrArg List.length made).symm
    refine ⟨length ▸ count.1, length ▸ count.2, sum, fun p hp => ?_, captures⟩
    obtain ⟨j, -, hj⟩ := List.mem_map.1 (made ▸ List.mem_map_of_mem (f := some) hp)
    exact paneOf_sound hj (passes p hp)

section
variable (s : State)

/-! ## Row slots -/

/-- Row slots that are output at once, without APP video: the rows as the panel stands, in their order (R130, R131). -/
theorem outputSlots_eq (n : Nat) : s.outputSlots n = { s with panel := { s.panel with
    sent := s.panel.sent ++ (List.range n).map fun k => .row (s.panel.nextSlot + k) (s.compose none (s.panel.nextSlot + k))
    nextSlot := s.panel.nextSlot + n } } := by
  induction n generalizing s with
  | zero => simp [State.outputSlots]
  | succ n ih =>
    have composed (y : Nat) : (s.outputSlot none).compose none y = s.compose none y := rfl
    have shift (k : Nat) : s.panel.nextSlot + 1 + k = s.panel.nextSlot + (k + 1) := by omega
    rw [State.outputSlots, ih, List.range_succ_eq_map, List.map_cons, List.map_map]
    simp only [composed]
    simp [State.outputSlot, State.send, Function.comp_def, shift]

/-! ## The frame start -/

theorem applyScrolls_panel : s.applyScrolls.panel = { s.panel with
    active := { s.panel.active with panes := s.panel.scrolls.foldl (fun panes c => c.apply panes) s.panel.active.panes }
    scrolls := [] } := by
  simp [State.applyScrolls]

theorem applyStaged_panel : s.applyStaged.panel =
    { s.panel with active := s.panel.staged.getD s.panel.active, staged := none } := by
  unfold State.applyStaged
  split
  · next h => rw [h, Option.getD_none, ← h]
  · next h => simp [h]

/-- The panel after a frame start: the scrolls, then the staged table, and the first row slot (R124, R128). -/
theorem frameStart_panel : s.frameStart.panel = { s.panel with
    active := s.panel.staged.getD
      { s.panel.active with panes := s.panel.scrolls.foldl (fun panes c => c.apply panes) s.panel.active.panes }
    staged := none
    scrolls := []
    nextSlot := 0
    sent := s.panel.sent ++ [.frameStart] } := by
  simp [State.frameStart, State.send, applyStaged_panel, applyScrolls_panel]

end

end Sys2Proof.Machine

/-! PROOFS. Every command keeps the pane tables sound and the next row slot within the frame (O51). -/

namespace Sys2Proof.Machine

section
variable {s t : State}

/-! ## Changes of the panel -/

/-- A change that leaves the panel. -/
theorem PanelSound.same (hs : PanelSound s) (h : t.panel = s.panel) : PanelSound t := by
  rw [PanelSound, h]
  exact hs

theorem PanelSound.ite {p : Prop} [Decidable p] {u : State} (h : p → PanelSound t) (h' : ¬p → PanelSound u) :
    PanelSound (if p then t else u) := by
  split
  · exact h ‹_›
  · exact h' ‹_›

theorem PanelSound.foldl {α : Type} {f : State → α → State} (hf : ∀ u a, PanelSound u → PanelSound (f u a)) (hs : PanelSound s)
    (xs : List α) : PanelSound (xs.foldl f s) := by
  induction xs generalizing s with
  | nil => exact hs
  | cons x xs ih => exact ih (hf s x hs)

/-- The entry into LOCKDOWN makes the lockdown table the active one, with none staged (R125). -/
theorem PanelSound.enterLockdown (hs : PanelSound s) : PanelSound s.enterLockdown := by
  rw [PanelSound, enterLockdown_panel]
  exact ⟨lockdownTable_sound, nofun, hs.2.2⟩

theorem PanelSound.evaluate (hs : PanelSound s) : PanelSound s.evaluate := by
  have formed : PanelSound s.formOutput := hs.same (by simp)
  exact PanelSound.ite (fun _ => formed.enterLockdown) fun _ => formed

theorem PanelSound.evaluateViol (hs : PanelSound s) (was : State) : PanelSound (State.evaluateViol was s) :=
  PanelSound.ite (fun _ => hs) fun _ => hs.evaluate.same (by simp)

theorem PanelSound.evaluateMismatch (hs : PanelSound s) (was : Bool) (n : Fin 12) :
    PanelSound (State.evaluateMismatch was n s) := PanelSound.ite (fun _ => hs) fun _ => hs.evaluate

/-! ## Frames -/

theorem PanelSound.frameStart (hs : PanelSound s) : PanelSound s.frameStart := by
  obtain ⟨active, staged, -⟩ := hs
  rw [PanelSound, frameStart_panel]
  refine ⟨?_, nofun, Nat.zero_le _⟩
  cases h : s.panel.staged with
  | none => exact active.scrolls _
  | some table => exact staged table h

/-- The slots that remain end at the last row (R129, R130). -/
theorem PanelSound.outputRest (hs : PanelSound s) : PanelSound s.beginPanelEvent.outputRest := by
  obtain ⟨active, staged, slot⟩ := hs
  rw [State.outputRest, outputSlots_eq]
  exact ⟨active, staged, (Nat.add_sub_of_le slot).le⟩

theorem PanelSound.outputSlot (hs : PanelSound s) (h : s.panel.nextSlot < Config.rows) (arriving : Option (List Pixel)) :
    PanelSound (s.beginPanelEvent.outputSlot arriving) := ⟨hs.1, hs.2.1, h⟩

theorem PanelSound.setFrameMode (hs : PanelSound s) (m : FrameMode) : PanelSound (s.setFrameMode m) := by
  have moded : PanelSound { s with panel := { s.panel with mode := m } } := hs
  have raised : PanelSound (State.raiseAll { s with panel := { s.panel with mode := m } } .video) := moded.same (by simp)
  exact raised.evaluate

/-- The events of the panel path (R129 to R132). -/
theorem PanelSound.panelCommand (hs : PanelSound s) {c : Instr}
    (hc : c ∈ [.appFrameStart, .videoLoss, .freeRunRowSlot, .freeRunFrameEnd]) (h : exec c s = .next t) : PanelSound t := by
  have begun : PanelSound s.beginPanelEvent := hs
  have restarted {u : State} (hu : PanelSound u) : PanelSound u.restartVideo ∧ PanelSound u.restartFrame := ⟨hu, hu⟩
  fin_cases hc <;> dsimp only [exec] at h
  · simp only [execAppFrameStart] at h
    (repeat' split at h) <;> cases h
    · exact hs
    · exact (restarted hs.outputRest).1.frameStart
    · exact (restarted (begun.setFrameMode _)).1.frameStart
  · cases h
    exact PanelSound.ite (fun _ => (restarted (hs.outputRest.setFrameMode _).frameStart).2) fun _ => hs
  · cases h
    refine PanelSound.ite (fun due => hs.outputSlot ?_ none) fun _ => hs
    simp only [State.rowSlotDue, Bool.and_eq_true, decide_eq_true_eq] at due
    exact due.1.2
  · cases h
    exact PanelSound.ite (fun _ => (restarted begun.frameStart).2) fun _ => hs

theorem PanelSound.appInputRow (hs : PanelSound s) {pixels : List Pixel} (h : exec (.appInputRow pixels) s = .next t) :
    PanelSound t := by
  simp only [exec, execAppInputRow] at h
  split_ifs at h with reset slot
  · cases h; exact hs
  · split at h
    · cases h; exact hs
    · cases h; exact hs.outputSlot slot _
  · split at h <;> cases h <;> exact hs

/-! ## Domain control -/

theorem PanelSound.autoFence (hs : PanelSound s) (l : Lane) : PanelSound (s.autoFence l) := by
  have fence : PanelSound (if (s.lane l).fenced then s else s.fenceLane l) :=
    PanelSound.ite (fun _ => hs) fun _ => hs.same (by simp)
  have marked : PanelSound ((if (s.lane l).fenced then s else s.fenceLane l).updLane l fun r => { r with autoFenced := true }) :=
    fence
  exact marked.evaluateViol s

theorem PanelSound.violate (hs : PanelSound s) (l : Lane) : PanelSound (s.violate l) := by
  have charged : PanelSound (s.updLane l fun r => { r with violations := bump r.violations, tally := bumpByte r.tally }) := hs
  exact PanelSound.ite (fun _ => charged.autoFence l) fun _ => charged

theorem PanelSound.restore (hs : PanelSound s) (l : Lane) : PanelSound (s.restore l) :=
  PanelSound.ite (fun _ => PanelSound.evaluateViol (hs.same (by simp)) _) fun _ => hs

theorem PanelSound.removeDomain (hs : PanelSound s) (d : Domain) : PanelSound (s.removeDomain d) := by
  have panel : (s.removal d).panel = s.panel := by by_cases h : d = .app <;> simp [State.removal, h]
  exact PanelSound.evaluateViol (hs.same panel) s

theorem PanelSound.holdDomain (hs : PanelSound s) (d : Domain) : PanelSound (s.holdDomain d) :=
  PanelSound.removeDomain (hs.same (by simp)) d

theorem PanelSound.hold (hs : PanelSound s) (d : Domain) : PanelSound (s.hold d) :=
  PanelSound.ite (fun _ => hs.same (by simp [State.cancelRelease])) fun _ => hs.holdDomain d

theorem PanelSound.selfRestart (hs : PanelSound s) (d : Domain) : PanelSound (s.selfRestart d) := by
  have restarted : PanelSound ((s.removeDomain d).startInit d) := (hs.removeDomain d).same (by simp)
  unfold State.selfRestart
  split
  · exact restarted
  · exact restarted
  · exact hs
  · exact hs

/-! ## Takes, ports and deliveries -/

theorem spend_panel (s : State) (route : Option Nat) : (s.spend route).panel = s.panel := by
  cases route <;> rfl

theorem joinMessage_panel (s : State) (r : Recipient) (h : Held) : (s.joinMessage r h).panel = s.panel := by
  unfold State.joinMessage
  (repeat' split) <;> simp

theorem admitted_panel (s : State) (l : Lane) (slot tag : Nat) : (s.admitted l slot tag).panel = s.panel := by
  simp [State.admitted, State.writeOutcome]

theorem acceptRequest_panel (s : State) (l : Lane) (slot : Nat) (m : Slot) (a : Address) (route : Option Nat) (b : Fin 30) :
    (s.acceptRequest l slot m a route b).panel = s.panel := by
  unfold State.acceptRequest
  split
  · rfl
  · dsimp only
    rw [admitted_panel]
    split <;> simp [joinMessage_panel, spend_panel]

theorem acceptNotice_panel (s : State) (l : Lane) (slot : Nat) (m : Slot) (a : Address) (route : Nat) (b : Fin 30) :
    (s.acceptNotice l slot m a route b).panel = s.panel := by
  simp [State.acceptNotice, admitted_panel, joinMessage_panel, spend_panel]

theorem acceptAnswer_panel (s : State) (l : Lane) (slot : Nat) (m : Slot) (i : Fin 48) (x : Exchange) (b : Fin 30) :
    (s.acceptAnswer l slot m i x b).panel = s.panel := by
  simp [State.acceptAnswer, admitted_panel, joinMessage_panel]

theorem PanelSound.refuseTake (hs : PanelSound s) (l : Lane) (slot : Nat) (m : Slot) (o : TakeOutcome) :
    PanelSound (s.refuseTake l slot m o) := by
  have counted : PanelSound (((s.writeOutcome l slot o m.refusedTag).updLane l fun r =>
      { r with refused := bump r.refused }).raise l.domain (.outcome l)) := hs.same (by simp [State.writeOutcome])
  have late {u : State} (hu : PanelSound u) : PanelSound (u.lateSeen m.tag) := hu.same (by simp)
  have seen := PanelSound.ite (p := o = .late) (fun _ => late counted) fun _ => counted
  exact PanelSound.ite (fun _ => seen.violate l) fun _ => seen

theorem PanelSound.takeFor (hs : PanelSound s) (l : Lane) (first : Bool) : PanelSound (s.takeFor l first) := by
  have after {u : State} (hu : PanelSound u) (slot : Nat) : PanelSound (u.afterTake l slot first) := hu
  refine takeFor_induction hs (fun slot m o _ _ => ?_) (fun slot _ => hs) (fun slot m a route b _ _ _ => ?_)
    (fun slot m a route b _ _ _ => ?_) fun slot m i x b _ _ _ => ?_
  · exact after (hs.refuseTake l slot m o) slot
  · exact after (hs.same (acceptRequest_panel ..)) slot
  · exact after (hs.same (acceptNotice_panel ..)) slot
  · exact after (hs.same (acceptAnswer_panel ..)) slot

theorem PanelSound.take (hs : PanelSound s) (h : exec .take s = .next t) : PanelSound t :=
  take_induction h hs fun l first _ => PanelSound.takeFor (hs.same (by cases first <;> rfl)) l first

theorem PanelSound.writeAttention (hs : PanelSound s) (d : Domain) (value : Word) : PanelSound (s.writeAttention d value) := by
  refine PanelSound.ite (fun _ => hs.selfRestart d) fun _ => hs.same ?_
  unfold State.nameLanes
  (repeat' split) <;> simp

theorem PanelSound.access (hs : PanelSound s) (d : Domain) (offset size : Nat) (op : PortOp) :
    PanelSound (s.access d offset size op) := by
  unfold State.access
  split
  · cases op with
    | read => exact hs.same (by simp [State.returnData])
    | write => exact PanelSound.ite (fun _ => hs.same (by simp)) fun _ => hs.same (by simp)
  split
  · next r _ =>
    cases op with
    | read => exact hs.same (by simp [State.returnData])
    | write value =>
      cases r with
      | attention => exact hs.writeAttention d value
      | acknowledge => exact hs.same (by simp [State.writeRegister])
      | status => exact hs
      | identity => exact hs.same (by simp [State.writeRegister, State.clearStray])
  · cases op <;> exact hs.same (by simp [State.strayAccess, State.returnData])

theorem PanelSound.portAccess (hs : PanelSound s) {d : Domain} {offset size : Nat} {op : PortOp}
    (h : exec (.portAccess d offset size op) s = .next t) : PanelSound t := by
  simp only [exec, execPortAccess] at h
  (repeat' split at h) <;> cases h
  · exact hs.same (by simp [State.returnData])
  · exact hs
  · exact hs.access d offset size op
  · exact hs

theorem tellDelivered_panel (s : State) (e : Entry) : (s.tellDelivered e).panel = s.panel := by
  cases e with
  | message h =>
    simp only [State.tellDelivered, State.requestDelivered]
    (repeat' split) <;> simp
  | reply | cell => rfl
  | conclusion i => simp [State.tellDelivered]

theorem delivery_panel {l : Lane} (h : exec (.delivery l) s = .next t) : t.panel = s.panel := by
  simp only [exec, execDelivery] at h
  (repeat' split at h) <;> cases h
  · rfl
  · rfl
  · simp
  · simp [State.deliver, tellDelivered_panel]

theorem drop_panel {l : Lane} {place : Nat}
    (h : exec (.holdLimitDrop l place) s = .next t ∨ exec (.eventCellDrop l place) s = .next t) : t.panel = s.panel := by
  simp only [exec, execHoldLimitDrop, execEventCellDrop] at h
  rcases h with h | h <;> split at h <;> cases h <;> simp

/-! ## The hub service -/

/-- A request is served soundly where its execution is sound. -/
theorem PanelSound.serve (hs : PanelSound s) {q : HubRequest}
    (run : ∀ u m, q.judge u m = none → PanelSound u → PanelSound (q.run u m)) : PanelSound (q.serve s) := by
  have taken (m : Message) : PanelSound (s.hubTake m) := hs.same (by simp)
  refine serve_induction hs (fun m r detail _ => ?_) fun m _ hj => run _ m hj (taken m)
  have charged : PanelSound ((s.hubTake m).chargeResult r m.sender) :=
    PanelSound.ite (fun _ => (taken m).violate _) fun _ => taken m
  exact charged.same (by simp)

theorem PanelSound.finish (hs : PanelSound s) (m : Message) (code : Nat) (r : HubResult) (detail : Nat) (data : List Byte) :
    PanelSound (s.finish m code r detail data) := hs.same (by simp)

theorem PanelSound.completeJobs (hs : PanelSound s) (job : Job) (r : HubResult) (detail : Nat) :
    PanelSound (s.completeJobs job r detail) := hs.same (by simp)

/-- A table that passes the checks of SET PANES is staged (R122, R123). -/
theorem PanelSound.setPanes (hs : PanelSound s) {m : Message} (hj : setPanesRequest.judge s m = none) :
    PanelSound (setPanesRequest.run s m) := by
  have staged : PanelSound { s with panel := { s.panel with staged := some (tableOf m.payload) } } :=
    ⟨hs.1, fun _ h => Option.some.inj h ▸ tableOf_sound hj, hs.2.2⟩
  exact staged.same (by simp [setPanesRequest])

theorem clearHub_panel (s : State) :
    s.clearHub.panel = { s.panel with active := defaultTable, staged := none, scrolls := [] } := by
  simp [State.clearHub, State.setActive, State.dropExchanges]

theorem PanelSound.restartHub (hs : PanelSound s) (m : Message) : PanelSound (restartHubRequest.run s m) := by
  have cleared : PanelSound s.clearHub := by
    rw [PanelSound, clearHub_panel]
    exact ⟨defaultTable_sound, nofun, hs.2.2⟩
  exact cleared.evaluate.same (by simp [restartHubRequest])

theorem loadRoutesCompletion_panel (h : exec .loadRoutesCompletion s = .next t) : t.panel = s.panel := by
  have installed (u : State) (table : List Route) : (u.installRoutes table).panel = u.panel := by
    simp only [State.installRoutes]
    split <;> simp
  simp only [exec, execLoadRoutesCompletion] at h
  split at h
  · cases h; rfl
  · split at h <;> cases h <;> simp [installed]

/-! ## Lines -/

theorem tellOwner_panel (s : State) (n : Fin 12) (level : Bool) : (s.tellOwner n level).panel = s.panel := by
  unfold State.tellOwner
  dsimp only
  (repeat' split) <;> simp

theorem PanelSound.settle (hs : PanelSound s) (n : Fin 12) (level : Bool) : PanelSound (s.settle n level) :=
  PanelSound.evaluateMismatch (s := s.setLine n _) hs _ n

theorem PanelSound.filteredChange (hs : PanelSound s) (n : Fin 12) (level : Bool) : PanelSound (s.filteredChange n level) :=
  PanelSound.evaluateMismatch (hs.same (tellOwner_panel (s.setLine n _) n level)) _ n

theorem PanelSound.sampleLine (hs : PanelSound s) (levels : BitVec 12) (n : Fin 12) : PanelSound (State.sampleLine levels s n) := by
  have filter (f : Filter) : PanelSound (s.setFilter n f) := hs
  unfold State.sampleLine
  dsimp only
  split
  · exact hs
  · exact filter _
  · exact PanelSound.ite (fun _ => filter _) fun _ => PanelSound.ite (fun _ => filter _) fun _ => hs.settle n _
  · exact PanelSound.ite (fun _ => filter _) fun _ => PanelSound.ite (fun _ => filter _) fun _ => hs.filteredChange n _

theorem PanelSound.lineCommand (hs : PanelSound s) (h : (∃ levels, exec (.lineSample levels) s = .next t)
    ∨ ∃ n, exec (.filteredChange n) s = .next t ∨ exec (.settlingEnd n) s = .next t) : PanelSound t := by
  rcases h with ⟨levels, h⟩ | ⟨n, h | h⟩
  · simp only [exec, execLineSample] at h
    split at h
    · cases h; exact hs
    · rw [← Host.Outcome.next.inj h]; exact hs.foldl (fun _ n hu => hu.sampleLine levels n) _
  · simp only [exec, execFilteredChange] at h
    split at h <;> cases h
    · exact hs.filteredChange n _
    all_goals exact hs
  · simp only [exec, execSettlingEnd] at h
    split at h <;> cases h
    · exact hs.settle n _
    all_goals exact hs

/-! ## Contacts and keys -/

theorem produce_panel (s : State) (owner : Option Lane) (e : InputEvent) : (s.produce owner e).panel = s.panel := by
  cases owner <;> simp [State.produce]

theorem takeContact_panel (s : State) (c : RawContact) : (s.takeContact c).panel = s.panel := by
  unfold State.takeContact State.touchContact
  (repeat' split) <;> simp [produce_panel, State.beginContact]

theorem senseKey_panel (down : BitVec 16) (s : State) (k : Fin 16) : (State.senseKey down s k).panel = s.panel := by
  simp only [State.senseKey, State.acceptKey]
  (repeat' split) <;> simp [produce_panel]

theorem PanelSound.touchCommand (hs : PanelSound s)
    (h : exec .reportReadyFall s = .next t ∨ ∃ report low, exec (.touchReadCompletion report low) s = .next t) : PanelSound t := by
  have taken (report : List RawContact) : PanelSound (s.takeReport report) :=
    hs.foldl (fun u c hu => hu.same (takeContact_panel u c)) _
  rcases h with h | ⟨report, low, h⟩
  · simp only [exec, execReportReadyFall] at h
    (repeat' split at h) <;> cases h <;> exact hs
  · simp only [exec, execTouchReadCompletion] at h
    split at h <;> cases h
    · exact hs
    · exact hs
    · exact hs.same (by simp [State.dropReport, State.endRead])
    all_goals exact taken _

theorem PanelSound.keyCommand (hs : PanelSound s)
    (h : (∃ down, exec (.keySense down) s = .next t) ∨ ∃ k, exec (.keyChangeAccepted k) s = .next t) : PanelSound t := by
  rcases h with ⟨down, h⟩ | ⟨k, h⟩
  · simp only [exec, execKeySense] at h
    split at h <;> cases h
    · exact hs
    · exact hs.foldl (fun u k hu => hu.same (senseKey_panel down u k)) _
  · simp only [exec, execKeyChangeAccepted, State.acceptKey] at h
    (repeat' split at h) <;> cases h <;> exact hs.same (by simp [produce_panel])

/-! ## Commands -/

/-- Every command but a reset keeps the tables sound and the next row slot within the frame. -/
theorem exec_panelSound {c : Instr} (hs : PanelSound s) (hc : c.isReset = false) (h : exec c s = .next t) : PanelSound t := by
  cases c
  case powerOnReset => cases hc
  case pinReset => cases hc
  case resetEnd => cases hc
  case portAccess => exact hs.portAccess h
  case attentionLanes d v => cases h; exact PanelSound.ite (fun _ => hs.writeAttention d v) fun _ => hs
  case selfAnnouncedRestart d => cases h; exact PanelSound.ite (fun _ => hs.selfRestart d) fun _ => hs
  case boardInitialisationComplete =>
    simp only [exec, execBoardInitialisationComplete] at h
    split at h <;> cases h <;> exact hs.same (by simp)
  case acknowledge => cases h; exact PanelSound.ite (fun _ => hs.same (by simp)) fun _ => hs
  case identityWrite => cases h; exact PanelSound.ite (fun _ => hs.same (by simp [State.clearStray])) fun _ => hs
  case statusWrite => cases h; exact hs
  case take => exact hs.take h
  case refill => cases h; exact hs
  case delivery => exact hs.same (delivery_panel h)
  case holdLimitDrop => exact hs.same (drop_panel (.inl h))
  case eventCellDrop => exact hs.same (drop_panel (.inr h))
  case expiry => cases h; exact PanelSound.ite (fun _ => hs.same (by simp)) fun _ => hs
  case unknownRequestCode =>
    simp only [exec, execUnknownRequestCode] at h
    (repeat' split at h) <;> cases h <;> exact hs.same (by simp)
  case loadRoutes => cases h; exact hs.serve fun _ _ _ hu => hu
  case loadRoutesCompletion => exact hs.same (loadRoutesCompletion_panel h)
  case setPanes => cases h; exact hs.serve fun _ _ hj hu => hu.setPanes hj
  case scrollPane => cases h; exact hs.serve fun _ _ _ hu => hu
  case setCalibration => cases h; exact hs.serve fun _ m _ hu => PanelSound.finish (hu.same (by rfl)) m _ _ _ _
  case setFocus => cases h; exact hs.serve fun _ m _ hu => PanelSound.finish (hu.same (by rfl)) m _ _ _ _
  case setLineMap =>
    cases h; exact hs.serve fun _ m _ hu => PanelSound.finish (PanelSound.evaluateMismatch (hu.same (by rfl)) _ _) m _ _ _ _
  case setCombiner => cases h; exact hs.serve fun _ m _ hu => PanelSound.finish (PanelSound.evaluate (hu.same (by rfl))) m _ _ _ _
  case driveLine => cases h; exact hs.serve fun _ m _ hu => PanelSound.finish (hu.same (by rfl)) m _ _ _ _
  case driveLinePulse => cases h; exact hs.serve fun _ m _ hu => PanelSound.finish (hu.same (by rfl)) m _ _ _ _
  case pulseEnd => cases h; exact PanelSound.ite (fun _ => hs) fun _ => hs
  case setNotices => cases h; exact hs.serve fun _ m _ hu => PanelSound.finish (hu.same (by simp)) m _ _ _ _
  case domainResetHold => cases h; exact hs.serve fun _ m _ hu => (hu.hold _).finish m _ _ _ _
  case domainResetRelease =>
    cases h; exact hs.serve fun _ m _ hu => PanelSound.finish (PanelSound.completeJobs (hu.same (by simp)) _ _ _) m _ _ _ _
  case domainResetPulse =>
    cases h; exact hs.serve fun _ m _ hu => (hu.holdDomain (resetDomainOf m.payload)).same (by simp [domainResetPulseRequest])
  case pulseRelease => cases h; exact PanelSound.ite (fun _ => hs.same (by simp)) fun _ => hs
  case fenceLane =>
    cases h
    exact hs.serve fun u m _ hu => PanelSound.finish (PanelSound.ite (fun _ => hu) fun _ => hu.same (by simp)) m _ _ _ _
  case restoreLane => cases h; exact hs.serve fun _ m _ hu => (hu.restore _).finish m _ _ _ _
  case setViolationLimit => cases h; exact hs.serve fun _ m _ hu => PanelSound.finish (hu.same (by rfl)) m _ _ _ _
  case readCounters => cases h; exact hs.serve fun _ m _ hu => PanelSound.finish (hu.same (by rfl)) m _ _ _ _
  case status => cases h; exact hs.serve fun _ m _ hu => hu.finish m _ _ _ _
  case resume => cases h; exact hs.serve fun _ m _ hu => PanelSound.finish (hu.same (by simp)) m _ _ _ _
  case restartHub => cases h; exact hs.serve fun _ m _ hu => hu.restartHub m
  case appFrameStart => exact hs.panelCommand (by decide) h
  case appInputRow => exact hs.appInputRow h
  case videoLoss => exact hs.panelCommand (by decide) h
  case freeRunRowSlot => exact hs.panelCommand (by decide) h
  case freeRunFrameEnd => exact hs.panelCommand (by decide) h
  case reportReadyFall => exact hs.touchCommand (.inl h)
  case touchReadCompletion => exact hs.touchCommand (.inr ⟨_, _, h⟩)
  case keySense => exact hs.keyCommand (.inl ⟨_, h⟩)
  case keyChangeAccepted => exact hs.keyCommand (.inr ⟨_, h⟩)
  case lineSample => exact hs.lineCommand (.inl ⟨_, h⟩)
  case filteredChange => exact hs.lineCommand (.inr ⟨_, .inl h⟩)
  case settlingEnd => exact hs.lineCommand (.inr ⟨_, .inr h⟩)

/-- A reset and the end of one leave the default table, none staged, and the first row slot (R121, R129). -/
theorem panelSound_of_reset (h : ∃ now sent, t.panel = Panel.reset now sent) : PanelSound t := by
  obtain ⟨now, sent, h⟩ := h
  rw [PanelSound, h]
  exact ⟨defaultTable_sound, nofun, Nat.zero_le _⟩

theorem exec_panelSound_of_isReset {c : Instr} (hs : PanelSound s) (hc : c.isReset = true) (h : exec c s = .next t) :
    PanelSound t := by
  rcases Instr.isReset_eq_true hc with rfl | rfl | ⟨low, rfl⟩
  · cases h; exact panelSound_of_reset ⟨_, _, rfl⟩
  · cases h; exact panelSound_of_reset ⟨_, _, rfl⟩
  · simp only [exec, execResetEnd] at h
    split at h
    · rw [← Host.Outcome.next.inj h]; exact panelSound_of_reset ⟨_, _, rfl⟩
    · cases h; exact hs

end

/-- Settles O51: a table becomes active or staged only where SET PANES let it pass (`tableOf_sound`) or the part sets it, scrolls
keep it sound (`PaneTable.Sound.scrolls`), and the slots that an event outputs end at the last row. -/
theorem panelSoundKept : Obligations.PanelSoundKept := by
  unfold Obligations.PanelSoundKept
  refine kept_of_exec (fun _ _ hs => hs) (fun _ hs => hs) fun c _ _ hs h => ?_
  cases hc : c.isReset with
  | false => exact exec_panelSound hs hc h
  | true => exact exec_panelSound_of_isReset hs hc h

end Sys2Proof.Machine

/-! PROOFS. What makes a frame start, the composition of a row slot, and the rows that APP video does not reach (O41, O42, O43). -/

namespace Sys2Proof.Machine

/-! ## The pane of a row and its pixels -/

/-- The row of a place in a table lies in the pane there (R121). -/
theorem findPane_of_getElem? {panes : List Pane} {j i : Nat} {p : Pane} (hp : panes[j]? = some p) (hi : i < p.height)
    (k : Nat) : findPane panes k (((panes.take j).map Pane.height).sum + i) = some (k + j, p, i) := by
  induction panes generalizing j k with
  | nil => cases hp
  | cons q rest ih =>
    cases j with
    | zero =>
      cases hp
      simp [findPane, hi]
    | succ j =>
      have above : q.height + ((rest.take j).map Pane.height).sum + i - q.height
          = ((rest.take j).map Pane.height).sum + i := by omega
      rw [List.take_succ_cons, List.map_cons, List.sum_cons, findPane, if_neg (by omega), above, ih hp (k + 1)]
      congr 2
      omega

/-- The pixels of bytes in memory, two to a pixel (R135). -/
theorem pixelsOf_readBytes (m : Memory) (a n : Nat) : pixelsOf (Memory.readBytes m a (2 * n)) =
    (List.range n).map fun x => Memory.read m (a + 2 * x + 1) ++ Memory.read m (a + 2 * x) := by
  induction n generalizing a with
  | zero => rfl
  | succ n ih =>
    have shift (x : Nat) : a + 1 + 1 + 2 * x = a + 2 * (x + 1) := by omega
    rw [List.range_succ_eq_map, List.map_cons, List.map_map, Nat.mul_succ, Memory.readBytes, Memory.readBytes, pixelsOf, ih]
    simp [Function.comp_def, shift]

/-- Each channel of a shaded pixel follows its top bit (R134). -/
theorem shadePixel_eq (c : Pixel) : shadePixel c = BitVec.ofNat 16
    ((if c.getLsbD 15 then 0xF800 else 0) + (if c.getLsbD 10 then 0x07E0 else 0) + if c.getLsbD 4 then 0x001F else 0) := by
  have channels : ∀ r g b : Bool, (if r then BitVec.allOnes 5 else 0#5) ++ (if g then BitVec.allOnes 6 else 0#6)
      ++ (if b then BitVec.allOnes 5 else 0#5) = BitVec.ofNat 16
        ((if r then 0xF800 else 0) + (if g then 0x07E0 else 0) + if b then 0x001F else 0) := by decide
  rw [← channels]
  simp [shadePixel, shadeChannel, BitVec.msb_eq_getLsbD_last]

theorem shades_iff (t : PaneTable) : t.shades = true ↔ ∃ q ∈ t.panes, q.capture = true ∧ q.shade = true := by
  simp [PaneTable.shades]

section
variable {s : State}

/-! ## The composition of a row -/

section
variable {y k i : Nat} {p : Pane} (located : findPane s.panel.active.panes 0 y = some (k, p, i))
include located

theorem compose_of_fill (hp : p.source = .fill) (arriving : Option (List Pixel)) :
    s.compose arriving y = s.panel.active.fillRow := by
  simp [State.compose, located, hp]

theorem compose_of_secure (hp : p.source = .secure) (arriving : Option (List Pixel)) : s.compose arriving y =
    (List.range 240).map fun x =>
      Memory.read s.pay.window (0x5000 + (p.base + (i + p.offset) % p.height) * 480 + 2 * x + 1)
        ++ Memory.read s.pay.window (0x5000 + (p.base + (i + p.offset) % p.height) * 480 + 2 * x) := by
  have row : s.compose arriving y = s.storeRow (p.storeLine i) := by simp [State.compose, located, hp]
  rw [row, State.storeRow, Pane.storeLine]
  exact pixelsOf_readBytes s.pay.window _ 240

theorem compose_of_appVideo (hp : p.source = .appVideo) (pixels : List Pixel) : s.compose (some pixels) y =
    if s.panel.active.shades then (s.panel.active.appRow pixels).map shadePixel else s.panel.active.appRow pixels := by
  simp [State.compose, located, hp]

/-- Where no row arrives, the panes of APP-VIDEO show the fill colour, as those of FILL do (R130, R132). -/
theorem compose_none_of_not_secure (hp : p.source ≠ .secure) : s.compose none y = s.panel.active.fillRow := by
  cases h : p.source with
  | appVideo => simp [State.compose, located, h]
  | secure => exact absurd h hp
  | fill => exact compose_of_fill located h none

/-- A pane that does not show APP video is composed of nothing that arrives (R133). -/
theorem compose_congr (hp : p.source ≠ .appVideo) (arriving arriving' : Option (List Pixel)) :
    s.compose arriving y = s.compose arriving' y := by
  cases h : p.source with
  | appVideo => exact absurd h hp
  | secure => rw [compose_of_secure located h, compose_of_secure located h]
  | fill => rw [compose_of_fill located h, compose_of_fill located h]

end

/-! ## The commands that output a row slot -/

theorem exec_appInputRow_disregarded
    (h : s.inReset = true ∨ s.panel.mode = .freeRun ∨ (s.panel.mode = .following ∧ 320 ≤ s.panel.nextSlot)) (pixels : List Pixel) :
    exec (.appInputRow pixels) s = .next s := by
  rcases h with reset | mode | ⟨mode, slot⟩
  · simp [exec, execAppInputRow, reset]
  · simp [exec, execAppInputRow, mode]
  · simp [exec, execAppInputRow, mode, Nat.not_lt.2 slot]

theorem exec_appInputRow (hr : s.inReset = false) (hm : s.panel.mode = .following) (hs : s.panel.nextSlot < 320)
    (pixels : List Pixel) : exec (.appInputRow pixels) s = .next { s with panel := { s.panel with
      sent := [.row s.panel.nextSlot (s.compose (some pixels) s.panel.nextSlot)], nextSlot := s.panel.nextSlot + 1 } } := by
  have output : execAppInputRow pixels s = .next (s.beginPanelEvent.outputSlot (some pixels)) := by
    simp [execAppInputRow, hr, hm, hs]
  exact output

theorem exec_freeRunRowSlot (hr : s.inReset = false) (hm : s.panel.mode = .freeRun) (hs : s.panel.nextSlot < 320)
    (due : s.panel.frameZero + s.panel.nextSlot * 52 ≤ s.now) : exec .freeRunRowSlot s = .next { s with panel := { s.panel with
      sent := [.row s.panel.nextSlot (s.compose none s.panel.nextSlot)], nextSlot := s.panel.nextSlot + 1 } } := by
  have falls : s.rowSlotDue = true := by simp [State.rowSlotDue, hr, hm, hs, due]
  exact congrArg Host.Outcome.next (if_pos falls)

end

/-- Settles O42: the pane of the slot (`findPane_of_getElem?`), then its source. -/
theorem rowSlots : Obligations.RowSlots := by
  unfold Obligations.RowSlots
  refine ⟨fun s pixels h => exec_appInputRow_disregarded h pixels, ?_⟩
  rintro s pixels k i p _ _ slot reset hp hy hi rfl rfl out hout
  have located : findPane s.panel.active.panes 0 s.panel.nextSlot = some (0 + k, p, i) := hy ▸ findPane_of_getElem? hp hi 0
  refine ⟨fun mode => ⟨fun source plain => ?_, fun source shaded => ?_, fun source => ?_, fun source => ?_⟩,
    fun mode due => ⟨fun source => ?_, fun source => ?_⟩⟩
  · rw [exec_appInputRow reset mode slot, hout, compose_of_appVideo located source, if_neg]
    · rfl
    · rw [shades_iff]
      exact fun ⟨q, hq, marks⟩ => plain q hq marks
  · rw [exec_appInputRow reset mode slot, hout, compose_of_appVideo located source, if_pos ((shades_iff _).2 shaded),
      funext shadePixel_eq]
    rfl
  · rw [exec_appInputRow reset mode slot, hout, compose_of_secure located source]
  · rw [exec_appInputRow reset mode slot, hout, compose_of_fill located source]
    rfl
  · rw [exec_freeRunRowSlot reset mode slot due, hout, compose_none_of_not_secure located source]
    rfl
  · rw [exec_freeRunRowSlot reset mode slot due, hout, compose_of_secure located source]

/-- Settles O43: in a sound table a PAY pane does not show APP video, and no other source takes anything from the row that arrives
(`compose_congr`). -/
theorem payRowsHideAppVideo : Obligations.PayRowsHideAppVideo := by
  unfold Obligations.PayRowsHideAppVideo
  intro s k i p pixels pixels' sound hp pay hy hi
  obtain ⟨⟨-, -, -, panes, -⟩, -, -⟩ := sound
  have source : p.source ≠ .appVideo := fun h => by
    obtain ⟨-, -, -, owner, -⟩ := panes p (List.mem_of_getElem? hp)
    exact Bool.false_ne_true ((owner.2 h).symm.trans pay)
  have located : findPane s.panel.active.panes 0 s.panel.nextSlot = some (0 + k, p, i) := hy ▸ findPane_of_getElem? hp hi 0
  have same (h : s.inReset = true ∨ s.panel.mode = .freeRun ∨ (s.panel.mode = .following ∧ 320 ≤ s.panel.nextSlot)) :
      exec (.appInputRow pixels) s = exec (.appInputRow pixels') s := by
    rw [exec_appInputRow_disregarded h, exec_appInputRow_disregarded h]
  cases reset : s.inReset with
  | true => exact same (.inl reset)
  | false =>
    cases mode : s.panel.mode with
    | freeRun => exact same (.inr (.inl mode))
    | following =>
      by_cases slot : s.panel.nextSlot < 320
      · rw [exec_appInputRow reset mode slot, exec_appInputRow reset mode slot, compose_congr located source]
      · exact same (.inr (.inr ⟨mode, Nat.not_lt.1 slot⟩))

/-! ## What makes a frame start -/

/-- The slots that remain of a short frame (R130, R131). -/
theorem outputRest_eq (s : State) : s.beginPanelEvent.outputRest = { s with panel := { s.panel with
    sent := (List.range (320 - s.panel.nextSlot)).map fun k =>
      .row (s.panel.nextSlot + k) (s.compose none (s.panel.nextSlot + k))
    nextSlot := s.panel.nextSlot + (320 - s.panel.nextSlot) } } := by
  rw [State.outputRest, outputSlots_eq]
  rfl

section
variable {s : State}

theorem exec_appFrameStart_of_following (hr : s.inReset = false) (hm : s.panel.mode = .following) :
    exec .appFrameStart s = .next s.beginPanelEvent.outputRest.restartVideo.frameStart := by
  simp [exec, execAppFrameStart, hr, hm]

theorem exec_appFrameStart_of_freeRun (hr : s.inReset = false) (hm : s.panel.mode = .freeRun) :
    exec .appFrameStart s = .next (s.beginPanelEvent.setFrameMode .following).restartVideo.frameStart := by
  simp [exec, execAppFrameStart, hr, hm]

theorem exec_videoLoss (h : s.videoLossDue = true) : exec .videoLoss s =
    .next (s.beginPanelEvent.outputRest.setFrameMode .freeRun).frameStart.restartFrame :=
  congrArg Host.Outcome.next (if_pos h)

theorem exec_freeRunFrameEnd (h : s.frameEndDue = true) :
    exec .freeRunFrameEnd s = .next s.beginPanelEvent.frameStart.restartFrame :=
  congrArg Host.Outcome.next (if_pos h)

end

theorem restartVideo_eq {t : State} {now : Nat} (h : t.now = now) :
    t.restartVideo = { t with panel := { t.panel with videoZero := now } } := h ▸ rfl

theorem restartFrame_eq {t : State} {now : Nat} (h : t.now = now) :
    t.restartFrame = { t with panel := { t.panel with frameZero := now } } := h ▸ rfl

/-- Settles O41: each command's frame start with what it does before, the slots that remain being output at once
(`outputRest_eq`); the timers restart from the time of the event, which no part of it moves. -/
theorem framesBegin : Obligations.FramesBegin := by
  unfold Obligations.FramesBegin
  rintro s _ rfl
  refine ⟨fun reset mode => ?_, fun reset mode => ⟨_, rfl, ?_⟩, fun mode due => ⟨_, rfl, ?_⟩, fun reset mode due => ⟨_, rfl, ?_⟩⟩
  · rw [exec_appFrameStart_of_following reset mode, outputRest_eq, State.restartVideo]
  · have now : (s.beginPanelEvent.setFrameMode .following).now = s.now := by simp [State.setFrameMode]
    rw [exec_appFrameStart_of_freeRun reset mode, restartVideo_eq now]
    rfl
  · have lost : s.videoLossDue = true := by simp [State.videoLossDue, mode, Config.videoLimit, due]
    have now : (s.beginPanelEvent.outputRest.setFrameMode .freeRun).frameStart.now = s.now := by simp [State.setFrameMode]
    rw [exec_videoLoss lost, restartFrame_eq now, outputRest_eq]
    rfl
  · have ends : s.frameEndDue = true := by simp [State.frameEndDue, reset, mode, due]
    have now : s.beginPanelEvent.frameStart.now = s.now := by simp
    rw [exec_freeRunFrameEnd ends, restartFrame_eq now]
    rfl

end Sys2Proof.Machine

/-! PROOFS. The frame start: the scrolls and the staged table with their replies, and capture with its CANCELs (O40). -/

namespace Sys2Proof.Machine

section
variable {s t u v : State}

/-! ## What replies and input events stand on -/

/-- What a completion and the placing of an input event look at, and all they change but notice flags, is the same: the lanes,
the exchange table, the timebase and the hub mode. -/
structure SameQueues (s t : State) : Prop where
  lanes : t.lanes = s.lanes
  exchanges : t.exchanges = s.exchanges
  now : t.now = s.now
  mode : t.hub.mode = s.hub.mode

@[refl] theorem SameQueues.refl (s : State) : SameQueues s s := ⟨rfl, rfl, rfl, rfl⟩

@[trans] theorem SameQueues.trans (h : SameQueues s t) (h' : SameQueues t u) : SameQueues s u :=
  ⟨h'.lanes.trans h.lanes, h'.exchanges.trans h.exchanges, h'.now.trans h.now, h'.mode.trans h.mode⟩

theorem SameQueues.lane (h : SameQueues s t) (l : Lane) : t.lane l = s.lane l := by simp [State.lane, h.lanes]

theorem SameQueues.entry (h : SameQueues s t) (i : Fin 48) : t.entry i = s.entry i := by simp [State.entry, h.exchanges]

theorem SameQueues.boardEntries (h : SameQueues s t) : t.boardEntries = s.boardEntries := by
  simp only [State.boardEntries, h.lane]

theorem SameQueues.updLane (h : SameQueues s t) (l : Lane) (f : LaneState → LaneState) :
    SameQueues (s.updLane l f) (t.updLane l f) :=
  ⟨by simp [State.updLane, State.setLane, h.lanes, h.lane], h.exchanges, h.now, h.mode⟩

theorem SameQueues.setEntry (h : SameQueues s t) (i : Fin 48) (e : ExchangeEntry) :
    SameQueues (s.setEntry i e) (t.setEntry i e) :=
  ⟨h.lanes, by simp [State.setEntry, h.exchanges], h.now, h.mode⟩

theorem SameQueues.setExchange (h : SameQueues s t) (i : Fin 48) (x : ExchangeState) :
    SameQueues (s.setExchange i x) (t.setExchange i x) := by
  rw [State.setExchange, State.setExchange, h.entry]
  exact h.setEntry i _

theorem SameQueues.freeEntry (h : SameQueues s t) (i : Fin 48) : SameQueues (s.freeEntry i) (t.freeEntry i) := by
  rw [State.freeEntry, State.freeEntry, h.entry]
  exact h.setEntry i _

theorem SameQueues.placeReply (h : SameQueues s t) (l : Lane) (tag : Nat) (reference : Word) (payload : List Byte) :
    SameQueues (s.placeReply l tag reference payload) (t.placeReply l tag reference payload) := by
  have free : t.replyFree 0 = s.replyFree 0 := by simp only [State.replyFree, State.heldReplies, h.boardEntries]
  have buffer : t.grantReply = s.grantReply := by simp only [State.grantReply, free]
  rw [State.placeReply, State.placeReply, buffer, h.now]
  exact h.updLane l _

/-- The completion of a request does the same to the same queues (R85). -/
theorem SameQueues.complete (h : SameQueues s t) (tag : Nat) (payload : List Byte) :
    SameQueues (s.complete tag payload) (t.complete tag payload) := by
  have found : t.findTag tag = s.findTag tag := by simp only [State.findTag, h.entry]
  unfold State.complete
  rw [found]
  cases s.findTag tag with
  | none => exact h
  | some i =>
    dsimp only
    rw [h.entry]
    split
    · exact (h.freeEntry i).placeReply _ _ _ _
    · exact h.setExchange i _
    · exact h.freeEntry i
    all_goals exact h

/-- The placing of an input event does the same to the same queues (R60). -/
theorem SameQueues.placeEvent (h : SameQueues s t) (l : Lane) (e : InputEvent) :
    SameQueues (s.placeEvent l e) (t.placeEvent l e) := by
  have shut : t.shutOut l = s.shutOut l := by simp only [State.shutOut, h.mode]
  have cells : t.cellsUsed = s.cellsUsed := by simp only [State.cellsUsed, h.boardEntries]
  have lost : SameQueues (s.loseEvent l e) (t.loseEvent l e) := by
    have counted := h.updLane l fun r => { r with inputLost := bump r.inputLost, gapPending := r.gapPending || e.hasGap }
    exact ⟨by simpa [State.loseEvent] using counted.lanes, by simpa [State.loseEvent] using counted.exchanges,
      by simpa [State.loseEvent] using counted.now, by simpa [State.loseEvent] using counted.mode⟩
  unfold State.placeEvent
  rw [h.lane, shut, cells, h.now]
  split
  · exact h.updLane l _
  split
  · exact h
  cases e.coalesced (s.lane l).fifo with
  | some fifo => exact h.updLane l _
  | none =>
    dsimp only
    split
    · exact h.updLane l _
    · exact lost

theorem SameQueues.foldl {α : Type} {f : State → α → State} (hf : ∀ u v a, SameQueues u v → SameQueues (f u a) (f v a))
    (h : SameQueues s t) (xs : List α) : SameQueues (xs.foldl f s) (xs.foldl f t) := by
  induction xs generalizing s t with
  | nil => exact h
  | cons x xs ih => exact ih (hf s t x h)

theorem sameQueues_raise (s : State) (d : Domain) (f : Flag) : SameQueues s (s.raise d f) := by
  constructor <;> simp

theorem sameQueues_raiseAll (s : State) (f : Flag) : SameQueues s (s.raiseAll f) := by
  constructor <;> simp

/-! ## The CANCELs of contacts and keys -/

/-- The event that the cancelling of a contact places, with its lane (R145). -/
def State.contactCancel (p : Lane → Bool) (s : State) (i : Fin 2) : Option (Lane × InputEvent) :=
  match s.contact i with
  | some ⟨some l, place⟩ => if p l then some (l, .touch i .cancel place) else none
  | some ⟨none, _⟩ | none => none

/-- The event that the cancelling of a key places, with its lane (R145). -/
def State.keyCancel (p : Lane → Bool) (s : State) (k : Fin 16) : Option (Lane × InputEvent) :=
  match (s.key k).owner with
  | some l => if p l then some (l, .key k .cancel) else none
  | none => none

/-- Input events are placed in their order. -/
def State.placeAll (s : State) (events : List (Lane × InputEvent)) : State :=
  events.foldl (fun v c => v.placeEvent c.1 c.2) s

theorem placeAll_entry (s : State) (events : List (Lane × InputEvent)) (i : Fin 48) : (s.placeAll events).entry i = s.entry i := by
  induction events generalizing s with
  | nil => rfl
  | cons c events ih => exact (ih (s.placeEvent c.1 c.2)).trans (by simp)

/-- What an operation on one contact or key does to the queues: it places the event, if any, that the state gives for it, and
leaves the events of the others as they are. -/
structure Places {ι : Type} (event : State → ι → Option (Lane × InputEvent)) (f : State → ι → State) : Prop where
  queues : ∀ u v i, SameQueues u v → SameQueues (u.placeAll (event v i).toList) (f v i)
  others : ∀ v i j, j ≠ i → event (f v i) j = event v j

/-- Over distinct contacts or keys, the events are those of the state at the start. -/
theorem Places.foldl {ι : Type} {event : State → ι → Option (Lane × InputEvent)} {f : State → ι → State} (hf : Places event f)
    (h : SameQueues u v) {xs : List ι} (hx : xs.Nodup) : SameQueues (u.placeAll (xs.filterMap (event v))) (xs.foldl f v) := by
  induction xs generalizing u v with
  | nil => exact h
  | cons i xs ih =>
    obtain ⟨hi, hx⟩ := List.nodup_cons.1 hx
    have others : xs.filterMap (event (f v i)) = xs.filterMap (event v) :=
      List.filterMap_congr fun j hj => hf.others v i j fun e => hi (e ▸ hj)
    have rest := ih (hf.queues u v i h) hx
    have first : (i :: xs).filterMap (event v) = (event v i).toList ++ xs.filterMap (event v) := by
      cases h : event v i <;> simp [h]
    rw [others] at rest
    rw [first, State.placeAll, List.foldl_append]
    exact rest

theorem Places.foldl_append {ι κ : Type} {event : State → ι → Option (Lane × InputEvent)} {f : State → ι → State}
    {event' : State → κ → Option (Lane × InputEvent)} {f' : State → κ → State} (hf : Places event f) (hf' : Places event' f')
    (h : SameQueues u v) {xs : List ι} {ys : List κ} (hx : xs.Nodup) (hy : ys.Nodup)
    (later : event' (xs.foldl f v) = event' v) :
    SameQueues (u.placeAll (xs.filterMap (event v) ++ ys.filterMap (event' v))) (ys.foldl f' (xs.foldl f v)) := by
  rw [State.placeAll, List.foldl_append, ← later]
  exact hf'.foldl (hf.foldl h hx) hy

theorem contactCancel_congr {p : Lane → Bool} {i : Fin 2} (h : v.contact i = u.contact i) :
    v.contactCancel p i = u.contactCancel p i := by rw [State.contactCancel, State.contactCancel, h]

theorem keyCancel_congr {p : Lane → Bool} {k : Fin 16} (h : v.key k = u.key k) : v.keyCancel p k = u.keyCancel p k := by
  rw [State.keyCancel, State.keyCancel, h]

theorem cancelContact_places (p : Lane → Bool) : Places (State.contactCancel p) (State.cancelContact p) where
  queues u v i h := by
    unfold State.contactCancel State.cancelContact
    rcases v.contact i with _ | ⟨_ | l, place⟩
    · exact h
    · exact h
    · have placed := h.placeEvent l (.touch i .cancel place)
      dsimp only
      split
      · exact ⟨placed.lanes, placed.exchanges, placed.now, placed.mode⟩
      · exact h
  others v i j e := contactCancel_congr (by rw [(cancelContact_cancels p).records, if_neg e])

theorem cancelKey_places (p : Lane → Bool) : Places (State.keyCancel p) (State.cancelKey p) where
  queues u v k h := by
    unfold State.keyCancel State.cancelKey
    cases (v.key k).owner with
    | none => exact h
    | some l =>
      have placed := h.placeEvent l (.key k .cancel)
      dsimp only
      split
      · exact ⟨placed.lanes, placed.exchanges, placed.now, placed.mode⟩
      · exact h
  others v k j e := keyCancel_congr (by rw [(cancelKey_cancels p).records, if_neg e])

/-- The CANCELs of the contacts and keys whose owner `p` picks: of the contacts by contact id, then of the keys by key number (R145). -/
def State.cancels (s : State) (p : Lane → Bool) : List (Lane × InputEvent) :=
  (List.finRange 2).filterMap (s.contactCancel p) ++ (List.finRange 16).filterMap (s.keyCancel p)

theorem cancels_congr {p : Lane → Bool} (hc : ∀ i, v.contact i = u.contact i) (hk : ∀ k, v.key k = u.key k) :
    v.cancels p = u.cancels p := by
  have contacts : v.contactCancel p = u.contactCancel p := funext fun i => contactCancel_congr (hc i)
  have keys : v.keyCancel p = u.keyCancel p := funext fun k => keyCancel_congr (hk k)
  rw [State.cancels, State.cancels, contacts, keys]

/-- The cancelling of contacts and keys places their CANCELs in order (R145). -/
theorem cancelInputs_queues (h : SameQueues u v) (p : Lane → Bool) :
    SameQueues (u.placeAll (v.cancels p)) (v.cancelInputs p) :=
  (cancelContact_places p).foldl_append (cancelKey_places p) h (List.nodup_finRange 2) (List.nodup_finRange 16)
    (funext fun k => keyCancel_congr (by simp))

/-! ## Notice flags -/

/-- The flag at a bit of a domain's flags is set. -/
def State.flagAt (s : State) (d : Domain) (b : Nat) : Bool := (s.dom d).flags.getLsbD b

theorem flagAt_raise (s : State) (k : Domain) (f : Flag) (d : Domain) (b : Nat) :
    (s.raise k f).flagAt d b = (s.flagAt d b || decide (d = k ∧ b = f.bit)) := by
  rw [State.flagAt, raise_dom, State.flagAt]
  by_cases e : d = k <;> simp [e, Flag.getLsbD_mask]

theorem flagAt_raiseAll (s : State) (f : Flag) (d : Domain) (b : Nat) :
    (s.raiseAll f).flagAt d b = (s.flagAt d b || decide (b = f.bit)) := by
  rw [State.flagAt, raiseAll_dom, State.flagAt, BitVec.getLsbD_or, Flag.getLsbD_mask]

section
variable {b : Nat} (hb : b ≠ Flag.inputLost.bit) (d : Domain)
include hb

/-- An event that finds no cell flags INPUT_LOST; no event flags anything else (R61). -/
theorem flagAt_placeEvent (s : State) (l : Lane) (e : InputEvent) : (s.placeEvent l e).flagAt d b = s.flagAt d b := by
  have lost : (s.loseEvent l e).flagAt d b = s.flagAt d b := by
    rw [State.loseEvent, flagAt_raise, decide_eq_false fun h => hb h.2, Bool.or_false]
    simp [State.flagAt]
  unfold State.placeEvent
  split
  · simp [State.flagAt]
  split
  · rfl
  split
  · simp [State.flagAt]
  split
  · simp [State.flagAt]
  · exact lost

theorem flagAt_cancelContact (p : Lane → Bool) (s : State) (i : Fin 2) :
    (State.cancelContact p s i).flagAt d b = s.flagAt d b := by
  unfold State.cancelContact
  split
  next l place _ =>
    split
    · exact flagAt_placeEvent hb d s l _
    · rfl
  all_goals rfl

theorem flagAt_cancelKey (p : Lane → Bool) (s : State) (k : Fin 16) : (State.cancelKey p s k).flagAt d b = s.flagAt d b := by
  unfold State.cancelKey
  split
  next l _ =>
    split
    · exact flagAt_placeEvent hb d s l _
    · rfl
  next => rfl

theorem flagAt_cancelInputs (s : State) (p : Lane → Bool) : (s.cancelInputs p).flagAt d b = s.flagAt d b := by
  have fold {α : Type} {f : State → α → State} (hf : ∀ u a, (f u a).flagAt d b = u.flagAt d b) (u : State) (xs : List α) :
      (xs.foldl f u).flagAt d b = u.flagAt d b := by
    induction xs generalizing u with
    | nil => rfl
    | cons x xs ih => rw [List.foldl_cons, ih, hf]
  rw [State.cancelInputs, fold (flagAt_cancelKey hb d p), fold (flagAt_cancelContact hb d p)]

end

/-! ## The stages of a frame start -/

/-- Capture begins: it was not active, and the active table holds a capture pane (R137). -/
theorem captureChange_of_begins {had : Bool} (h : had = false ∧ s.capture = true) :
    State.captureChange had s = (s.raiseAll .capture).cancelInputs Lane.isApp := by
  simp [State.captureChange, h]

theorem captureChange_of_not_begins {had : Bool} (h : ¬(had = false ∧ s.capture = true)) :
    State.captureChange had s = if s.capture = had then s else s.raiseAll .capture := by
  unfold State.captureChange
  split_ifs with same begins
  · rfl
  · exact absurd ⟨Bool.eq_false_iff.2 fun e => same (begins.trans e.symm), begins⟩ h
  · rfl

theorem flagAt_captureChange {b : Nat} (hb : b ≠ Flag.inputLost.bit) (s : State) (had : Bool) (d : Domain) :
    (State.captureChange had s).flagAt d b = (s.flagAt d b || decide (s.capture ≠ had ∧ b = Flag.capture.bit)) := by
  unfold State.captureChange
  split_ifs with same begins
  · simp [same]
  · rw [flagAt_cancelInputs hb, flagAt_raiseAll]; simp [same]
  · rw [flagAt_raiseAll]; simp [same]

theorem flagAt_applyStaged (s : State) (d : Domain) (b : Nat) : s.applyStaged.flagAt d b =
    (s.flagAt d b || decide (d = .pay ∧ s.panel.staged.isSome = true ∧ b = Flag.panes.bit)) := by
  unfold State.applyStaged
  split
  · next h => simp [h]
  · next h => rw [flagAt_raise]; simp [State.flagAt, h]

/-- The requests on the list for a job complete in turn (R97). -/
def State.completeAll (s : State) (outstanding : List Outstanding) (payload : List Byte) : State :=
  outstanding.foldl (fun q o => q.complete o.tag payload) s

theorem SameQueues.completeAll (h : SameQueues s t) (outstanding : List Outstanding) (payload : List Byte) :
    SameQueues (s.completeAll outstanding payload) (t.completeAll outstanding payload) :=
  h.foldl (fun _ _ o hu => hu.complete o.tag payload) outstanding

/-- The queues once the requests on the list for a job have completed (R97). -/
theorem completeJobs_queues (h : SameQueues u s) (job : Job) (r : HubResult) (detail : Nat) : SameQueues
    (u.completeAll (s.hub.outstanding.filter fun o => decide (o.job = job)) (replyBytes r job.code detail []))
    (s.completeJobs job r detail) := by
  have listed : SameQueues u { s with hub := { s.hub with
      outstanding := s.hub.outstanding.filter fun o => decide (o.job ≠ job) } } := ⟨h.lanes, h.exchanges, h.now, h.mode⟩
  exact listed.completeAll _ _

/-- The queues once the scrolls are applied (R97, R128). -/
theorem applyScrolls_queues (s : State) : SameQueues
    (s.completeAll (s.hub.outstanding.filter fun o => decide (o.job = .scrollPane)) [1#8, 3#8, 0#8, 0#8]) s.applyScrolls := by
  have stage : s.applyScrolls = State.completeJobs { s with panel := s.applyScrolls.panel } .scrollPane .done 0 := by
    rw [applyScrolls_panel]; rfl
  have moved : SameQueues s { s with panel := s.applyScrolls.panel } := ⟨rfl, rfl, rfl, rfl⟩
  rw [stage]
  exact completeJobs_queues moved .scrollPane .done 0

/-- The queues once a staged table is applied (R97, R124). -/
theorem applyStaged_queues (h : SameQueues u s) : SameQueues (if s.panel.staged.isSome
    then u.completeAll (s.hub.outstanding.filter fun o => decide (o.job = .setPanes)) [1#8, 2#8, 0#8, 0#8] else u)
    s.applyStaged := by
  unfold State.applyStaged
  cases hs : s.panel.staged with
  | none => exact h
  | some table =>
    have moved : SameQueues u { s with panel := { s.panel with active := table, staged := none } } :=
      ⟨h.lanes, h.exchanges, h.now, h.mode⟩
    exact (completeJobs_queues moved .setPanes .done 0).trans (sameQueues_raise _ .pay .panes)

theorem applyScrolls_hub (s : State) : s.applyScrolls.hub =
    { s.hub with outstanding := s.hub.outstanding.filter fun o => decide (o.job ≠ .scrollPane) } :=
  completeJobs_hub _ _ _ _

theorem applyStaged_hub (s : State) : s.applyStaged.hub = { s.hub with
    outstanding := s.hub.outstanding.filter fun o => decide (o.job ≠ .setPanes) || s.panel.staged.isNone } := by
  unfold State.applyStaged
  cases hs : s.panel.staged with
  | none => simp
  | some table => simp [completeJobs_hub]

/-! ## The frame start -/

/-- A frame start before capture follows the table: the scrolls and the staged table applied, with their replies (R124). -/
def State.tabled (s : State) : State := s.applyScrolls.applyStaged

theorem frameStart_eq (s : State) :
    s.frameStart = { State.captureChange s.capture s.tabled with panel := s.frameStart.panel } := rfl

theorem frameStart_capture (s : State) : s.frameStart.capture = s.tabled.capture := by
  simp [State.frameStart, State.tabled, State.capture]

theorem frameStart_hub (s : State) : s.frameStart.hub = { s.hub with outstanding := (s.hub.outstanding.filter fun o =>
    decide (o.job ≠ .scrollPane) && (decide (o.job ≠ .setPanes) || s.panel.staged.isNone)) } := by
  have hub : s.frameStart.hub = s.tabled.hub := by rw [frameStart_eq]; simp
  rw [hub, State.tabled, applyStaged_hub, applyScrolls_hub]
  simp [List.filter_filter, Bool.and_comm]

theorem flagAt_frameStart {b : Nat} (hb : b ≠ Flag.inputLost.bit) (s : State) (d : Domain) : s.frameStart.flagAt d b =
    (s.flagAt d b || decide (d = .pay ∧ s.panel.staged.isSome = true ∧ b = Flag.panes.bit)
      || decide (s.frameStart.capture ≠ s.capture ∧ b = Flag.capture.bit)) := by
  have changed : s.frameStart.flagAt d b = (State.captureChange s.capture s.tabled).flagAt d b := by
    rw [frameStart_eq]; simp [State.flagAt]
  have scrolled : s.applyScrolls.flagAt d b = s.flagAt d b := by simp [State.flagAt]
  rw [changed, flagAt_captureChange hb, State.tabled, flagAt_applyStaged, scrolled, frameStart_capture, State.tabled]
  simp

/-- The replies of a frame start: those of the scrolls first (R97, R124). -/
def State.replied (s : State) : State :=
  let q := s.completeAll (s.hub.outstanding.filter fun o => decide (o.job = .scrollPane)) [1#8, 3#8, 0#8, 0#8]
  if s.panel.staged.isSome
    then q.completeAll (s.hub.outstanding.filter fun o => decide (o.job = .setPanes)) [1#8, 2#8, 0#8, 0#8] else q

theorem tabled_queues (s : State) : SameQueues s.replied s.tabled := by
  have waiting : s.applyScrolls.hub.outstanding.filter (fun o => decide (o.job = .setPanes))
      = s.hub.outstanding.filter fun o => decide (o.job = .setPanes) := by
    rw [applyScrolls_hub, List.filter_filter]
    exact List.filter_congr fun o _ => by by_cases h : o.job = .setPanes <;> simp [h]
  have staged : s.applyScrolls.panel.staged = s.panel.staged := by simp
  have h := applyStaged_queues (applyScrolls_queues s)
  rwa [waiting, staged] at h

theorem tabled_inputs (s : State) : (∀ i, s.tabled.contact i = s.contact i) ∧ ∀ k, s.tabled.key k = s.key k := by
  simp [State.tabled]

/-- The queues after a frame start: the replies, and the CANCELs where capture begins (R124, R145). -/
theorem frameStart_queues (s : State) : SameQueues (if s.capture = false ∧ s.frameStart.capture = true
    then s.replied.placeAll (s.cancels Lane.isApp) else s.replied) s.frameStart := by
  have sent : SameQueues (State.captureChange s.capture s.tabled) s.frameStart := by
    rw [frameStart_eq]; exact ⟨rfl, rfl, rfl, rfl⟩
  obtain ⟨contacts, keys⟩ := tabled_inputs s
  have raised := (tabled_queues s).trans (sameQueues_raiseAll s.tabled .capture)
  refine SameQueues.trans ?_ sent
  rw [frameStart_capture]
  split_ifs with begins
  · have cancels : (s.tabled.raiseAll .capture).cancels Lane.isApp = s.cancels Lane.isApp :=
      cancels_congr (by simpa using contacts) (by simpa using keys)
    rw [captureChange_of_begins begins, ← cancels]
    exact cancelInputs_queues raised Lane.isApp
  · rw [captureChange_of_not_begins begins]
    split
    · exact tabled_queues s
    · exact raised

theorem frameStart_inputs (s : State) :
    (∀ i, s.frameStart.contact i = if s.capture = false ∧ s.frameStart.capture = true then Contact.dropped Lane.isApp (s.contact i)
      else s.contact i)
    ∧ ∀ k, s.frameStart.key k = if s.capture = false ∧ s.frameStart.capture = true then Key.dropped Lane.isApp (s.key k)
      else s.key k := by
  have sent : (∀ i, s.frameStart.contact i = (State.captureChange s.capture s.tabled).contact i)
      ∧ ∀ k, s.frameStart.key k = (State.captureChange s.capture s.tabled).key k := by
    rw [frameStart_eq]; exact ⟨fun _ => State.contact_mk .., fun _ => State.key_mk ..⟩
  obtain ⟨contacts, keys⟩ := tabled_inputs s
  rw [frameStart_capture]
  by_cases begins : s.capture = false ∧ s.tabled.capture = true
  · simp only [sent, captureChange_of_begins begins, if_pos begins, cancelInputs_contact, cancelInputs_key]
    simp [contacts, keys]
  · simp only [sent, captureChange_of_not_begins begins, if_neg begins]
    split <;> simp [contacts, keys]

end

/-- Settles O40: the panel (`frameStart_panel`), the requests, and what follows of capture; the lanes and the exchange table by the
replies and CANCELs that the frame start places (`frameStart_queues`). -/
theorem frameStart : Obligations.FrameStart := by
  unfold Obligations.FrameStart
  rintro s _ _ cancels rfl hcancels rfl
  have events : cancels = s.cancels Lane.isApp := hcancels
  obtain ⟨contacts, keys⟩ := frameStart_inputs s
  have queues := frameStart_queues s
  refine ⟨frameStart_panel s, frameStart_hub s, contacts, keys, fun d b hb => flagAt_frameStart hb s d,
    ⟨_, s.replied, rfl, rfl, fun i => ?_, fun l => ?_⟩, fun q => ?_, by simp⟩
  · rw [queues.entry]
    split
    · exact placeAll_entry _ _ i
    · rfl
  · rw [events, queues.lane]
    rfl
  · simp [State.secureLamp, State.capture, PaneTable.hasCapture]

end Sys2Proof.Machine

/-! PROOFS. The input events that wait for the application lanes, and the changes that bring them none and leave the contacts and keys
as they are (O54, O55). -/

namespace Sys2Proof.Machine

open scoped List

/-! ## TOUCH and KEY events other than CANCEL -/

/-- A TOUCH or KEY event other than CANCEL (R145). -/
def InputEvent.isInput : InputEvent → Bool
  | .touch _ phase _ => decide (phase ≠ .cancel)
  | .key _ action => decide (action ≠ .cancel)
  | .line _ _ _ _ => false

/-- The entry is the cell of a TOUCH or KEY event other than CANCEL. -/
def Entry.isInput : Entry → Bool
  | .cell e _ => e.isInput
  | .message _ | .reply _ | .conclusion _ => false

section
variable (e : InputEvent) (joined : Nat)

@[simp] theorem isInput_touch (id : Fin 2) (phase : TouchPhase) (place : Placement) :
    (InputEvent.touch id phase place).isInput = decide (phase ≠ .cancel) := rfl

@[simp] theorem isInput_key (k : Fin 16) (action : KeyAction) : (InputEvent.key k action).isInput = decide (action ≠ .cancel) := rfl

@[simp] theorem isInput_line (tag : Byte) (n : Fin 12) (level mismatch : Bool) :
    (InputEvent.line tag n level mismatch).isInput = false := by rw [InputEvent.isInput]

@[simp] theorem isInput_cell : (Entry.cell e joined).isInput = e.isInput := rfl

@[simp] theorem isInput_message (h : Held) : (Entry.message h).isInput = false := by rw [Entry.isInput]

@[simp] theorem isInput_reply (r : Reply) : (Entry.reply r).isInput = false := by rw [Entry.isInput]

@[simp] theorem isInput_conclusion (i : Fin 48) : (Entry.conclusion i).isInput = false := by rw [Entry.isInput]

end

/-- The TOUCH and KEY events other than CANCEL in the FIFO of an application lane. -/
def State.inputCells (s : State) (x : Fin 8) : List Entry := (s.lane (.app x)).fifo.filter Entry.isInput

section
variable (s : State) (l k : Lane)

/-! ### Operations that place none -/

@[simp] theorem join_inputs {e : Entry} (he : e.isInput = false) :
    ((s.join l e).lane k).fifo.filter Entry.isInput = (s.lane k).fifo.filter Entry.isInput := by
  rw [join_fifo]
  split
  · next h => simp [h, he]
  · rfl

/-- A CANCEL and a LINE event are placed as they come, or not at all (R60). -/
@[simp] theorem placeEvent_inputs {e : InputEvent} (he : e.isInput = false) :
    ((s.placeEvent l e).lane k).fifo.filter Entry.isInput = (s.lane k).fifo.filter Entry.isInput := by
  have coalesces (fifo : List Entry) : e.coalesced fifo = none := by
    unfold InputEvent.coalesced
    split
    · cases he
    all_goals rfl
  rw [State.placeEvent, coalesces]
  dsimp only
  split_ifs
  · simp
  · rfl
  · exact join_inputs s l k he
  · simp

@[simp] theorem told_inputs (refs : List (Fin 48)) :
    (s.told l refs).fifo.filter Entry.isInput = (s.lane l).fifo.filter Entry.isInput := by
  have none : (refs.map Entry.conclusion).filter Entry.isInput = [] := by simp
  rw [State.told, List.filter_append]
  split <;> simp

@[simp] theorem conclude_inputs (i : Fin 48) (x : Exchange) (c : Conclusion) :
    ((s.conclude i x c).lane k).fifo.filter Entry.isInput = (s.lane k).fifo.filter Entry.isInput := by
  rw [conclude_lane, told_inputs]

@[simp] theorem removeExchanges_inputs (gone : Lane → Bool) (keepHub : Bool) :
    ((s.removeExchanges gone keepHub).lane k).fifo.filter Entry.isInput = (s.lane k).fifo.filter Entry.isInput := by
  rw [removeExchanges_lane, told_inputs]

@[simp] theorem complete_inputs (tag : Nat) (payload : List Byte) :
    ((s.complete tag payload).lane k).fifo.filter Entry.isInput = (s.lane k).fifo.filter Entry.isInput := by
  unfold State.complete State.placeReply
  (repeat' split) <;> simp [State.freeEntry]

theorem foldl_inputs {α : Type} {f : State → α → State}
    (hf : ∀ u a, ((f u a).lane k).fifo.filter Entry.isInput = (u.lane k).fifo.filter Entry.isInput) (xs : List α) :
    ((xs.foldl f s).lane k).fifo.filter Entry.isInput = (s.lane k).fifo.filter Entry.isInput := by
  induction xs generalizing s with
  | nil => rfl
  | cons x xs ih => rw [List.foldl_cons, ih, hf]

@[simp] theorem completeJobs_inputs (job : Job) (r : HubResult) (detail : Nat) :
    ((s.completeJobs job r detail).lane k).fifo.filter Entry.isInput = (s.lane k).fifo.filter Entry.isInput := by
  rw [State.completeJobs, foldl_inputs _ k fun u o => complete_inputs u k _ _, State.lane_mk]

@[simp] theorem cancelInputs_inputs (p : Lane → Bool) :
    ((s.cancelInputs p).lane k).fifo.filter Entry.isInput = (s.lane k).fifo.filter Entry.isInput := by
  have contact (u : State) (i : Fin 2) :
      ((State.cancelContact p u i).lane k).fifo.filter Entry.isInput = (u.lane k).fifo.filter Entry.isInput := by
    unfold State.cancelContact
    (repeat' split) <;> simp
  have key (u : State) (i : Fin 16) :
      ((State.cancelKey p u i).lane k).fifo.filter Entry.isInput = (u.lane k).fifo.filter Entry.isInput := by
    unfold State.cancelKey
    (repeat' split) <;> simp
  rw [State.cancelInputs, foldl_inputs _ k key, foldl_inputs _ k contact]

@[simp] theorem captureChange_inputs (had : Bool) :
    ((State.captureChange had s).lane k).fifo.filter Entry.isInput = (s.lane k).fifo.filter Entry.isInput := by
  unfold State.captureChange
  split_ifs <;> simp

@[simp] theorem frameStart_inputCells :
    (s.frameStart.lane k).fifo.filter Entry.isInput = (s.lane k).fifo.filter Entry.isInput := by
  have staged (u : State) : (u.applyStaged.lane k).fifo.filter Entry.isInput = (u.lane k).fifo.filter Entry.isInput := by
    unfold State.applyStaged
    split <;> simp
  simp [State.frameStart, State.send, State.applyScrolls, staged]

/-! ### Operations after which entries are gone -/

@[simp] theorem orderConclusions_inputs (was : State) :
    ((State.orderConclusions was s).lane k).fifo.filter Entry.isInput = (s.lane k).fifo.filter Entry.isInput := by
  have other (p : Fin 48 → Bool) (fifo : List Entry) :
      fifo.filter Entry.isInput = (fifo.filter fun e => !e.refersTo p).filter Entry.isInput := by
    rw [List.filter_filter]
    exact List.filter_congr fun e _ => by cases e <;> simp [Entry.refersTo]
  have references (refs : List (Fin 48)) : (refs.map Entry.conclusion).filter Entry.isInput = [] := by simp
  rw [orderConclusions_lane]
  dsimp only
  rw [orderReferences, List.filter_append, List.filter_append, references, List.append_nil, ← List.filter_append,
    ← filter_not_refersTo, ← other]

theorem filterFifos_inputs (keep : Lane → Entry → Bool) (keepHub : Held → Bool) :
    ((s.filterFifos keep keepHub).lane k).fifo.filter Entry.isInput <+ (s.lane k).fifo.filter Entry.isInput := by
  rw [filterFifos_lane]
  exact List.filter_sublist.filter _

theorem removeAt_inputs (place : Nat) :
    ((s.removeAt l place).lane k).fifo.filter Entry.isInput <+ (s.lane k).fifo.filter Entry.isInput := by
  rw [removeAt_fifo]
  split
  · next h => rw [h]; exact (List.eraseIdx_sublist ..).filter _
  · exact .refl _

end

/-! ## Changes that withhold inputs -/

@[simp] theorem inputToPay_iff (s : State) :
    s.inputToPay = true ↔ s.panel.active.hasCapture = true ∨ s.hub.mode = .lockdown := by
  simp [State.inputToPay, State.capture]

/-- No TOUCH or KEY event other than CANCEL joins an application lane's FIFO, the contacts and keys stand, and new ones belong to PAY
only where they did before. -/
def SameInputs (s t : State) : Prop :=
  (∀ x : Fin 8, (t.lane (.app x)).fifo.filter Entry.isInput <+ (s.lane (.app x)).fifo.filter Entry.isInput)
    ∧ (∀ i, t.contact i = s.contact i) ∧ (∀ k, t.key k = s.key k) ∧ (t.inputToPay = true → s.inputToPay = true)

/-- A change that brings no application lane a TOUCH or KEY event other than CANCEL, and after which the inputs that were withheld from
the application lanes are withheld (R145). -/
structure Withholds (s t : State) : Prop where
  cells : ∀ x, t.inputCells x <+ s.inputCells x
  inputs : InputsWithheld s → InputsWithheld t

@[refl] theorem Withholds.refl (s : State) : Withholds s s := ⟨fun _ => .refl _, id⟩

@[trans] theorem Withholds.trans {s t u : State} (h : Withholds s t) (h' : Withholds t u) : Withholds s u :=
  ⟨fun x => (h'.cells x).trans (h.cells x), h'.inputs ∘ h.inputs⟩

/-- Of two changes that withhold inputs, the one that a condition chooses does. -/
theorem Withholds.ite {p : Prop} [Decidable p] {s t u : State} (h : p → Withholds s t) (h' : ¬p → Withholds s u) :
    Withholds s (if p then t else u) := by
  split
  · exact h ‹_›
  · exact h' ‹_›

section
variable {s t u : State}

/-- Contacts and keys that lose owners stay withheld. -/
theorem inputsWithheld_of_dropped {p : Lane → Bool} (ht : InputsWithheld t) (toPay : u.inputToPay = true → t.inputToPay = true)
    (contacts : ∀ i, u.contact i = Contact.dropped p (t.contact i)) (keys : ∀ k, u.key k = Key.dropped p (t.key k)) :
    InputsWithheld u := by
  intro hu
  obtain ⟨contact, key⟩ := ht (toPay hu)
  refine ⟨fun i c l hc hl => ?_, fun k l hl => ?_⟩
  · rw [contacts] at hc
    obtain ⟨held, hheld, rfl⟩ := Option.map_eq_some_iff.1 hc
    exact contact i held l hheld (Option.filter_eq_some_iff.1 hl).1
  · rw [keys] at hl
    exact key k l (Option.filter_eq_some_iff.1 hl).1

/-- The contacts and keys that the application lanes lose are withheld from them. -/
theorem inputsWithheld_of_dropped_isApp (contacts : ∀ i, u.contact i = Contact.dropped Lane.isApp (t.contact i))
    (keys : ∀ k, u.key k = Key.dropped Lane.isApp (t.key k)) : InputsWithheld u := by
  refine fun _ => ⟨fun i c l hc hl => ?_, fun k l hl => ?_⟩
  · rw [contacts] at hc
    obtain ⟨c, -, rfl⟩ := Option.map_eq_some_iff.1 hc
    simpa using (Option.filter_eq_some_iff.1 hl).2
  · rw [keys] at hl
    simpa using (Option.filter_eq_some_iff.1 hl).2

theorem InputsWithheld.same (ht : InputsWithheld t) (h : SameInputs t u) : InputsWithheld u := by
  obtain ⟨-, contacts, keys, toPay⟩ := h
  intro hu
  simpa only [contacts, keys] using ht (toPay hu)

section
variable (h : Withholds s t)
include h

theorem Withholds.same (hu : SameInputs t u) : Withholds s u := h.trans ⟨hu.1, fun ht => ht.same hu⟩

theorem Withholds.foldl {α : Type} {f : State → α → State} (hf : ∀ t a, Withholds t (f t a)) (xs : List α) :
    Withholds s (xs.foldl f t) := by
  induction xs generalizing t with
  | nil => exact h
  | cons x xs ih => exact ih (h.trans (hf t x))

/-! ### FIFOs and the exchange table -/

theorem Withholds.filterFifos (keep : Lane → Entry → Bool) (keepHub : Held → Bool) : Withholds s (t.filterFifos keep keepHub) :=
  h.same ⟨fun _ => filterFifos_inputs .., by simp, by simp, by simp⟩

theorem Withholds.removeAt (l : Lane) (place : Nat) : Withholds s (t.removeAt l place) :=
  h.same ⟨fun _ => removeAt_inputs .., by simp, by simp, by simp⟩

theorem Withholds.conclude (i : Fin 48) (x : Exchange) (c : Conclusion) : Withholds s (t.conclude i x c) :=
  h.same (by simp [SameInputs])

theorem Withholds.expire (i : Fin 48) : Withholds s (t.expire i) := by
  unfold State.expire
  split
  · split
    · exact (h.filterFifos _ _).conclude _ _ _
    · exact h.conclude _ _ _
  · exact h.conclude _ _ _
  all_goals exact h

theorem Withholds.complete (tag : Nat) (payload : List Byte) : Withholds s (t.complete tag payload) :=
  h.same (by simp [SameInputs])

theorem Withholds.completeJobs (job : Job) (r : HubResult) (detail : Nat) : Withholds s (t.completeJobs job r detail) :=
  h.same (by simp [SameInputs])

/-! ### Inputs and the panel path -/

theorem Withholds.cancelInputs (p : Lane → Bool) : Withholds s (t.cancelInputs p) :=
  h.trans ⟨fun x => by simp [State.inputCells],
    fun ht => inputsWithheld_of_dropped ht (by simp) (cancelInputs_contact t p) (cancelInputs_key t p)⟩

/-- Where capture begins with a frame start, the application lanes lose their contacts and keys (R124, R145). -/
theorem Withholds.frameStart : Withholds s t.frameStart := by
  obtain ⟨contacts, keys⟩ := frameStart_inputs t
  refine h.trans ⟨fun x => by simp [State.inputCells], fun ht => ?_⟩
  by_cases begins : t.capture = false ∧ t.frameStart.capture = true
  · simp only [if_pos begins] at contacts keys
    exact inputsWithheld_of_dropped_isApp contacts keys
  · simp only [if_neg begins] at contacts keys
    refine ht.same ⟨fun x => by simp, contacts, keys, fun toPay => ?_⟩
    rw [State.inputToPay, Bool.or_eq_true] at toPay ⊢
    refine toPay.imp (fun capture => ?_) fun mode => ?_
    · by_contra none; exact begins ⟨by simpa using none, capture⟩
    · simpa [frameStart_hub] using mode

/-! ### LOCKDOWN and the combiner -/

omit h in
theorem enterLockdown_inputs (t : State) (k : Lane) :
    (t.enterLockdown.lane k).fifo.filter Entry.isInput <+ (t.lane k).fifo.filter Entry.isInput := by
  have stages : (t.enterLockdown.lane k).fifo.filter Entry.isInput = (t.locking.lane k).fifo.filter Entry.isInput := by
    rw [enterLockdown_lane, State.discarding, State.cancelled, completeJobs_inputs, unstaged_lane, told_inputs]
  rw [stages, State.locking, State.lockFifos]
  exact filterFifos_inputs _ k _ _

/-- The entry into LOCKDOWN takes the contacts and keys of the application lanes (R145). -/
theorem Withholds.enterLockdown : Withholds s t.enterLockdown :=
  h.trans ⟨fun _ => enterLockdown_inputs t _,
    fun _ => inputsWithheld_of_dropped_isApp (enterLockdown_contact t) (enterLockdown_key t)⟩

theorem Withholds.evaluate : Withholds s t.evaluate := by
  have formed : Withholds s t.formOutput := h.same (by simp [SameInputs])
  exact Withholds.ite (fun _ => formed.enterLockdown) fun _ => formed

theorem Withholds.evaluateViol (was : State) : Withholds s (State.evaluateViol was t) :=
  Withholds.ite (fun _ => h) fun _ => h.evaluate.same (by simp [SameInputs])

theorem Withholds.evaluateMismatch (was : Bool) (n : Fin 12) : Withholds s (State.evaluateMismatch was n t) :=
  Withholds.ite (fun _ => h) fun _ => h.evaluate

/-! ### Domain control -/

/-- A change of a lane's record that leaves its FIFO. -/
theorem Withholds.updLane {l : Lane} {f : LaneState → LaneState} (hf : ∀ r, (f r).fifo = r.fifo) : Withholds s (t.updLane l f) :=
  h.same (by simp [SameInputs, hf])

theorem Withholds.updLanes {f : Lane → LaneState → LaneState} (hf : ∀ l r, (f l r).fifo = r.fifo) : Withholds s (t.updLanes f) :=
  h.same (by simp [SameInputs, hf])

theorem Withholds.updDom (d : Domain) (f : DomainRecord → DomainRecord) : Withholds s (t.updDom d f) :=
  h.same (by simp [SameInputs])

theorem Withholds.raise (d : Domain) (f : Flag) : Withholds s (t.raise d f) := h.updDom d _

theorem Withholds.fenceLane (l : Lane) : Withholds s (t.fenceLane l) := by
  have fencing : Withholds s (t.fencing l) := Withholds.filterFifos (h.same (by simp [SameInputs])) _ _
  have closed : Withholds s ((t.fencing l).removeExchanges (fun k => decide (k = l)) true) :=
    fencing.same (by simp [SameInputs])
  exact ((closed.cancelInputs _).raise _ _).raise _ _

theorem Withholds.autoFence (l : Lane) : Withholds s (t.autoFence l) := by
  have fence : Withholds s (if (t.lane l).fenced then t else t.fenceLane l) := Withholds.ite (fun _ => h) fun _ => h.fenceLane l
  exact (fence.updLane (f := fun r => { r with autoFenced := true }) fun _ => rfl).evaluateViol t

theorem Withholds.violate (l : Lane) : Withholds s (t.violate l) := by
  have charged : Withholds s (t.updLane l fun r => { r with violations := bump r.violations, tally := bumpByte r.tally }) :=
    h.updLane fun _ => rfl
  exact Withholds.ite (fun _ => charged.autoFence l) fun _ => charged

/-- The contacts and keys of a domain that is removed end silently (R146). -/
theorem Withholds.removal (d : Domain) : Withholds s (t.removal d) := by
  refine h.trans ⟨fun x => ?_, fun ht => inputsWithheld_of_dropped ht ?_ (removal_contact t d) (removal_key t d)⟩
  · have removing := filterFifos_inputs ((t.endVisit d).updDom d fun r => { r with flags := 0#32 }) (.app x)
      (fun l e => decide (l.domain ≠ d) && !e.isRequest fun m => decide (m.sender.domain = d))
      fun h => decide (h.message.sender.domain ≠ d)
    rw [State.updDom_lane] at removing
    rw [State.inputCells, removal_lane]
    split
    · exact removing
    · rw [told_inputs]; exact removing
  · have panel : (t.removal d).panel = t.panel := by by_cases e : d = .app <;> simp [State.removal, e]
    simp [inputToPay_iff, panel, removal_hub]

theorem Withholds.removeDomain (d : Domain) : Withholds s (t.removeDomain d) := (h.removal d).evaluateViol t

theorem Withholds.startInit (d : Domain) : Withholds s (t.startInit d) :=
  Withholds.updLanes (h.updDom d _) fun _ _ => by split <;> rfl

theorem Withholds.raiseDomain (d : Domain) : Withholds s (t.raiseDomain d) := Withholds.ite (fun _ => h) fun _ => h.raise _ _

theorem Withholds.holdDomain (d : Domain) : Withholds s (t.holdDomain d) := Withholds.removeDomain (h.updDom d _) d

theorem Withholds.releaseDomain (d : Domain) : Withholds s (t.releaseDomain d) :=
  (Withholds.startInit (h.updDom d _) d).raiseDomain d

theorem Withholds.selfRestart (d : Domain) : Withholds s (t.selfRestart d) := by
  have restarted : Withholds s ((t.removeDomain d).startInit d) := (h.removeDomain d).startInit d
  unfold State.selfRestart
  split
  · exact restarted
  · exact restarted
  all_goals exact h

theorem Withholds.hold (d : Domain) : Withholds s (t.hold d) :=
  Withholds.ite (fun _ => Withholds.completeJobs (h.updDom d _) _ _ _) fun _ => h.holdDomain d

theorem Withholds.restore (l : Lane) : Withholds s (t.restore l) := by
  have lifted : Withholds s (t.updLane l fun r => { r with fenced := false, autoFenced := false, tally := 0 }) :=
    h.updLane fun _ => rfl
  have cleared : Withholds s (t.updLane l fun r => { r with tally := 0 }) := h.updLane fun _ => rfl
  exact Withholds.ite (fun _ => ((lifted.raise _ _).raise _ _).evaluateViol t) fun _ => cleared

end
end
end Sys2Proof.Machine

/-! PROOFS. Takes, ports, deliveries, the hub service, the lines and the panel path withhold inputs (O54, O55). -/

namespace Sys2Proof.Machine

open scoped List

section
variable {s t u : State}

section
variable (h : Withholds s t)
include h

/-! ## Takes -/

theorem Withholds.writeOutcome (l : Lane) (slot : Nat) (o : TakeOutcome) (tag : Nat) : Withholds s (t.writeOutcome l slot o tag) :=
  h.same (by simp [SameInputs, State.writeOutcome])

theorem Withholds.lateSeen (tag : Nat) : Withholds s (t.lateSeen tag) := h.same (by simp [SameInputs])

/-- A message joins a FIFO, or is discarded: it is no event. -/
theorem Withholds.joinMessage (r : Recipient) (x : Held) : Withholds s (t.joinMessage r x) := by
  cases r with
  | hub => exact h.same (by simp [SameInputs, State.joinMessage])
  | board l => exact Withholds.ite (fun _ => h.same (by simp [SameInputs])) fun _ => h.same (by simp [SameInputs])

theorem Withholds.admitted (l : Lane) (slot tag : Nat) : Withholds s (t.admitted l slot tag) :=
  (h.writeOutcome l slot _ tag).updLane fun _ => rfl

theorem Withholds.spend (route : Option Nat) : Withholds s (t.spend route) := by
  cases route with
  | none => exact h
  | some => exact h.same (by simp [SameInputs, State.spend])

theorem Withholds.refuseTake (l : Lane) (slot : Nat) (m : Slot) (o : TakeOutcome) : Withholds s (t.refuseTake l slot m o) := by
  have counted := Withholds.raise (Withholds.updLane (h.writeOutcome l slot o m.refusedTag) (l := l)
    (f := fun r => { r with refused := bump r.refused }) fun _ => rfl) l.domain (.outcome l)
  have seen := Withholds.ite (p := o = .late) (fun _ => counted.lateSeen m.tag) fun _ => counted
  exact Withholds.ite (fun _ => seen.violate l) fun _ => seen

theorem Withholds.acceptRequest (l : Lane) (slot : Nat) (m : Slot) (a : Address) (route : Option Nat) (b : Fin 30) :
    Withholds s (t.acceptRequest l slot m a route b) := by
  unfold State.acceptRequest
  split
  · exact h
  · have claimed (i : Fin 48) (x : Exchange) : Withholds s ((t.spend route).claim i x) := (h.spend route).same (by simp [SameInputs])
    exact Withholds.admitted (Withholds.ite (fun _ => ((claimed _ _).joinMessage _ _).conclude _ _ _)
      fun _ => (claimed _ _).joinMessage _ _) _ _ _

theorem Withholds.acceptNotice (l : Lane) (slot : Nat) (m : Slot) (a : Address) (route : Nat) (b : Fin 30) :
    Withholds s (t.acceptNotice l slot m a route b) := ((h.spend _).joinMessage _ _).admitted _ _ _

theorem Withholds.acceptAnswer (l : Lane) (slot : Nat) (m : Slot) (i : Fin 48) (x : Exchange) (b : Fin 30) :
    Withholds s (t.acceptAnswer l slot m i x b) := by
  have freed : Withholds s (t.freeEntry i) := h.same (by simp [SameInputs])
  exact (freed.joinMessage _ _).admitted _ _ _

theorem Withholds.afterTake (l : Lane) (slot : Nat) (first : Bool) : Withholds s (t.afterTake l slot first) :=
  h.same (by simp [SameInputs, State.afterTake])

omit h in
theorem takeFor_withholds (s : State) (l : Lane) (first : Bool) : Withholds s (s.takeFor l first) := by
  have h0 := Withholds.refl s
  refine takeFor_induction ?_ (fun slot m o _ _ => ?_) (fun slot _ => ?_) (fun slot m a route b _ _ _ => ?_)
    (fun slot m a route b _ _ _ => ?_) fun slot m i x b _ _ _ => ?_
  · exact h0.same (by simp [SameInputs, State.noVisit])
  · exact (h0.refuseTake l slot m o).afterTake l slot first
  · exact h0.same (by simp [SameInputs, State.heldBack, State.noVisit])
  · exact (h0.acceptRequest l slot m a route b).afterTake l slot first
  · exact (h0.acceptNotice l slot m a route b).afterTake l slot first
  · exact (h0.acceptAnswer l slot m i x b).afterTake l slot first

omit h in
theorem take_withholds (h : exec .take s = .next t) : Withholds s t := by
  refine take_induction h (Withholds.refl s) fun l first _ => ?_
  have visit : Withholds s (s.visiting l first) := (Withholds.refl s).same (by cases first <;> simp [SameInputs, State.visiting])
  exact visit.trans (takeFor_withholds _ l first)

/-! ## Ports and deliveries -/

theorem Withholds.attend (d : Domain) (set : Byte) : Withholds s (t.attend d set) := h.updLanes fun _ _ => by split <;> rfl

theorem Withholds.goUp (d : Domain) : Withholds s (t.goUp d) := Withholds.raiseDomain (h.updDom d _) d

theorem Withholds.finishInit (d : Domain) : Withholds s (t.finishInit d) := by
  have cleared : Withholds s ((t.updDom d fun r =>
      { r with window := Memory.clear r.window d.isStateByte, initialising := none, remembered := 0#8 }).updLanes fun l r =>
        if l.domain = d then { r with takeCursor := 0, putCursor := 0, deliveryNumber := 0#16 } else r) :=
    Withholds.updLanes (h.updDom d _) fun _ _ => by split <;> rfl
  exact Withholds.ite (fun _ => cleared) fun _ => (cleared.goUp d).attend d _

theorem Withholds.writeAttention (d : Domain) (value : Word) : Withholds s (t.writeAttention d value) := by
  refine Withholds.ite (fun _ => h.selfRestart d) fun _ => ?_
  unfold State.nameLanes
  split
  · exact h
  split
  · exact h.attend d _
  · exact (h.goUp d).attend d _
  · exact h.updDom d _
  · exact h

theorem Withholds.returnData (d : Domain) (w : Word) : Withholds s (t.returnData d w) := h.updDom d _

theorem Withholds.clearFlags (d : Domain) (value : Word) : Withholds s (t.clearFlags d value) := h.updDom d _

theorem Withholds.clearStray (d : Domain) : Withholds s (t.clearStray d) := h.updDom d _

theorem Withholds.access (d : Domain) (offset size : Nat) (op : PortOp) : Withholds s (t.access d offset size op) := by
  unfold State.access
  split
  · cases op with
    | read => exact h.returnData d _
    | write => exact Withholds.ite (fun _ => h.updDom d _) fun _ => h.updDom d _
  split
  · next r _ =>
    cases op with
    | read => exact h.returnData d _
    | write value =>
      cases r with
      | attention => exact h.writeAttention d value
      | acknowledge => exact h.clearFlags d value
      | status => exact h
      | identity => exact h.clearStray d
  · have stray := h.updDom d fun r => { r with stray := bumpByte r.stray }
    cases op with
    | read => exact stray.returnData d _
    | write => exact stray

omit h in
theorem portAccess_withholds {d : Domain} {offset size : Nat} {op : PortOp}
    (h : exec (.portAccess d offset size op) s = .next t) : Withholds s t := by
  have h0 := Withholds.refl s
  simp only [exec, execPortAccess] at h
  (repeat' split at h) <;> cases h
  · exact h0.returnData d _
  · exact h0
  · exact h0.access d offset size op
  · exact h0

omit h in
theorem boardInitialisationComplete_withholds {d : Domain} (h : exec (.boardInitialisationComplete d) s = .next t) :
    Withholds s t := by
  simp only [exec, execBoardInitialisationComplete] at h
  split at h <;> cases h
  · exact Withholds.refl s
  · exact (Withholds.refl s).finishInit d

theorem Withholds.tellDelivered (e : Entry) : Withholds s (t.tellDelivered e) := by
  cases e with
  | message m =>
    refine Withholds.ite (fun _ => ?_) fun _ => h
    unfold State.requestDelivered
    (repeat' split) <;> exact h.same (by simp [SameInputs])
  | reply | cell => exact h
  | conclusion i => exact h.same (by simp [SameInputs, State.tellDelivered])

theorem Withholds.deliver (l : Lane) (e : Entry) (slot : Nat) : Withholds s (t.deliver l e slot) := by
  have written (bytes : List Byte) : Withholds s (t.writeWindow l.domain (l.inSlot slot) bytes) := h.updDom _ _
  refine Withholds.tellDelivered (Withholds.raise (Withholds.removeAt (Withholds.updLane (written _) fun _ => ?_) l 0) _ _) e
  rfl

omit h in
theorem delivery_withholds {l : Lane} (h : exec (.delivery l) s = .next t) : Withholds s t := by
  have h0 := Withholds.refl s
  simp only [exec, execDelivery] at h
  (repeat' split at h) <;> cases h
  · exact h0
  · exact h0
  · exact h0.updLane fun _ => by rfl
  · exact h0.deliver l _ _

omit h in
theorem drop_withholds {l : Lane} {place : Nat}
    (h : exec (.holdLimitDrop l place) s = .next t ∨ exec (.eventCellDrop l place) s = .next t) : Withholds s t := by
  have removed := (Withholds.refl s).removeAt l place
  simp only [exec, execHoldLimitDrop, execEventCellDrop] at h
  rcases h with h | h <;> split at h <;> cases h
  · exact removed.same (by simp [SameInputs])
  · exact Withholds.refl s
  · exact removed.same (by simp [SameInputs])
  · exact Withholds.refl s

/-! ## The hub service -/

theorem Withholds.hubTake (m : Message) : Withholds s (t.hubTake m) := h.same (by simp [SameInputs])

theorem Withholds.addOutstanding (job : Job) (m : Message) : Withholds s (t.addOutstanding job m) := h.same (by simp [SameInputs])

omit h in
/-- A request whose execution withholds inputs is served so. -/
theorem Withholds.serve {q : HubRequest} (run : ∀ u m, Withholds s u → Withholds s (q.run u m)) : Withholds s (q.serve s) := by
  have taken (m : Message) : Withholds s (s.hubTake m) := (Withholds.refl s).hubTake m
  exact serve_induction (Withholds.refl s)
    (fun m _ _ _ => (Withholds.ite (fun _ => (taken m).violate _) fun _ => taken m).complete _ _) fun m _ _ => run _ m (taken m)

omit h in
theorem unknownRequestCode_withholds (h : exec .unknownRequestCode s = .next t) : Withholds s t := by
  simp only [exec, execUnknownRequestCode] at h
  (repeat' split at h) <;> cases h
  · exact Withholds.refl s
  · exact ((Withholds.refl s).hubTake _).complete _ _
  · exact Withholds.refl s

/-- The hub leaves LOCKDOWN, or does not enter it. -/
theorem Withholds.setMode {m : HubMode} (hm : m ≠ .lockdown) : Withholds s (t.setMode m) :=
  h.same ⟨by simp [State.setMode], by simp [State.setMode], by simp [State.setMode], by simpa [State.setMode, hm] using .inl⟩

theorem Withholds.installRoutes (table : List Route) : Withholds s (t.installRoutes table) := by
  have installed : Withholds s { t with routes := table, hub := { t.hub with routesLoaded := true } } :=
    h.same (by simp [SameInputs])
  exact Withholds.ite (fun _ => installed.setMode (m := .openMode) nofun) fun _ => installed

omit h in
theorem loadRoutesCompletion_withholds (h : exec .loadRoutesCompletion s = .next t) : Withholds s t := by
  have ended : Withholds s { s with hub := { s.hub with loading := none } } := (Withholds.refl s).same (by simp [SameInputs])
  simp only [exec, execLoadRoutesCompletion] at h
  split at h
  · cases h; exact Withholds.refl s
  · split at h <;> cases h
    · exact (ended.installRoutes _).completeJobs _ _ _
    · exact ended.completeJobs _ _ _

/-- RESTART HUB empties the FIFOs, leaves LOCKDOWN and makes the default table active, which has no capture pane (R104, R126). -/
theorem Withholds.clearHub : Withholds s t.clearHub := by
  have mode : t.clearHub.hub.mode = .boot := by simp [clearHub_eq, State.inputsRestarted, State.emptied, State.dropExchanges, Hub.reset]
  have capture : t.clearHub.panel.active.hasCapture = false := by rw [clearHub_panel]; rfl
  refine h.trans ⟨fun x => ?_, fun _ toPay => ?_⟩
  · simp [State.inputCells, clearHub_eq, State.inputsRestarted, State.setActive]
  · simp [mode, capture] at toPay

/-! ## Lines and the panel path -/

theorem Withholds.setLine (n : Fin 12) (r : Line) : Withholds s (t.setLine n r) := h.same (by simp [SameInputs])

/-- A LINE event is no TOUCH or KEY event. -/
theorem Withholds.tellOwner (n : Fin 12) (level : Bool) : Withholds s (t.tellOwner n level) := by
  unfold State.tellOwner
  dsimp only
  (repeat' split) <;> exact h.same (by simp [SameInputs])

theorem Withholds.filteredChange (n : Fin 12) (level : Bool) : Withholds s (t.filteredChange n level) :=
  ((h.setLine _ _).tellOwner _ _).evaluateMismatch _ _

theorem Withholds.settle (n : Fin 12) (level : Bool) : Withholds s (t.settle n level) := (h.setLine _ _).evaluateMismatch _ _

theorem Withholds.sampleLine (levels : BitVec 12) (n : Fin 12) : Withholds s (State.sampleLine levels t n) := by
  unfold State.sampleLine
  dsimp only
  split
  · exact h
  · exact h.setLine _ _
  · exact Withholds.ite (fun _ => h.setLine _ _) fun _ => Withholds.ite (fun _ => h.setLine _ _) fun _ => h.settle _ _
  · exact Withholds.ite (fun _ => h.setLine _ _) fun _ => Withholds.ite (fun _ => h.setLine _ _) fun _ => h.filteredChange _ _

omit h in
theorem lineCommand_withholds (h : (∃ levels, exec (.lineSample levels) s = .next t)
    ∨ ∃ n, exec (.filteredChange n) s = .next t ∨ exec (.settlingEnd n) s = .next t) : Withholds s t := by
  have h0 := Withholds.refl s
  rcases h with ⟨levels, h⟩ | ⟨n, h | h⟩
  · simp only [exec, execLineSample] at h
    split at h
    · cases h; exact h0
    · rw [← Host.Outcome.next.inj h]; exact h0.foldl (fun u n => (Withholds.refl u).sampleLine levels n) _
  · simp only [exec, execFilteredChange] at h
    split at h <;> cases h
    · exact h0.filteredChange n _
    all_goals exact h0
  · simp only [exec, execSettlingEnd] at h
    split at h <;> cases h
    · exact h0.settle n _
    all_goals exact h0

/-- The panel path's own records, but for the active table. -/
theorem Withholds.panel {p : Panel} (hp : p.active = t.panel.active) : Withholds s { t with panel := p } :=
  h.same (by simp [SameInputs, hp])

/-- The touch router's own records, but for the contacts. -/
theorem Withholds.touch {x : Touch} (hx : x.contacts = t.touch.contacts) : Withholds s { t with touch := x } :=
  h.same ⟨by simp, fun i => by simp [State.contact, hx], by simp, by simp⟩

theorem Withholds.setFrameMode (m : FrameMode) : Withholds s (t.setFrameMode m) :=
  Withholds.evaluate (h.same (by simp [SameInputs]))

theorem Withholds.outputRest : Withholds s t.beginPanelEvent.outputRest := h.same (by simp [SameInputs])

theorem Withholds.outputSlot (row : Option (List Pixel)) : Withholds s (t.beginPanelEvent.outputSlot row) :=
  h.same (by simp [SameInputs])

omit h in
theorem panelCommand_withholds {c : Instr} (hc : c ∈ [.appFrameStart, .videoLoss, .freeRunRowSlot, .freeRunFrameEnd])
    (h : exec c s = .next t) : Withholds s t := by
  have h0 := Withholds.refl s
  have begun : Withholds s s.beginPanelEvent := h0.panel rfl
  fin_cases hc <;> dsimp only [exec] at h
  · simp only [execAppFrameStart] at h
    (repeat' split at h) <;> cases h
    · exact h0
    · exact Withholds.frameStart (h0.outputRest.panel rfl)
    · exact Withholds.frameStart ((begun.setFrameMode _).panel rfl)
  · cases h
    exact Withholds.ite (fun _ => (h0.outputRest.setFrameMode _).frameStart.panel rfl) fun _ => h0
  · cases h
    exact Withholds.ite (fun _ => h0.outputSlot none) fun _ => h0
  · cases h
    exact Withholds.ite (fun _ => begun.frameStart.panel rfl) fun _ => h0

omit h in
theorem appInputRow_withholds {pixels : List Pixel} (h : exec (.appInputRow pixels) s = .next t) : Withholds s t := by
  have h0 := Withholds.refl s
  simp only [exec, execAppInputRow] at h
  (repeat' split at h) <;> cases h
  · exact h0
  · exact h0
  · exact h0.outputSlot _
  · exact h0

end

/-! ## Resets -/

/-- A reset empties the FIFOs, and ends in BOOT with no capture pane (R3, R121). -/
theorem inResetWith_withholds (s : State) (a p r : Memory) (now : Nat) : Withholds s (s.inResetWith a p r now) where
  cells x := by simp [State.inputCells, State.inResetWith, State.lane, LaneState.reset]
  inputs _ toPay := by simp [State.inResetWith, Panel.reset, Hub.reset, PaneTable.hasCapture, defaultTable] at toPay

/-- The end of a reset leaves the default table, which has no capture pane, and no contact (R121, R138). -/
theorem resetEnd_withholds {low : Bool} (h : exec (.resetEnd low) s = .next t) : Withholds s t := by
  dsimp only [exec] at h
  unfold execResetEnd at h
  split at h
  · have running : Withholds s { s with inReset := false } := (Withholds.refl s).same (by simp [SameInputs])
    have started : Withholds s (((({ s with inReset := false } : State).startInit .app).startInit .pay).startInit .rad) :=
      ((running.startInit .app).startInit .pay).startInit .rad
    rw [← Host.Outcome.next.inj h]
    refine started.trans ⟨fun x => by simp [State.inputCells], fun hu toPay => ?_⟩
    have mode : s.hub.mode = .lockdown := by
      simpa [Panel.reset, PaneTable.hasCapture, defaultTable] using toPay
    obtain ⟨-, keys⟩ := hu (by simp [mode])
    exact ⟨fun i c l hc => by simp [State.contact, Touch.reset] at hc, fun k l hl => keys k l (by simpa using hl)⟩
  · cases h; exact Withholds.refl s

end
end Sys2Proof.Machine

/-! PROOFS. Reports and sensings hand the inputs that are withheld to PAY, and every command withholds inputs (O54, O55). -/

namespace Sys2Proof

/-- The commands that give contacts and keys owners and events: a read of the touch link that ends, and the sensings. -/
def Instr.sensesInput : Instr → Bool
  | .touchReadCompletion _ _ | .keySense _ | .keyChangeAccepted _ => true
  | _ => false

end Sys2Proof

namespace Sys2Proof.Machine

open scoped List

section
variable {s t u : State}

/-! ## Owners of contacts and keys -/

/-- What the producing of an event for an owner leaves as it was. -/
@[simp] theorem produce_frame (s : State) (owner : Option Lane) (e : InputEvent) :
    (∀ i, (s.produce owner e).contact i = s.contact i) ∧ (∀ k, (s.produce owner e).key k = s.key k)
      ∧ (s.produce owner e).panel = s.panel ∧ (s.produce owner e).hub = s.hub ∧ (s.produce owner e).touch = s.touch
      ∧ (∀ d, ((s.produce owner e).dom d).status = (s.dom d).status)
      ∧ ∀ l, ((s.produce owner e).lane l).fenced = (s.lane l).fenced := by
  cases owner <;> simp [State.produce]

theorem placeEvent_lane_ne {l k : Lane} (hk : k ≠ l) (s : State) (e : InputEvent) : (s.placeEvent l e).lane k = s.lane k := by
  unfold State.placeEvent
  (repeat' split) <;> simp [State.countDropped, State.join, State.loseEvent, hk]

/-- A lane may own a contact or key that begins: while new ones belong to PAY, no application lane (R143, R149). -/
def State.MayOwn (s : State) (owner : Option Lane) : Prop := s.inputToPay = true → ∀ l, owner = some l → l.isApp = false

theorem mayOwn_none (s : State) : s.MayOwn none := nofun

theorem mayOwn_contactOwner (s : State) (p : Placement) : s.MayOwn (s.contactOwner p) := fun toPay l hl => by
  rw [State.contactOwner, toPay, Bool.true_or, if_pos rfl] at hl
  rw [← Option.some.inj hl]
  rfl

theorem mayOwn_keyOwner (s : State) : s.MayOwn s.keyOwner := fun toPay l hl => by
  rw [State.keyOwner, if_pos toPay] at hl
  rw [← Option.some.inj hl]
  rfl

theorem InputsWithheld.contact (hs : InputsWithheld s) {i : Fin 2} {c : Contact} (hc : s.contact i = some c) : s.MayOwn c.owner :=
  fun toPay l => (hs toPay).1 i c l hc

theorem InputsWithheld.key (hs : InputsWithheld s) (k : Fin 16) : s.MayOwn (s.key k).owner := fun toPay => (hs toPay).2 k

/-- An event for an owner that is no application lane is none of theirs. -/
theorem produce_inputCells {owner : Option Lane} (h : s.MayOwn owner) (toPay : s.inputToPay = true) (e : InputEvent) (x : Fin 8) :
    (s.produce owner e).inputCells x = s.inputCells x := by
  cases owner with
  | none => rfl
  | some l =>
    have other : Lane.app x ≠ l := fun e => by cases (h toPay l rfl).symm.trans (congrArg Lane.isApp e.symm)
    rw [State.inputCells, State.produce, placeEvent_lane_ne other]
    rfl

/-! ## Reports and sensings -/

/-- A change to contacts and keys under which new ones belong to PAY as before, the inputs that are withheld from the application
lanes stay so, and while they are, none of those lanes is brought an event other than CANCEL. -/
structure HandlesInputs (s t : State) : Prop where
  toPay : t.inputToPay = s.inputToPay
  inputs : InputsWithheld s → InputsWithheld t
  cells : InputsWithheld s → s.inputToPay = true → ∀ x, t.inputCells x <+ s.inputCells x

@[refl] theorem HandlesInputs.refl (s : State) : HandlesInputs s s := ⟨rfl, id, fun _ _ _ => .refl _⟩

@[trans] theorem HandlesInputs.trans (h : HandlesInputs s t) (h' : HandlesInputs t u) : HandlesInputs s u where
  toPay := h'.toPay.trans h.toPay
  inputs := h'.inputs ∘ h.inputs
  cells hs toPay x := (h'.cells (h.inputs hs) (h.toPay.trans toPay) x).trans (h.cells hs toPay x)

theorem HandlesInputs.foldl {α : Type} {f : State → α → State} (hf : ∀ u a, HandlesInputs u (f u a)) (s : State) (xs : List α) :
    HandlesInputs s (xs.foldl f s) := by
  induction xs generalizing s with
  | nil => exact HandlesInputs.refl s
  | cons x xs ih => exact (hf s x).trans (ih (f s x))

theorem Withholds.handles (h : Withholds s t) (toPay : t.inputToPay = s.inputToPay) : HandlesInputs s t :=
  ⟨toPay, h.inputs, fun _ _ => h.cells⟩

/-- An event is produced for the owner of a contact, whose record changes. -/
theorem handles_setContact {owner : Option Lane} (ho : InputsWithheld s → s.MayOwn owner) {c : Option Contact}
    (hc : InputsWithheld s → ∀ q, c = some q → s.MayOwn q.owner) (e : InputEvent) (i : Fin 2) :
    HandlesInputs s ((s.produce owner e).setContact i c) where
  toPay := by simp [State.inputToPay, State.capture]
  inputs hs toPay := by
    have toPay : s.inputToPay = true := by simpa using toPay
    refine ⟨fun j q l hq hl => ?_, fun k l hl => hs.key k toPay l (by simpa using hl)⟩
    rw [State.contact_setContact] at hq
    split at hq
    · exact hc hs q hq toPay l hl
    · exact hs.contact (i := j) (by simpa using hq) toPay l hl
  cells hs toPay x := (produce_inputCells (ho hs) toPay e x).symm ▸ .refl _

/-- An event is produced for the owner of a key, whose record changes. -/
theorem handles_setKey {owner : Option Lane} (ho : InputsWithheld s → s.MayOwn owner) {r : Key}
    (hr : InputsWithheld s → s.MayOwn r.owner) (e : InputEvent) (k : Fin 16) : HandlesInputs s ((s.produce owner e).setKey k r) where
  toPay := by simp [State.inputToPay, State.capture]
  inputs hs toPay := by
    have toPay : s.inputToPay = true := by simpa using toPay
    refine ⟨fun i c l hc => hs.contact (i := i) (by simpa using hc) toPay l, fun j l hl => ?_⟩
    rw [State.key_setKey] at hl
    split at hl
    · exact hr hs toPay l hl
    · exact hs.key j toPay l (by simpa using hl)
  cells hs toPay x := (produce_inputCells (ho hs) toPay e x).symm ▸ .refl _

/-- A contact that begins has an owner that may have it (R143). -/
theorem beginContact_handles (s : State) (i : Fin 2) (p : Placement) : HandlesInputs s (s.beginContact i p) :=
  handles_setContact (fun _ => mayOwn_contactOwner s p) (fun _ _ hq => Option.some.inj hq ▸ mayOwn_contactOwner s p) _ i

theorem touchContact_handles (s : State) (i : Fin 2) (phase : RawPhase) (p : Placement) :
    HandlesInputs s (s.touchContact i phase p) := by
  unfold State.touchContact
  split
  · exact beginContact_handles s i p
  · exact HandlesInputs.refl s
  · exact HandlesInputs.refl s
  · exact HandlesInputs.refl s
  · next hc => exact (handles_setContact (fun hs => hs.contact hc) (fun _ _ hq => by cases hq) _ i).trans (beginContact_handles _ i p)
  · next hc =>
    refine handles_setContact (fun hs => hs.contact hc) (fun hs _ hq => ?_) _ i
    have owner := hs.contact hc
    cases hq; exact owner
  · next hc => exact handles_setContact (fun hs => hs.contact hc) (fun _ _ hq => by cases hq) _ i
  · exact HandlesInputs.refl s

theorem takeContact_handles (s : State) (c : RawContact) : HandlesInputs s (s.takeContact c) := by
  unfold State.takeContact
  split
  · exact touchContact_handles _ _ _ _
  · exact HandlesInputs.refl s

/-- A key that is pressed has an owner that may have it, and one that is released has none (R149). -/
theorem acceptKey_handles (s : State) (k : Fin 16) : HandlesInputs s (s.acceptKey k) := by
  unfold State.acceptKey
  split
  · exact handles_setKey (fun hs => hs.key k) (fun _ => mayOwn_none s) _ k
  · exact handles_setKey (fun _ => mayOwn_keyOwner s) (fun _ => mayOwn_keyOwner s) _ k

theorem senseKey_handles (down : BitVec 16) (s : State) (k : Fin 16) : HandlesInputs s (State.senseKey down s k) := by
  have timed (timer : Nat) : HandlesInputs s (s.setKey k { s.key k with timer := timer }) :=
    handles_setKey (owner := none) (r := { s.key k with timer := timer }) (fun _ => mayOwn_none s) (fun hs => hs.key k) (.key k .up) k
  unfold State.senseKey
  dsimp only
  split_ifs
  · exact timed _
  · exact timed _
  · exact acceptKey_handles s k

theorem touchReadCompletion_handles {report : Option (List RawContact)} {low : Bool}
    (h : exec (.touchReadCompletion report low) s = .next t) : HandlesInputs s t := by
  have touch (u : State) {x : Touch} (hx : x.contacts = u.touch.contacts) : HandlesInputs u { u with touch := x } :=
    Withholds.handles ((Withholds.refl u).touch hx) rfl
  have counted : Withholds s (s.updLane .pay fun r => { r with inputLost := bump r.inputLost }) :=
    (Withholds.refl s).updLane fun _ => rfl
  have dropped : HandlesInputs s s.dropReport :=
    (counted.raise .pay .inputLost).handles (by simp [State.inputToPay, State.capture])
  simp only [exec, execTouchReadCompletion] at h
  split at h <;> cases h
  · exact HandlesInputs.refl s
  · exact touch s rfl
  · exact dropped.trans (touch _ rfl)
  all_goals exact (HandlesInputs.foldl takeContact_handles s _).trans (touch _ rfl)

theorem keyCommand_handles (h : (∃ down, exec (.keySense down) s = .next t) ∨ ∃ k, exec (.keyChangeAccepted k) s = .next t) :
    HandlesInputs s t := by
  rcases h with ⟨down, h⟩ | ⟨k, h⟩
  · simp only [exec, execKeySense] at h
    split at h <;> cases h
    · exact HandlesInputs.refl s
    · exact HandlesInputs.foldl (senseKey_handles down) s _
  · simp only [exec, execKeyChangeAccepted] at h
    split at h <;> cases h
    · exact acceptKey_handles s k
    · exact HandlesInputs.refl s

/-! ## Commands -/

theorem reportReadyFall_withholds (h : exec .reportReadyFall s = .next t) : Withholds s t := by
  have h0 := Withholds.refl s
  simp only [exec, execReportReadyFall] at h
  (repeat' split at h) <;> cases h
  · exact h0
  all_goals exact h0.touch rfl

theorem handles_of_sensesInput {c : Instr} (hc : c.sensesInput = true) (h : exec c s = .next t) : HandlesInputs s t := by
  cases c
  case touchReadCompletion => exact touchReadCompletion_handles h
  case keySense => exact keyCommand_handles (.inl ⟨_, h⟩)
  case keyChangeAccepted => exact keyCommand_handles (.inr ⟨_, h⟩)
  all_goals cases hc

/-- Every other command brings the application lanes no event but CANCELs and LINE events, and takes their contacts and keys where capture or
LOCKDOWN begins. -/
theorem exec_withholds {c : Instr} (hc : c.sensesInput = false) (h : exec c s = .next t) : Withholds s t := by
  have h0 := Withholds.refl s
  cases c
  case touchReadCompletion | keySense | keyChangeAccepted => cases hc
  case powerOnReset => cases h; exact inResetWith_withholds ..
  case pinReset => cases h; exact inResetWith_withholds ..
  case resetEnd => exact resetEnd_withholds h
  case portAccess => exact portAccess_withholds h
  case attentionLanes d v => cases h; exact Withholds.ite (fun _ => h0.writeAttention d v) fun _ => h0
  case selfAnnouncedRestart d => cases h; exact Withholds.ite (fun _ => h0.selfRestart d) fun _ => h0
  case boardInitialisationComplete => exact boardInitialisationComplete_withholds h
  case acknowledge d v => cases h; exact Withholds.ite (fun _ => h0.clearFlags d v) fun _ => h0
  case identityWrite d _ => cases h; exact Withholds.ite (fun _ => h0.clearStray d) fun _ => h0
  case statusWrite => cases h; exact h0
  case take => exact take_withholds h
  case refill => cases h; exact h0.same (by simp [SameInputs])
  case delivery => exact delivery_withholds h
  case holdLimitDrop => exact drop_withholds (.inl h)
  case eventCellDrop => exact drop_withholds (.inr h)
  case expiry i => cases h; exact Withholds.ite (fun _ => h0.expire i) fun _ => h0
  case unknownRequestCode => exact unknownRequestCode_withholds h
  case loadRoutes =>
    cases h; exact Withholds.serve fun _ m hu => Withholds.addOutstanding (hu.same (by simp [SameInputs])) _ m
  case loadRoutesCompletion => exact loadRoutesCompletion_withholds h
  case setPanes => cases h; exact Withholds.serve fun _ m hu => Withholds.addOutstanding ((hu.panel (by rfl)).completeJobs _ _ _) _ m
  case scrollPane => cases h; exact Withholds.serve fun _ m hu => Withholds.addOutstanding (hu.panel (by rfl)) _ m
  case setCalibration => cases h; exact Withholds.serve fun _ m hu => Withholds.complete (hu.touch (by rfl)) _ _
  case setFocus => cases h; exact Withholds.serve fun _ m hu => Withholds.complete (hu.touch (by rfl)) _ _
  case setLineMap => cases h; exact Withholds.serve fun _ m hu => ((hu.setLine _ _).evaluateMismatch _ _).complete _ _
  case setCombiner =>
    cases h; exact Withholds.serve fun _ m hu => Withholds.complete (Withholds.evaluate (hu.same (by simp [SameInputs]))) _ _
  case driveLine => cases h; exact Withholds.serve fun _ m hu => (hu.setLine _ _).complete _ _
  case driveLinePulse => cases h; exact Withholds.serve fun _ m hu => (hu.setLine _ _).complete _ _
  case pulseEnd n => cases h; exact Withholds.ite (fun _ => h0.setLine _ _) fun _ => h0
  case setNotices => cases h; exact Withholds.serve fun _ m hu => Withholds.complete (hu.updDom _ _) _ _
  case domainResetHold => cases h; exact Withholds.serve fun _ m hu => (hu.hold _).complete _ _
  case domainResetRelease =>
    cases h; exact Withholds.serve fun _ m hu => ((hu.releaseDomain _).completeJobs _ _ _).complete _ _
  case domainResetPulse =>
    cases h; exact Withholds.serve fun _ m hu => Withholds.addOutstanding (Withholds.updDom (hu.holdDomain _) _ _) _ m
  case pulseRelease d => cases h; exact Withholds.ite (fun _ => (h0.releaseDomain d).completeJobs _ _ _) fun _ => h0
  case fenceLane =>
    cases h; exact Withholds.serve fun _ m hu => (Withholds.ite (fun _ => hu) fun _ => hu.fenceLane _).complete _ _
  case restoreLane => cases h; exact Withholds.serve fun _ m hu => (hu.restore _).complete _ _
  case setViolationLimit => cases h; exact Withholds.serve fun _ m hu => (hu.updLane fun _ => by rfl).complete _ _
  case readCounters => cases h; exact Withholds.serve fun _ m hu => (hu.updLane fun _ => by rfl).complete _ _
  case status => cases h; exact Withholds.serve fun _ m hu => hu.complete _ _
  case resume => cases h; exact Withholds.serve fun _ m hu => Withholds.complete (hu.setMode (by split <;> simp)) _ _
  case restartHub =>
    cases h
    exact Withholds.serve fun _ m hu => hu.clearHub.evaluate.same (by simp [SameInputs, restartHubRequest, State.placeReply])
  case appFrameStart => exact panelCommand_withholds (by decide) h
  case appInputRow => exact appInputRow_withholds h
  case videoLoss => exact panelCommand_withholds (by decide) h
  case freeRunRowSlot => exact panelCommand_withholds (by decide) h
  case freeRunFrameEnd => exact panelCommand_withholds (by decide) h
  case reportReadyFall => exact reportReadyFall_withholds h
  case lineSample => exact lineCommand_withholds (.inl ⟨_, h⟩)
  case filteredChange => exact lineCommand_withholds (.inr ⟨_, .inl h⟩)
  case settlingEnd => exact lineCommand_withholds (.inr ⟨_, .inr h⟩)

theorem exec_inputsWithheld {c : Instr} (hs : InputsWithheld s) (h : exec c s = .next t) : InputsWithheld t := by
  cases hc : c.sensesInput with
  | false => exact (exec_withholds hc h).inputs hs
  | true => exact (handles_of_sensesInput hc h).inputs hs

theorem exec_inputCells {c : Instr} (hs : InputsWithheld s) (toPay : s.inputToPay = true) (h : exec c s = .next t) (x : Fin 8) :
    t.inputCells x <+ s.inputCells x := by
  cases hc : c.sensesInput with
  | false => exact (exec_withholds hc h).cells x
  | true => exact (handles_of_sensesInput hc h).cells hs toPay x

end

/-- Settles O54: where capture or LOCKDOWN begins the application lanes lose their contacts and keys (`Withholds.frameStart`,
`Withholds.enterLockdown`), and while either lasts, those that begin have PAY for owner (`handles_of_sensesInput`). -/
theorem inputsWithheldKept : Obligations.InputsWithheldKept := by
  unfold Obligations.InputsWithheldKept
  exact kept_of_exec (fun _ _ hs => hs) (fun _ hs => hs) fun _ _ _ => exec_inputsWithheld

/-- Settles O55: only the reports of the touch link and the sensings place TOUCH and KEY events other than CANCEL (`exec_withholds`), and
while capture is active they have none for an application lane (`produce_inputCells`). -/
theorem captureBlocksInput : Obligations.CaptureBlocksInput := by
  unfold Obligations.CaptureBlocksInput
  intro c s t x hs capture h place hplace
  have inputs : place = Entry.isInput := funext fun e => by
    rw [hplace]
    rcases e with _ | _ | ⟨_ | _ | _, _⟩ | _ <;> rfl
  rw [inputs]
  exact exec_inputCells hs (by rw [State.inputToPay, capture, Bool.true_or]) h x

end Sys2Proof.Machine

/-! PROOFS. The owners of contacts and keys, the calibration of a raw contact, and the sensing of the keys (O45, O46). -/

namespace Sys2Proof.Machine

section
variable {s t : State}

/-! ## Folds -/

/-- Two operations that agree where an invariant stands, which one of them keeps, do the same over a list. -/
theorem foldl_eq_of_invariant {α : Type} {P : State → Prop} {f g : State → α → State} (same : ∀ u a, P u → f u a = g u a)
    (keeps : ∀ u a, P u → P (g u a)) (hs : P s) (xs : List α) : xs.foldl f s = xs.foldl g s ∧ P (xs.foldl g s) := by
  induction xs generalizing s with
  | nil => exact ⟨rfl, hs⟩
  | cons x xs ih => rw [List.foldl_cons, List.foldl_cons, same s x hs]; exact ih (keeps s x hs)

/-! ## Owners -/

theorem focusOwner_eq (s : State) : s.focusOwner =
    if s.app.status = .up ∧ (s.lane (.app s.touch.focus)).fenced = false then some (.app s.touch.focus) else none :=
  if_congr (by simp only [State.isUp, Bool.and_eq_true, decide_eq_true_eq, Bool.not_eq_true']; rfl) rfl rfl

theorem keyOwner_eq (s : State) : s.keyOwner = if s.capture = true ∨ s.hub.mode = .lockdown then some .pay
    else if s.app.status = .up ∧ (s.lane (.app s.touch.focus)).fenced = false then some (.app s.touch.focus) else none := by
  simp [State.keyOwner, State.inputToPay, focusOwner_eq]

theorem contactOwner_eq (s : State) (p : Placement) : s.contactOwner p =
    if s.capture = true ∨ s.hub.mode = .lockdown ∨ (∃ q, s.panel.active.panes[p.pane]? = some q ∧ q.ownerPay = true) then some .pay
    else if s.app.status = .up ∧ (s.lane (.app s.touch.focus)).fenced = false then some (.app s.touch.focus) else none := by
  simp [State.contactOwner, State.inputToPay, State.placedOnPay, Option.any_eq_true, focusOwner_eq, or_assoc]

/-- What the owners of new contacts and keys stand on is the same (R143, R149). -/
def SameOwners (s t : State) : Prop :=
  t.panel = s.panel ∧ t.hub = s.hub ∧ t.touch.focus = s.touch.focus ∧ (t.dom .app).status = (s.dom .app).status
    ∧ ∀ l, (t.lane l).fenced = (s.lane l).fenced

theorem focusOwner_congr (h : SameOwners s t) : t.focusOwner = s.focusOwner := by
  obtain ⟨-, -, focus, status, fenced⟩ := h
  rw [State.focusOwner, State.focusOwner, focus]
  exact if_congr (by rw [State.isUp, State.isUp, status, fenced]) rfl rfl

theorem keyOwner_congr (h : SameOwners s t) : t.keyOwner = s.keyOwner := by
  obtain ⟨panel, hub, -⟩ := id h
  rw [State.keyOwner, State.keyOwner, focusOwner_congr h]
  exact if_congr (by rw [State.inputToPay, State.inputToPay, State.capture, State.capture, panel, hub]) rfl rfl

theorem contactOwner_congr (h : SameOwners s t) (p : Placement) : t.contactOwner p = s.contactOwner p := by
  obtain ⟨panel, hub, -⟩ := id h
  rw [State.contactOwner, State.contactOwner, focusOwner_congr h]
  refine if_congr ?_ rfl rfl
  rw [State.inputToPay, State.inputToPay, State.capture, State.capture, State.placedOnPay, State.placedOnPay, panel, hub]

/-- A function that produces an event for an owner, where there is one, is `State.produce`. -/
theorem tell_eq_produce {tell : State → Option Lane → InputEvent → State} (silent : ∀ q e, tell q none e = q)
    (placed : ∀ q l e, tell q (some l) e = q.placeEvent l e) : tell = State.produce := by
  funext q owner e
  cases owner with
  | none => exact silent q e
  | some l => exact placed q l e

/-! ## The sensing of a key -/

/-- The record that a sensing makes of a key, with the owner that a press has (R148, R149). -/
def Key.sensed (own : Option Lane) (down : Bool) (r : Key) : Key :=
  if down = r.pressed then { r with timer := 0 }
  else if r.timer + 1 < 20 then { r with timer := r.timer + 1 }
  else ⟨down, 0, if down then own else none⟩

theorem acceptKey_key (s : State) (k j : Fin 16) : (s.acceptKey k).key j =
    if j = k then (if (s.key k).pressed then ⟨false, 0, none⟩ else ⟨true, 0, s.keyOwner⟩) else s.key j := by
  unfold State.acceptKey
  split <;> simp

theorem senseKey_key (down : BitVec 16) (s : State) (k j : Fin 16) : (State.senseKey down s k).key j =
    if j = k then (s.key k).sensed s.keyOwner (down.getLsbD k.val) else s.key j := by
  unfold State.senseKey Key.sensed
  generalize down.getLsbD k.val = d
  dsimp only
  by_cases same : d = (s.key k).pressed
  · simp [same]
  by_cases early : (s.key k).timer + 1 < 20
  · simp [same, early]
  rw [if_neg same, if_neg early, if_neg same, if_neg early, acceptKey_key]
  cases hp : (s.key k).pressed <;> simp_all

theorem senseKey_sameOwners (down : BitVec 16) (s : State) (k : Fin 16) : SameOwners s (State.senseKey down s k) := by
  simp only [SameOwners, State.senseKey, State.acceptKey]
  (repeat' split) <;> simp

theorem senseKey_keyOwner (down : BitVec 16) (s : State) (k : Fin 16) : (State.senseKey down s k).keyOwner = s.keyOwner :=
  keyOwner_congr (senseKey_sameOwners down s k)

/-- Each key's record after a sensing of distinct keys. -/
theorem foldl_senseKey_key (down : BitVec 16) {xs : List (Fin 16)} (hx : xs.Nodup) (s : State) (j : Fin 16) :
    (xs.foldl (State.senseKey down) s).key j =
      if j ∈ xs then (s.key j).sensed s.keyOwner (down.getLsbD j.val) else s.key j := by
  induction xs generalizing s with
  | nil => rfl
  | cons k xs ih =>
    obtain ⟨hk, hx⟩ := List.nodup_cons.1 hx
    rw [List.foldl_cons, ih hx, senseKey_key, senseKey_keyOwner]
    by_cases e : j = k
    · subst e; simp [hk]
    · simp [e]

/-- Where no change is accepted, a sensing changes key records alone. -/
theorem foldl_senseKey_of_none {down : BitVec 16} {xs : List (Fin 16)} (hx : xs.Nodup) {s : State}
    (h : ∀ k ∈ xs, down.getLsbD k.val ≠ (s.key k).pressed → (s.key k).timer + 1 < 20) :
    xs.foldl (State.senseKey down) s = { s with keys := (xs.foldl (State.senseKey down) s).keys } := by
  induction xs generalizing s with
  | nil => rfl
  | cons k xs ih =>
    obtain ⟨hk, hx⟩ := List.nodup_cons.1 hx
    have first : State.senseKey down s k = { s with keys := (State.senseKey down s k).keys } := by
      unfold State.senseKey
      dsimp only
      split_ifs with same early
      · rfl
      · rfl
      · exact absurd (h k (List.mem_cons_self ..) same) early
    have rest := ih (s := State.senseKey down s k) hx fun j hj => by
      have e : j ≠ k := fun e => hk (e ▸ hj)
      rw [senseKey_key, if_neg e]
      exact h j (List.mem_cons_of_mem _ hj)
    have others (K) : ({ State.senseKey down s k with keys := K } : State) = { s with keys := K } := by rw [first]
    exact rest.trans (others _)

/-- The sensing at which a key's timer stands at 19 accepts its change (R149). -/
theorem exec_keyChangeAccepted {k : Fin 16} (hr : s.inReset = false) (ht : (s.key k).timer = 19) :
    exec (.keyChangeAccepted k) s = .next (s.acceptKey k) := by
  simp [exec, execKeyChangeAccepted, hr, ht, Config.keySenses]

theorem exec_keySense (hr : s.inReset = false) (down : BitVec 16) :
    exec (.keySense down) s = .next ((List.finRange 16).foldl (State.senseKey down) s) := by
  simp [exec, execKeySense, hr]

end

/-- Settles O46: the owner of a press is the same throughout a sensing (`senseKey_keyOwner`), so that its shares are those of
`State.senseKey`, of which each sees its own key alone (`foldl_senseKey_key`). -/
theorem keysSensed : Obligations.KeysSensed := by
  unfold Obligations.KeysSensed
  intro s down own tell accept share hr hown silent placed haccept hshare
  obtain rfl := tell_eq_produce silent placed
  rw [← keyOwner_eq] at hown
  have accepts (q : State) (k : Fin 16) (hq : q.keyOwner = own) : accept q k = q.acceptKey k := by
    rw [haccept, State.acceptKey, hq]
  have shares (q : State) (k : Fin 16) (hq : q.keyOwner = own) : share q k = State.senseKey down q k := by
    rw [hshare, accepts q k hq]; rfl
  have fold := (foldl_eq_of_invariant (P := fun q => q.keyOwner = own) shares
    (fun q k hq => (senseKey_keyOwner down q k).trans hq) hown.symm (List.finRange 16)).1
  refine ⟨⟨_, exec_keySense hr down, fold.symm, fun k => ?_, fun early => ?_⟩, fun k ht => ?_⟩
  · rw [foldl_senseKey_key down (List.nodup_finRange 16), if_pos (List.mem_finRange k), hown]
    rfl
  · exact foldl_senseKey_of_none (List.nodup_finRange 16) fun k _ => early k
  · rw [exec_keyChangeAccepted hr ht, accepts s k hown.symm]

/-! ## Calibration -/

section
variable {c : Calibration} (rawX rawY : Nat)

/-- A clamped value lies at its range's end or below (R141). -/
theorem clampTo_le {lo hi : Nat} (h : lo ≤ hi) (v : Nat) : clampTo lo hi v ≤ hi := max_le h (min_le_right ..)

/-- A flip leaves a value within its range. -/
theorem flip_le (last : Nat) (flip : Bool) {v : Nat} (h : v ≤ last) : (if flip then last - v else v) ≤ last := by
  split
  · exact Nat.sub_le ..
  · exact h

theorem calibrated_x_le (h : c.xmin < c.xmax) : c.x rawX rawY ≤ 239 :=
  flip_le 239 _ (scale_le _ _ _ _ h (clampTo_le h.le _))

theorem calibrated_y_le (h : c.ymin < c.ymax) : c.y rawX rawY ≤ 319 :=
  flip_le 319 _ (scale_le _ _ _ _ h (clampTo_le h.le _))

end

/-- Settles O45: the four equations are the calibration as it is written, and a scaled value, flipped or not, stays within the
panel (`calibrated_x_le`, `calibrated_y_le`). -/
theorem calibratedCoordinates : Obligations.CalibratedCoordinates := by
  unfold Obligations.CalibratedCoordinates
  rintro c rawX rawY _ _ hx hy rfl rfl
  refine ⟨fun flip => ?_, fun flip => ?_, fun flip => ?_, fun flip => ?_, calibrated_x_le rawX rawY hx, calibrated_y_le rawX rawY hy⟩
  all_goals simp only [Calibration.x, Calibration.y, flip]; rfl

end Sys2Proof.Machine

/-! PROOFS. The touch link, what a contact of a report does, and where a raw contact is placed (O44). -/

namespace Sys2Proof.Machine

section
variable (s : State) (i : Fin 2) (p : Placement)

/-! ## Events and contacts -/

/-- The placing of an event does not look at the touch records. -/
theorem placeEvent_touch (t : Touch) (l : Lane) (e : InputEvent) :
    ({ s with touch := t } : State).placeEvent l e = { s.placeEvent l e with touch := t } := by
  have fenced : (({ s with touch := t } : State).lane l).fenced = (s.lane l).fenced := rfl
  unfold State.placeEvent
  rw [fenced]
  split
  · rfl
  have shut : ({ s with touch := t } : State).shutOut l = s.shutOut l := rfl
  rw [shut]
  split
  · rfl
  have fifo : (({ s with touch := t } : State).lane l).fifo = (s.lane l).fifo := rfl
  rw [fifo]
  split
  · rfl
  have cells : ({ s with touch := t } : State).cellsUsed = s.cellsUsed := rfl
  rw [cells]
  split
  · rfl
  · cases l <;> rfl

theorem produce_setContact (c : Option Contact) (owner : Option Lane) (e : InputEvent) :
    (s.setContact i c).produce owner e = (s.produce owner e).setContact i c := by
  obtain ⟨-, -, -, -, touch, -⟩ := produce_frame s owner e
  rw [State.setContact, State.setContact, touch]
  cases owner with
  | none => rfl
  | some l => exact placeEvent_touch s _ l e

theorem setContact_setContact (c d : Option Contact) : (s.setContact i c).setContact i d = s.setContact i d := by
  simp [State.setContact, Vector.set_set]

theorem beginContact_eq {own : Option Lane} (h : s.contactOwner p = own) :
    s.beginContact i p = (s.produce own (.touch i .down p)).setContact i (some ⟨own, p⟩) := by rw [State.beginContact, h]

/-- A DOWN of an active contact cancels it first; that its record was cleared in between does not show. -/
theorem touchContact_again {c : Contact} (hc : s.contact i = some c) {own : Option Lane} (h : s.contactOwner p = own) :
    s.touchContact i .down p =
      ((s.produce c.owner (.touch i .cancel c.place)).produce own (.touch i .down p)).setContact i (some ⟨own, p⟩) := by
  have same : SameOwners s ((s.produce c.owner (.touch i .cancel c.place)).setContact i none) := by simp [SameOwners]
  unfold State.touchContact
  rw [hc]
  dsimp only
  rw [beginContact_eq _ i p ((contactOwner_congr same p).trans h), produce_setContact, setContact_setContact]

/-! ## Reports -/

/-- The placement of raw contacts and the read-pending mark stand as in `s` (R139). -/
def SamePlacing (t : State) : Prop :=
  t.panel = s.panel ∧ t.touch.calibration = s.touch.calibration ∧ t.touch.readPending = s.touch.readPending

variable {s}

theorem SamePlacing.placementOf {t : State} (h : SamePlacing s t) (x y : Nat) : t.placementOf x y = s.placementOf x y := by
  obtain ⟨panel, calibration, -⟩ := h
  rw [State.placementOf, State.placementOf, panel, calibration]

theorem SamePlacing.touchContact {t : State} (h : SamePlacing s t) (phase : RawPhase) : SamePlacing s (t.touchContact i phase p) := by
  obtain ⟨panel, calibration, pending⟩ := h
  unfold State.touchContact
  split <;> simp [SamePlacing, State.beginContact, panel, calibration, pending]

/-- A taken report's contacts are placed by the state that took it, and the read-pending mark is as it was (R139). -/
theorem takeReport_eq (report : List RawContact) :
    s.takeReport report = (report.take 2).foldl (fun q c => if h : c.id < 2 then
        q.touchContact ⟨c.id, h⟩ c.phase (s.placementOf c.x c.y) else q) s
      ∧ (s.takeReport report).touch.readPending = s.touch.readPending := by
  have fold := foldl_eq_of_invariant (P := SamePlacing s) (f := State.takeContact)
    (g := fun q c => if h : c.id < 2 then q.touchContact ⟨c.id, h⟩ c.phase (s.placementOf c.x c.y) else q)
    (fun u c h => by simp only [State.takeContact, h.placementOf])
    (fun u c h => by
      split
      · exact h.touchContact _ _ _
      · exact h)
    ⟨rfl, rfl, rfl⟩ (report.take 2)
  obtain ⟨eq, -, -, pending⟩ := fold
  exact ⟨eq, by rw [State.takeReport, eq, pending]⟩

/-! ## The touch link -/

theorem exec_reportReadyFall_idle (hr : s.inReset = false) (hl : s.touch.link = .idle) :
    exec .reportReadyFall s = .next { s with touch := { s.touch with link := .reading } } := by
  simp [exec, execReportReadyFall, hr, hl]

theorem exec_reportReadyFall_read (hr : s.inReset = false) (hl : s.touch.link ≠ .idle) :
    exec .reportReadyFall s = .next { s with touch := { s.touch with readPending := true } } := by
  cases link : s.touch.link with
  | idle => exact absurd link hl
  | reading | retrying => simp [exec, execReportReadyFall, hr, link]

theorem exec_touchReadCompletion_retry (hl : s.touch.link = .reading) (low : Bool) :
    exec (.touchReadCompletion none low) s = .next { s with touch := { s.touch with link := .retrying } } := by
  simp [exec, execTouchReadCompletion, hl]

theorem exec_touchReadCompletion_drop (hl : s.touch.link = .retrying) (low : Bool) :
    exec (.touchReadCompletion none low) s = .next (s.dropReport.endRead low) := by
  simp [exec, execTouchReadCompletion, hl]

theorem exec_touchReadCompletion_take (hl : s.touch.link ≠ .idle) (report : List RawContact) (low : Bool) :
    exec (.touchReadCompletion (some report) low) s = .next ((s.takeReport report).endRead low) := by
  cases link : s.touch.link with
  | idle => exact absurd link hl
  | reading | retrying => simp [exec, execTouchReadCompletion, link]

/-! ## Placement -/

/-- A raw contact whose calibrated y is a row of a pane is placed there (R142). -/
theorem placementOf_eq {rawX rawY k row : Nat} {q : Pane} (hq : s.panel.active.panes[k]? = some q)
    (hy : s.touch.calibration.y rawX rawY = ((s.panel.active.panes.take k).map Pane.height).sum + row) (hrow : row < q.height) :
    s.placementOf rawX rawY =
      { x := s.touch.calibration.x rawX rawY, y := s.touch.calibration.y rawX rawY, pane := k, row := row
        storeLine := if q.source = .secure then q.storeLine row else 0, stored := decide (q.source = .secure) } := by
  have located := findPane_of_getElem? hq hrow 0
  rw [← hy, Nat.zero_add] at located
  rw [State.placementOf, PaneTable.place, located]
  by_cases secure : q.source = .secure <;> simp [secure]

end

/-- Settles O44: the state that takes a report places its contacts throughout (`takeReport_eq`), the owner of a contact that
begins is `State.contactOwner` (`contactOwner_eq`), and the pane of a calibrated row is the one found there
(`placementOf_eq`). -/
theorem touchRouted : Obligations.TouchRouted := by
  unfold Obligations.TouchRouted
  refine ⟨fun s report low => ⟨exec_reportReadyFall_idle, exec_reportReadyFall_read,
    fun hl => exec_touchReadCompletion_retry hl low, fun hl => ?dropped, fun hl => ?taken⟩, ?contacts,
    fun s rawX rawY k i p => placementOf_eq⟩
  case dropped =>
    have touch : s.dropReport.touch = s.touch := by simp [State.dropReport]
    refine ⟨s.dropReport, rfl, ?_⟩
    rw [exec_touchReadCompletion_drop hl, State.endRead, touch]
  case taken =>
    obtain ⟨eq, pending⟩ := takeReport_eq (s := s) report
    refine ⟨s.takeReport report, eq, ?_⟩
    rw [exec_touchReadCompletion_take hl, State.endRead, pending]
  case contacts =>
    intro s i p own hown tell silent placed
    rw [← contactOwner_eq] at hown
    have produced (q : State) (owner : Option Lane) (phase : TouchPhase) (place : Placement) :
        tell q owner phase place = q.produce owner (.touch i phase place) := by
      cases owner with
      | none => exact silent ..
      | some l => exact placed ..
    simp only [produced]
    refine ⟨fun hc => ?_, fun phase hc hphase => ?_, fun c hc => ⟨?_, ?_, touchContact_again s i p hc hown.symm, ?_⟩⟩
    all_goals unfold State.touchContact; rw [hc]
    · exact beginContact_eq s i p hown.symm
    · cases phase with
      | down => exact absurd rfl hphase
      | move | up | other => rfl

end Sys2Proof.Machine

/-! PROOFS. SET LINE MAP and SET COMBINER (O30). -/

namespace Sys2Proof.Machine

/-! ## The fields of a SET LINE MAP payload -/

section
variable {p : List Byte} {e : LineEntry}

theorem level_of_code {c : Nat} {b : Bool} (h : c = 0 ∧ b = false ∨ c = 1 ∧ b = true) : decide (c = 1) = b := by
  rcases h with ⟨rfl, rfl⟩ | ⟨rfl, rfl⟩ <;> rfl

theorem ownerOfCode_eq {c : Nat} {o : Option Domain}
    (h : c = 0 ∧ o = none ∨ c = 1 ∧ o = some .app ∨ c = 2 ∧ o = some .pay ∨ c = 3 ∧ o = some .rad) : ownerOfCode c = o := by
  rcases h with ⟨rfl, rfl⟩ | ⟨rfl, rfl⟩ | ⟨rfl, rfl⟩ | ⟨rfl, rfl⟩ <;> rfl

theorem edgeOfCode_eq {c : Nat} {e : Edge} (h : c = 1 ∧ e = .rise ∨ c = 2 ∧ e = .fall ∨ c = 3 ∧ e = .both) :
    Edge.ofCode c = e := by
  rcases h with ⟨rfl, rfl⟩ | ⟨rfl, rfl⟩ | ⟨rfl, rfl⟩ <;> rfl

/-- A payload carries a map entry: each field of the entry has the code that the payload holds (TABLE N of Envelopes and
Formats). -/
structure CarriesEntry (p : List Byte) (e : LineEntry) : Prop where
  out : byteAt p 4 = 0 ∧ e.out = false ∨ byteAt p 4 = 1 ∧ e.out = true
  owner : byteAt p 5 = 0 ∧ e.owner = none ∨ byteAt p 5 = 1 ∧ e.owner = some .app ∨ byteAt p 5 = 2 ∧ e.owner = some .pay
    ∨ byteAt p 5 = 3 ∧ e.owner = some .rad
  edge : byteAt p 6 = 1 ∧ e.edge = .rise ∨ byteAt p 6 = 2 ∧ e.edge = .fall ∨ byteAt p 6 = 3 ∧ e.edge = .both
  expected : byteAt p 7 = 0 ∧ e.expected = false ∨ byteAt p 7 = 1 ∧ e.expected = true
  rest : byteAt p 8 = 0 ∧ e.rest = false ∨ byteAt p 8 = 1 ∧ e.rest = true
  tag : e.tag.toNat = byteAt p 9
  deliver : byteAt p 10 = 0 ∧ e.deliver = false ∨ byteAt p 10 = 1 ∧ e.deliver = true

theorem lineEntryOf_of_carries (h : CarriesEntry p e) : lineEntryOf p = e := by
  have tag : p.getD 9 0#8 = e.tag := BitVec.eq_of_toNat_eq h.tag.symm
  rw [lineEntryOf, level_of_code h.out, ownerOfCode_eq h.owner, edgeOfCode_eq h.edge, level_of_code h.expected,
    level_of_code h.rest, tag, level_of_code h.deliver]

/-- The fields of a SET LINE MAP payload that hold listed values (R150). -/
theorem lineFieldsListed_iff (p : List Byte) : lineFieldsListed p = true ↔ byteAt p 2 ≤ 11 ∧ byteAt p 4 ≤ 1 ∧ byteAt p 5 ≤ 3
    ∧ (1 ≤ byteAt p 6 ∧ byteAt p 6 ≤ 3) ∧ byteAt p 7 ≤ 1 ∧ byteAt p 8 ≤ 1 ∧ byteAt p 10 ≤ 1 := by
  simp only [lineFieldsListed, Bool.and_eq_true, decide_eq_true_eq, and_assoc]

theorem lineFieldsListed_of_carries (h : CarriesEntry p e) (hn : byteAt p 2 ≤ 11) : lineFieldsListed p = true := by
  obtain ⟨out, owner, edge, expected, rest, -, deliver⟩ := h
  rw [lineFieldsListed_iff]
  omega

end

section
variable {s : State} {m : Message} {n : Fin 12} {e : LineEntry}

/-! ## SET LINE MAP -/

/-- A line mapped as an IN line begins settling and keeps its mismatch state, so that nothing is evaluated (R150). -/
theorem mapLine_of_in (h : e.out = false) : s.mapLine n e = s.setLine n ⟨e, .settling none, (s.line n).mismatch, .resting⟩ := by
  simp [State.mapLine, Line.map, h, State.evaluateMismatch]

/-- A line mapped as an OUT line has no mismatch, which is a change where it had one (R150, R158). -/
theorem mapLine_of_out (h : e.out = true) : s.mapLine n e = if (s.line n).mismatch
    then (s.setLine n ⟨e, .off, false, .resting⟩).evaluate else s.setLine n ⟨e, .off, false, .resting⟩ := by
  cases hm : (s.line n).mismatch <;> simp [State.mapLine, Line.map, h, State.evaluateMismatch, hm]

theorem serve_setLineMap (h : setLineMapRequest.Heard s m) (hn : byteAt m.payload 2 = n.val) (he : CarriesEntry m.payload e) :
    setLineMapRequest.serve s = ((s.hubTake m).mapLine n e).complete m.tag [1#8, 6#8, 0#8, 0#8] := by
  have listed := lineFieldsListed_of_carries he (hn ▸ Nat.le_of_lt_succ n.isLt)
  rw [h.run (by simp [setLineMapRequest, badItem, listed]) rfl, ← lineOf_eq hn, ← lineEntryOf_of_carries he]
  rfl

theorem serve_setLineMap_refused (h : setLineMapRequest.Heard s m) (hb : lineFieldsListed m.payload = false) :
    setLineMapRequest.serve s = s.answered m [4#8, 6#8, 0#8, 0#8] :=
  h.parameter (.inl (by simp [setLineMapRequest, badItem, hb]))

/-! ## SET COMBINER -/

theorem serve_setCombiner (h : setCombinerRequest.Heard s m) : setCombinerRequest.serve s =
    State.complete (State.evaluate { s.hubTake m with combiner := s.combiner.configured m.payload }) m.tag
      [1#8, 7#8, 0#8, 0#8] := by
  have combiner : (s.hubTake m).combiner = s.combiner := by simp
  rw [h.run rfl rfl, ← combiner]
  rfl

end

/-- Settles O30: each request passes checks 1 to 4, and the entry that the payload carries (`lineEntryOf_of_carries`) decides, as
that of an IN line or of an OUT line (`mapLine_of_in`, `mapLine_of_out`), what becomes of the line. -/
theorem lineAndCombinerSettings : Obligations.LineAndCombinerSettings := by
  unfold Obligations.LineAndCombinerSettings
  rintro s _ m rest _ ht rfl hs rfl
  have issuer : payOnly m.sender = true := decide_eq_true hs
  have mismatch (n : Fin 12) : ((s.hubTake m).line n).mismatch = (s.line n).mismatch := by simp
  refine ⟨fun n e hp hl hn out owner edge expected rest tag deliver => ?_, fun hp hl bad => ?_, fun hp hl => ?_⟩
  · have heard : setLineMapRequest.Heard s m := HubRequest.heard_of_code ht hp (by decide) rfl issuer rfl hl
    have served := serve_setLineMap heard hn ⟨out, owner, edge, expected, rest, tag, deliver⟩
    refine ⟨fun ho => congrArg Host.Outcome.next ?_, fun ho => ⟨_, rfl, congrArg Host.Outcome.next ?_⟩⟩
    · rw [served, mapLine_of_in ho, mismatch]
    · rw [served, mapLine_of_out ho, mismatch]
  · have heard : setLineMapRequest.Heard s m := HubRequest.heard_of_code ht hp (by decide) rfl issuer rfl hl
    refine congrArg Host.Outcome.next (serve_setLineMap_refused heard (Bool.eq_false_iff.2 fun listed => ?_))
    rw [lineFieldsListed_iff] at listed
    omega
  · have heard : setCombinerRequest.Heard s m := HubRequest.heard_of_code ht hp (by decide) rfl issuer rfl hl
    exact congrArg Host.Outcome.next (serve_setCombiner heard)

end Sys2Proof.Machine

/-! PROOFS. The sampling of the input lines (O47). -/

namespace Sys2Proof.Machine

section
variable {s : State} {n : Fin 12} {level : Bool}

/-! ## What the owner is told -/

theorem fits_iff (e : Edge) (level : Bool) :
    e.fits level = true ↔ e = .both ∨ (e = .rise ∧ level = true) ∨ (e = .fall ∧ level = false) := by
  cases e <;> simp [Edge.fits]

theorem not_fits_iff (e : Edge) (level : Bool) :
    e.fits level = false ↔ (e = .rise ∧ level = false) ∨ (e = .fall ∧ level = true) := by
  cases e <;> simp [Edge.fits]

/-- A change that matches the edge is told to the domain that owns the line (R153). -/
theorem tellOwner_of_fits {d : Domain} (ho : (s.line n).entry.owner = some d) (hf : (s.line n).entry.edge.fits level = true) :
    s.tellOwner n level = if (s.line n).entry.deliver then
      (s.raise d .line).placeEvent d.firstLane (.line (s.line n).entry.tag n level (s.line n).mismatch)
    else s.raise d .line := by
  simp only [State.tellOwner, ho, hf, if_true]

theorem tellOwner_of_silent (h : (s.line n).entry.owner = none ∨ (s.line n).entry.edge.fits level = false) :
    s.tellOwner n level = s := by
  unfold State.tellOwner
  rcases h with h | h
  · simp only [h]
  · cases ho : (s.line n).entry.owner <;> simp [ho, h]

/-- No line's record is changed. -/
theorem tellOwner_line (s : State) (n : Fin 12) (level : Bool) (j : Fin 12) : (s.tellOwner n level).line j = s.line j := by
  unfold State.tellOwner
  dsimp only
  (repeat' split) <;> simp

/-! ## A line's sample -/

/-- What becomes of a line by its filter at a sample: a settling ends with its candidate level, a filtered change to the sample's
level falls, or neither (R151, R152). -/
def Filter.atSample {α : Type} (level : Bool) (ends changes : Bool → α) (neither : α) : Filter → α
  | .settling (some (candidate, run)) => if level = candidate ∧ 2 ≤ run then ends candidate else neither
  | .settled filtered count => if level ≠ filtered ∧ 2 ≤ count then changes level else neither
  | .off | .settling none => neither

/-- Neither a settling's end nor a filtered change falls at a sample. -/
def Filter.Quiet (level : Bool) (f : Filter) : Prop :=
  match f with
  | .settling (some (candidate, run)) => level = candidate → run < 2
  | .settled filtered count => level ≠ filtered → count < 2
  | .off | .settling none => True

/-- The filter after a sample at which neither falls (R151, R152). -/
def Filter.counted (level : Bool) : Filter → Filter
  | .off => .off
  | .settling none => .settling (some (level, 1))
  | .settling (some (candidate, run)) =>
    if level ≠ candidate then .settling (some (level, 1)) else .settling (some (candidate, run + 1))
  | .settled filtered count => if level = filtered then .settled filtered 0 else .settled filtered (count + 1)

/-- The record that a sample makes of a line, but for its output state (R151, R152, R154). -/
def Line.sampled (level : Bool) (r : Line) : Line :=
  r.filter.atSample level r.take r.take { r with filter := r.filter.counted level }

theorem map_atSample {α β : Type} (g : α → β) (ends changes : Bool → α) (neither : α) (f : Filter) :
    g (f.atSample level ends changes neither) = f.atSample level (fun c => g (ends c)) (fun c => g (changes c)) (g neither) := by
  rcases f with _ | (_ | ⟨candidate, run⟩) | ⟨filtered, count⟩
  · rfl
  · rfl
  · exact apply_ite g ..
  · exact apply_ite g ..

theorem atSample_const {α : Type} (a : α) (f : Filter) : f.atSample level (fun _ => a) (fun _ => a) a = a := by
  rcases f with _ | (_ | ⟨candidate, run⟩) | ⟨filtered, count⟩
  · rfl
  · rfl
  · exact ite_self a
  · exact ite_self a

theorem atSample_of_quiet {α : Type} {f : Filter} (h : f.Quiet level) (ends changes : Bool → α) (neither : α) :
    f.atSample level ends changes neither = neither := by
  rcases f with _ | (_ | ⟨candidate, run⟩) | ⟨filtered, count⟩
  · rfl
  · rfl
  · exact if_neg fun ⟨hc, hr⟩ => Nat.not_lt.2 hr (h hc)
  · exact if_neg fun ⟨hl, hc⟩ => Nat.not_lt.2 hc (h hl)

/-- Replacing a line's record by itself changes nothing. -/
theorem setLine_line (s : State) (n : Fin 12) : s.setLine n (s.line n) = s := by
  simp [State.setLine, State.line]

/-- The sample of a line, by what becomes of it. -/
theorem sampleLine_eq (levels : BitVec 12) (s : State) (n : Fin 12) : State.sampleLine levels s n =
    (s.line n).filter.atSample (levels.getLsbD n.val) (s.settle n) (s.filteredChange n)
      (s.setFilter n ((s.line n).filter.counted (levels.getLsbD n.val))) := by
  have off (h : (s.line n).filter = .off) : s.setFilter n .off = s := by rw [State.setFilter, ← h, setLine_line]
  unfold State.sampleLine
  generalize levels.getLsbD n.val = level
  rcases hf : (s.line n).filter with _ | (_ | ⟨candidate, run⟩) | ⟨filtered, count⟩
  · exact (off hf).symm
  · rfl
  · have early : run + 1 < 3 ↔ ¬2 ≤ run := by omega
    by_cases hc : level = candidate <;> by_cases hr : 2 ≤ run <;> simp [Filter.atSample, Filter.counted, early, hc, hr]
  · have early : count < 2 ↔ ¬2 ≤ count := Nat.not_le.symm
    by_cases hl : level = filtered <;> by_cases hc : 2 ≤ count <;> simp [Filter.atSample, Filter.counted, early, hl, hc]

/-! ## The records after a sampling -/

/-- A line's record but for its output state, which the entry into LOCKDOWN changes too (R157). -/
def Line.input (r : Line) : Line := { r with output := .resting }

theorem input_sampled (level : Bool) (r : Line) : (r.sampled level).input = r.input.sampled level := by
  rw [Line.sampled, map_atSample Line.input]
  rfl

/-- The fields of a sampled line's record (R151, R152, R154). -/
theorem fields_of_input {q r : Line} (h : q.input = r.input.sampled level) : q.entry = r.entry
    ∧ q.filter = r.filter.atSample level (Filter.settled · 0) (Filter.settled · 0) (r.filter.counted level)
    ∧ q.mismatch = r.filter.atSample level (· != r.entry.expected) (· != r.entry.expected) r.mismatch := by
  rw [← input_sampled, Line.sampled] at h
  exact ⟨(congrArg Line.entry h).trans ((map_atSample Line.entry ..).trans (atSample_const ..)),
    (congrArg Line.filter h).trans (map_atSample Line.filter ..),
    (congrArg Line.mismatch h).trans (map_atSample Line.mismatch ..)⟩

/-- An evaluation changes output states alone of the lines' records. -/
theorem evaluate_input (s : State) (j : Fin 12) : (s.evaluate.line j).input = (s.line j).input := by
  unfold State.evaluate State.lockdownIfDue
  split
  · rw [enterLockdown_line]
    split <;> simp [Line.input]
  · simp

theorem evaluateMismatch_input (was : Bool) (n : Fin 12) (s : State) (j : Fin 12) :
    ((s.evaluateMismatch was n).line j).input = (s.line j).input := by
  unfold State.evaluateMismatch
  split
  · rfl
  · exact evaluate_input s j

theorem setLine_input (s : State) (n : Fin 12) (r : Line) (j : Fin 12) :
    ((s.setLine n r).line j).input = if j = n then r.input else (s.line j).input := by
  rw [State.line_setLine, apply_ite Line.input]

theorem settle_input (s : State) (n : Fin 12) (level : Bool) (j : Fin 12) :
    ((s.settle n level).line j).input = if j = n then ((s.line n).take level).input else (s.line j).input := by
  rw [State.settle, evaluateMismatch_input, setLine_input]

theorem filteredChange_input (s : State) (n : Fin 12) (level : Bool) (j : Fin 12) :
    ((s.filteredChange n level).line j).input = if j = n then ((s.line n).take level).input else (s.line j).input := by
  rw [State.filteredChange, evaluateMismatch_input, tellOwner_line, setLine_input]

/-- A sample of one line changes the output states alone of the others. -/
theorem sampleLine_input (levels : BitVec 12) (s : State) (n j : Fin 12) : ((State.sampleLine levels s n).line j).input =
    if j = n then (s.line n).input.sampled (levels.getLsbD n.val) else (s.line j).input := by
  rw [sampleLine_eq, map_atSample fun u : State => (u.line j).input]
  simp only [settle_input, filteredChange_input, State.setFilter, setLine_input]
  split
  · rw [← input_sampled, Line.sampled, map_atSample Line.input]
  · exact atSample_const _ _

/-- Each line's record after a sampling of distinct lines. -/
theorem foldl_sampleLine_input (levels : BitVec 12) {xs : List (Fin 12)} (hx : xs.Nodup) (s : State) (j : Fin 12) :
    ((xs.foldl (State.sampleLine levels) s).line j).input =
      if j ∈ xs then (s.line j).input.sampled (levels.getLsbD j.val) else (s.line j).input := by
  induction xs generalizing s with
  | nil => rfl
  | cons n xs ih =>
    obtain ⟨hn, hx⟩ := List.nodup_cons.1 hx
    rw [List.foldl_cons, ih hx, sampleLine_input]
    by_cases e : j = n
    · subst e; simp [hn]
    · simp [e]

/-- Where no filtered change and no settling's end falls, a sampling changes line records alone. -/
theorem foldl_sampleLine_of_quiet {levels : BitVec 12} {xs : List (Fin 12)} (hx : xs.Nodup) {s : State}
    (h : ∀ n ∈ xs, (s.line n).filter.Quiet (levels.getLsbD n.val)) :
    xs.foldl (State.sampleLine levels) s = { s with lines := (xs.foldl (State.sampleLine levels) s).lines } := by
  induction xs generalizing s with
  | nil => rfl
  | cons n xs ih =>
    obtain ⟨hn, hx⟩ := List.nodup_cons.1 hx
    rw [List.foldl_cons, sampleLine_eq, atSample_of_quiet (h n (List.mem_cons_self ..))]
    refine ih hx fun j hj => ?_
    have e : j ≠ n := fun e => hn (e ▸ hj)
    rw [State.setFilter, State.line_setLine, if_neg e]
    exact h j (List.mem_cons_of_mem _ hj)

/-! ## The commands -/

theorem exec_lineSample (hr : s.inReset = false) (levels : BitVec 12) :
    exec (.lineSample levels) s = .next ((List.finRange 12).foldl (State.sampleLine levels) s) := by
  simp [exec, execLineSample, hr]

/-- The sample of a line that differs from its filtered level with the count at 2 (R151). -/
theorem exec_filteredChange (hf : (s.line n).filter = .settled (!level) 2) :
    exec (.filteredChange n) s = .next (s.filteredChange n level) := by
  simp [exec, execFilteredChange, hf]

/-- The sample of a line that brings its run to 3 (R152). -/
theorem exec_settlingEnd (hf : (s.line n).filter = .settling (some (level, 2))) :
    exec (.settlingEnd n) s = .next (s.settle n level) := by
  simp [exec, execSettlingEnd, hf]

end

/-- Settles O47: a line's share is its sample by what becomes of the line (`sampleLine_eq`). A share changes the output states alone
of the other lines, so that each sees its own record as it stood (`foldl_sampleLine_input`), and where neither a filtered change nor
a settling's end falls it is its line's record alone (`foldl_sampleLine_of_quiet`). -/
theorem linesSampled : Obligations.LinesSampled := by
  unfold Obligations.LinesSampled
  intro s levels take tell change settle filtered share judge hr htake htell hjudge hchange hsettle hfiltered hshare
  have tells (q : State) (n : Fin 12) (level : Bool) : tell q n level = q.tellOwner n level := by
    obtain ⟨told, silent⟩ := htell q n level _ rfl
    cases ho : (q.line n).entry.owner with
    | none => rw [silent (.inl ho), tellOwner_of_silent (.inl ho)]
    | some d =>
      cases hf : (q.line n).entry.edge.fits level with
      | true =>
        rw [told d ho ((fits_iff _ _).1 hf), tellOwner_of_fits ho hf]
        cases d <;> rfl
      | false => rw [silent (.inr ((not_fits_iff _ _).1 hf)), tellOwner_of_silent (.inr hf)]
  have settles (q : State) (n : Fin 12) (level : Bool) : settle q n level = q.settle n level := by
    rw [hsettle, hjudge, htake]; rfl
  have changes (q : State) (n : Fin 12) (level : Bool) : change q n level = q.filteredChange n level := by
    rw [hchange, hjudge, tells, htake]; rfl
  have shares : share = State.sampleLine levels := by
    funext q n
    rw [hshare, hfiltered, sampleLine_eq, ← funext (settles q n), ← funext (changes q n)]
    rfl
  refine ⟨⟨_, exec_lineSample hr levels, by rw [shares], fun quiet => ?_, fun n => ?_⟩,
    fun n level => ⟨fun hf => ?_, fun hf => ?_⟩⟩
  · exact foldl_sampleLine_of_quiet (List.nodup_finRange 12) fun n _ => quiet n
  · have record := foldl_sampleLine_input levels (List.nodup_finRange 12) s n
    rw [if_pos (List.mem_finRange n)] at record
    obtain ⟨entry, filter, mismatch⟩ := fields_of_input record
    refine ⟨entry, filter.trans ?_, mismatch⟩
    generalize levels.getLsbD n.val = level
    rcases (s.line n).filter with _ | (_ | ⟨candidate, run⟩) | ⟨held, count⟩
    · rfl
    · rfl
    · have early : run < 2 ↔ ¬2 ≤ run := Nat.not_le.symm
      by_cases hc : level = candidate <;> by_cases hr : 2 ≤ run <;> simp [Filter.atSample, Filter.counted, early, hc, hr]
    · have early : count < 2 ↔ ¬2 ≤ count := Nat.not_le.symm
      by_cases hl : level = held <;> by_cases hc : 2 ≤ count <;> simp [Filter.atSample, Filter.counted, early, hl, hc]
  · rw [exec_filteredChange hf, changes]
  · rw [exec_settlingEnd hf, settles]

end Sys2Proof.Machine

/-! PROOFS. The event lines of a domain (O48). -/

namespace Sys2Proof.Machine

/-! ## Flags and their groups -/

/-- The group of the flag at a position, by the group's bit in SET NOTICES (TABLE G and TABLE N). -/
def flagGroup (b : Nat) : Nat := if b < 8 then 0 else if b < 16 then 1 else b - 14

theorem flagGroup_eq_iff {b g : Nat} :
    flagGroup b = g ↔ b < 8 ∧ g = 0 ∨ 8 ≤ b ∧ b < 16 ∧ g = 1 ∨ 16 ≤ b ∧ b = g + 14 := by
  unfold flagGroup
  split_ifs <;> omega

/-- The mask of a group has the positions of the group's flags alone. -/
theorem getLsbD_groupMask (g b : Nat) : (groupMask g).getLsbD b = true ↔ b < 32 ∧ flagGroup b = g := by
  rw [flagGroup_eq_iff]
  have low (b : Nat) : (0xFF#32).getLsbD b = true ↔ b < 8 := by
    rw [show 0xFF#32 = BitVec.ofNat 32 (2 ^ 8 - 1) from rfl, BitVec.getLsbD_ofNat, Nat.testBit_two_pow_sub_one,
      Bool.and_eq_true, decide_eq_true_iff, decide_eq_true_iff]
    omega
  match g with
  | 0 =>
    rw [show groupMask 0 = 0xFF#32 from rfl, low]
    omega
  | 1 =>
    rw [show groupMask 1 = 0xFF#32 <<< 8 from rfl, BitVec.getLsbD_shiftLeft]
    simp [low]
    omega
  | g + 2 =>
    rw [show groupMask (g + 2) = 1#32 <<< (14 + (g + 2)) from rfl, BitVec.getLsbD_shiftLeft]
    simp
    omega

/-- A bit vector is not zero where one of its bits is set. -/
theorem ne_zero_iff_exists_getLsbD {w : Nat} (x : BitVec w) : x ≠ 0#w ↔ ∃ b, x.getLsbD b = true := by
  refine ⟨fun h => ⟨_, BitVec.getLsbD_true_ctz_of_ne_zero h⟩, ?_⟩
  rintro ⟨b, hb⟩ rfl
  simp at hb

/-- A group drives a line while it is enabled and one of its flags is set (R163). -/
theorem drives_iff (r : DomainRecord) (g : Nat) :
    r.drives g = true ↔ r.enables.getLsbD g = true ∧ ∃ b, r.flags.getLsbD b = true ∧ flagGroup b = g := by
  have member (b : Nat) : (r.flags &&& groupMask g).getLsbD b = true ↔ r.flags.getLsbD b = true ∧ flagGroup b = g := by
    rw [BitVec.getLsbD_and, Bool.and_eq_true, getLsbD_groupMask]
    exact and_congr_right fun set => and_iff_right (BitVec.lt_of_getLsbD set)
  rw [DomainRecord.drives, Bool.and_eq_true, decide_eq_true_iff, ne_zero_iff_exists_getLsbD]
  simp only [member]

/-- Where the flags lie among the 25 positions of TABLE G, a group with a property drives a line while a set flag belongs to an
enabled group with that property. -/
theorem any_drives_iff {r : DomainRecord} (hf : ∀ b, 25 ≤ b → r.flags.getLsbD b = false) (p : Nat → Bool) :
    ((List.range 11).any fun g => r.drives g && p g) = true
      ↔ ∃ b, r.flags.getLsbD b = true ∧ r.enables.getLsbD (flagGroup b) = true ∧ p (flagGroup b) = true := by
  have listed {b : Nat} (set : r.flags.getLsbD b = true) : flagGroup b < 11 := by
    have : b < 25 := Nat.lt_of_not_le fun beyond => by simp [hf b beyond] at set
    have := flagGroup_eq_iff.1 (rfl : flagGroup b = _)
    omega
  simp only [List.any_eq_true, List.mem_range, Bool.and_eq_true, drives_iff]
  constructor
  · rintro ⟨_, -, ⟨enabled, b, set, rfl⟩, hp⟩
    exact ⟨b, set, enabled, hp⟩
  · rintro ⟨b, set, enabled, hp⟩
    exact ⟨flagGroup b, listed set, ⟨enabled, b, set, rfl⟩, hp⟩

/-! ## The lines -/

section
variable {s : State} {d : Domain}

/-- The lines are held inactive in reset and while the domain is HELD (R163). -/
theorem linesHeld_iff : s.linesHeld d = true ↔ s.inReset = true ∨ (s.dom d).status = .held := by
  rw [State.linesHeld, Bool.or_eq_true, decide_eq_true_iff]

theorem urgentLine_of_held (h : s.linesHeld d = true) : s.urgentLine d = false := by simp [State.urgentLine, h]

theorem routineLine_of_held (h : s.linesHeld d = true) : s.routineLine d = false := by simp [State.routineLine, h]

theorem urgentLine_iff (h : s.linesHeld d = false) (hf : ∀ b, 25 ≤ b → (s.dom d).flags.getLsbD b = false) :
    s.urgentLine d = true ↔ ∃ b, (s.dom d).flags.getLsbD b = true ∧ (s.dom d).enables.getLsbD (flagGroup b) = true
      ∧ ((s.dom d).split = true → (s.dom d).urgent.getLsbD (flagGroup b) = true) := by
  rw [State.urgentLine, h, Bool.not_false, Bool.true_and, any_drives_iff hf]
  simp only [Bool.or_eq_true, Bool.not_eq_true', ← Bool.not_eq_true, ← imp_iff_not_or]

theorem routineLine_iff (h : s.linesHeld d = false) (hf : ∀ b, 25 ≤ b → (s.dom d).flags.getLsbD b = false) :
    s.routineLine d = true ↔ (s.dom d).split = true ∧ ∃ b, (s.dom d).flags.getLsbD b = true
      ∧ (s.dom d).enables.getLsbD (flagGroup b) = true ∧ (s.dom d).urgent.getLsbD (flagGroup b) = false := by
  rw [State.routineLine, h, Bool.not_false, Bool.true_and, Bool.and_eq_true, any_drives_iff hf]
  simp only [Bool.not_eq_true']

end

/-- Settles O48: a group drives a line while it is enabled and one of its flags is set (`drives_iff`), the groups of the 25
positions are the eleven that the lines look at (`any_drives_iff`), and a line that is not held follows them. -/
theorem eventLines : Obligations.EventLines := by
  unfold Obligations.EventLines
  intro s d group hgroup hf
  obtain rfl : group = flagGroup := funext hgroup
  refine ⟨fun held => ?_, fun running notHeld => ?_⟩
  · have held := linesHeld_iff.2 held
    exact ⟨urgentLine_of_held held, routineLine_of_held held⟩
  · have free : s.linesHeld d = false :=
      Bool.eq_false_iff.2 fun held => (linesHeld_iff.1 held).elim (by simp [running]) notHeld
    exact ⟨urgentLine_iff free hf, routineLine_iff free hf⟩

end Sys2Proof.Machine

/-! PROOFS. A step with a command waiting (O1). -/

namespace Sys2Proof.Machine

/-- Settles O1: of the two branches of a step, a queue that is not empty takes the command's. -/
theorem stepRunsFrontCommand : Obligations.StepRunsFrontCommand := by
  unfold Obligations.StepRunsFrontCommand
  intro c rest s front
  rw [step, front]

end Sys2Proof.Machine
